-- ==== Sys2Proof/Word.lean ====
section
/-! DEFINITION. The word types of the coordinator: bytes of a frame, 32-bit data words and counters, 16-bit converter codes and ids. -/

namespace Sys2Proof

/-- One byte of a frame (R160): the request code, the selector, the status byte, the CRC-8. -/
abbrev Byte := BitVec 8

/-- One 32-bit word: a data word D0, D1, D2 of a frame, a word of a model image, a cell time or a wrapping counter. -/
abbrev Word := BitVec 32

/-- A 16-bit quantity: a converter code (R6), a zero code or slope (Table 1.2), a probe id (Table 6.1). -/
abbrev Half := BitVec 16

end Sys2Proof
end

