-- ==== Sys2Proof/Config.lean ====
section
/-! DEFINITION. The free values of the model: constants without a body, so that no proof can see what they are. -/

namespace Sys2Proof

/-- FREE VALUE (log entry 4). The converter code that the addressed sensor channel gives at a completion which the
block takes by itself on an empty queue: the sensor inputs are outside the part (Table 0.2), so the spec fixes no code.
Applied to the counter `freeIndex` of State. -/
opaque Config.converterCode : Nat → Half

/-- FREE VALUE (log entry 3). Which of several events that fall together at one cell time is taken first, where the
queue holds none of them: the rules leave the order open ("either may be taken first", R9, R95, R98, R119, R135).
Applied to the counter `freeIndex` of State. -/
opaque Config.eventChoice : Nat → Nat

/-- FREE VALUE (log entry 7). The bits of an answer word for a field whose record is absent and for which neither the
owning rule nor R173 gives an absent value. Applied to the counter `freeIndex` of State. -/
opaque Config.unstatedWord : Nat → Word

end Sys2Proof
end

