-- ==== Sys2Proof/Syntax.lean ====
section
/-! DEFINITION. The commands of the coordinator: one constructor of Instr for each row of spec/opcode_table.json, with
the operands the chapters give it. -/

namespace Sys2Proof

/-- The two arms of the cell, Arm A and Arm B. -/
inductive Arm
  | a
  | b
  deriving DecidableEq, Repr

/-- The three serial links: one to the motion controller of each arm and one to the Cell Computer. -/
inductive Link
  | armA
  | armB
  | cell
  deriving DecidableEq, Repr

/-- What an accepted frame carries besides its request code (Table A.1): the link that carried it, the selector and
the three data words. -/
structure Request where
  /-- The link whose frame carried the request. -/
  link : Link
  /-- Byte 1 of the frame. -/
  sel : Byte
  /-- Bytes 2 to 5, least significant byte first. -/
  d0 : Word
  /-- Bytes 6 to 9. -/
  d1 : Word
  /-- Bytes 10 to 13. -/
  d2 : Word
  deriving DecidableEq, Repr

/-- One command of the coordinator. A constructor with a `Request` is the end of an accepted frame that carries that
request (R161, R162); the others are the other events of the part: the reset input, the beginning and the other ends
of a frame, completions, expiries and changes of an input line. -/
inductive Instr
  /-- RESET_INPUT_ASSERTED (R171). Assertion of the reset input puts every block in its device-reset state, holds cell time at 0 and holds the outputs at their reset levels. -/
  | resetInputAsserted
  /-- RESET_INPUT_DEASSERTED (R171). Deassertion of the reset input starts cell time from 0, judges each permit sense against the off command, starts every slot settle timer and arms each link port for its first frame. -/
  | resetInputDeasserted
  /-- FRAME_BEGIN (R160). The master asserts select and the link port forms the 16 reply bytes: status byte, reply buffer, attention source code and CRC-8. -/
  | frameBegin (link : Link)
  /-- FRAME_DISCARD (R163). A frame fails its clock count, CRC-8 or byte-14 check; the reply buffer becomes FRAME_ERROR, the run count rises, and on an arm link LINK may become present. -/
  | frameDiscard (link : Link)
  /-- UNKNOWN_REQUEST (R164). An accepted frame whose request code names no request is answered UNKNOWN with three zero words. -/
  | unknownRequest (code : Byte) (r : Request)
  /-- NOP (R169). Accepted no-operation, answered OK with three zero words, with all the effects of an accepted frame. -/
  | nop (r : Request)
  /-- READ_TIME (R169). Returns the cell time, the run counts of the three links and their RESET bits. -/
  | readTime (r : Request)
  /-- READ_TEMP (R23). Returns a part of one sensor record. -/
  | readTemp (r : Request)
  /-- READ_GROUPS (R23). Returns a part of the group values, the sequencer record, the settings or the sequence list. -/
  | readGroups (r : Request)
  /-- READ_MODEL (R40). Returns a part of the model store: tag, check state and result, CRCs and commit count, or one STAGING and ACTIVE word. -/
  | readModel (r : Request)
  /-- READ_ZONE (R80). Returns a zone record, the table summary with the pending claims, or the guard record of an arm. -/
  | readZone (r : Request)
  /-- READ_ARM (R102). Returns a part of an arm's supervisor, its settings, its pending claim or its last position record. -/
  | readArm (r : Request)
  /-- READ_PROBE (R117). Returns a part of a probe entry, or the summary of the registry. -/
  | readProbe (r : Request)
  /-- READ_SLOT (R137). Returns one slot record, or the sets of slots by state together with the change timeout. -/
  | readSlot (r : Request)
  /-- READ_CHANGE (R137). Returns a part of an arm's change context and change timer. -/
  | readChange (r : Request)
  /-- ATTN_TAKE (R153). Puts the eligible source of highest rank in service, clears its pending flag and detail, and returns its code and detail. -/
  | attnTake (r : Request)
  /-- ATTN_DONE (R154). Clears the in-service flag of the highest-ranked source in service. -/
  | attnDone (r : Request)
  /-- ATTN_ENABLE (R155). Writes the master enable and the source enables of the link's unit, and clears pending flags and details of sources that end disabled. -/
  | attnEnable (r : Request)
  /-- ARM_ENABLE (R91). Moves a DISABLED arm with no recorded LATCHED cause to STARTING and starts its report timer. -/
  | armEnable (r : Request)
  /-- ARM_DISABLE (R92). Moves the arm to DISABLED, stops its report timer, turns its permit off and withdraws its pending claim. -/
  | armDisable (r : Request)
  /-- ARM_RESET (R93). Returns the arm to DISABLED, clears all its causes and resolves its open work in other blocks as one event. -/
  | armReset (r : Request)
  /-- POSITION (R53). Compensates the arm's three raw words, writes its last position record, hands it to the zone arbiter and supervisor, and returns the corrected values. -/
  | position (r : Request)
  /-- TOUCH (R142). Checks and compensates a touch, adds the tip offset, forms the flags and appends a touch record to the arm's queue. -/
  | touch (r : Request)
  /-- CLAIM (R66). Claims a range of zones for the arm, answered GRANTED, PENDING or refused. -/
  | claim (r : Request)
  /-- CLAIM_WITHDRAW (R71). Removes the arm's pending claim and its waiter marks, if any. -/
  | claimWithdraw (r : Request)
  /-- RELEASE (R73). Frees a range of zones held by the arm and not needed at its last position, then re-evaluates the pending claim. -/
  | release (r : Request)
  /-- CHANGE_OPEN (R126). Opens a probe change in DEPOSIT or PICK, releases the slot concerned and starts the change timer. -/
  | changeOpen (r : Request)
  /-- CHANGE_CLOSE (R129). Ends a change in FINISH, mounting the take probe when the head id matches it, or ending in WRONG_PROBE when it does not. -/
  | changeClose (r : Request)
  /-- CHANGE_ABORT (R131). Ends a change in DEPOSIT or PICK, restoring the released slot and the head. -/
  | changeAbort (r : Request)
  /-- SENSOR_SET (R4). Writes a sensor's role, zero code, slope and filter shift, and starts the sensor afresh. -/
  | sensorSet (r : Request)
  /-- SEQ_LIST_SET (R5). Writes entries of the sequence list from a given position and sets the list length. -/
  | seqListSet (r : Request)
  /-- SEQ_START (R7). Stores the round period and starts the sequencer running rounds from position 0. -/
  | seqStart (r : Request)
  /-- SEQ_STOP (R10). Stops the sequencer at once, or moves it to STOPPING while a conversion is in flight. -/
  | seqStop (r : Request)
  /-- CONVERT_ONE (R11). Starts or queues a single conversion of one sensor. -/
  | convertOne (r : Request)
  /-- SENSOR_UNLOCK (R18). Returns a LOCKED_OUT sensor to WAITING and empties its failure history. -/
  | sensorUnlock (r : Request)
  /-- TEMP_SET (R22). Writes the hold time, the spread limit and the deglitch count together. -/
  | tempSet (r : Request)
  /-- MODEL_LOAD (R28). Writes one or two words of the STAGING image. -/
  | modelLoad (r : Request)
  /-- MODEL_REVERT (R29). Copies ACTIVE into STAGING, or zeroes STAGING while ACTIVE is EMPTY. -/
  | modelRevert (r : Request)
  /-- MODEL_CHECK (R30). Stores the expected CRC and starts a model check that completes 2 ms later. -/
  | modelCheck (r : Request)
  /-- ZONE_DEFINE (R63). Defines or undefines a zone and recomputes each arm's needed set and verdict. -/
  | zoneDefine (r : Request)
  /-- ZONE_FREE (R74). Frees every zone held by a DISABLED arm, then re-evaluates the pending claim and the freed arm's verdict. -/
  | zoneFree (r : Request)
  /-- ARM_SET (R81). Writes one part of a DISABLED arm's settings and acts on the causes whose mode changes. -/
  | armSet (r : Request)
  /-- FAULT_CLEAR (R94). Clears the recorded flags of named causes that are not present, and may move a STOPPED arm to STARTING. -/
  | faultClear (r : Request)
  /-- PROBE_SET (R106). Writes the use limit and the drift limit of the registry. -/
  | probeSet (r : Request)
  /-- PROBE_REGISTER (R107). Registers a probe in an UNCLAIMED slot, which becomes STORED. -/
  | probeRegister (r : Request)
  /-- PROBE_TIP_WRITE (R108). Appends or overwrites one tip of a probe and makes the probe UNQUALIFIED. -/
  | probeTipWrite (r : Request)
  /-- PROBE_TIP_CLEAR (R109). Empties a probe's tip list and makes it UNQUALIFIED. -/
  | probeTipClear (r : Request)
  /-- PROBE_QUALIFY (R110). Stamps the rack temperature as Tcal, sets the use count to 0 and makes the probe QUALIFIED. -/
  | probeQualify (r : Request)
  /-- PROBE_RESERVE (R112). Reserves a probe for a named arm. -/
  | probeReserve (r : Request)
  /-- PROBE_UNRESERVE (R112). Clears a probe's reservation. -/
  | probeUnreserve (r : Request)
  /-- PROBE_REMOVE (R113). Frees the entry of a STORED or MISSING probe; a STORED slot that held it becomes UNCLAIMED. -/
  | probeRemove (r : Request)
  /-- RACK_SET (R124). Writes the change timeout. -/
  | rackSet (r : Request)
  /-- SLOT_SERVICE (R136). Reads the settled presence of a BLOCKED slot and sets it STORED, UNCLAIMED or VACANT. -/
  | slotService (r : Request)
  /-- TOUCH_SET (R145). Writes the blank time and the fill level common to both queues. -/
  | touchSet (r : Request)
  /-- TOUCH_HEAD (R146). Returns a part of the oldest touch record of an arm's queue, or the queue's state. -/
  | touchHead (r : Request)
  /-- TOUCH_DROP (R147). Removes the oldest record of an arm's queue when its sequence matches D0. -/
  | touchDrop (r : Request)
  /-- ALARM_SET (R158). Writes the alarm map and judges the cell-alarm line against it. -/
  | alarmSet (r : Request)
  /-- CONVERSION_COMPLETION (R6). A conversion completes 4 ms after its start; the code is classified and the sensor judged, and the sequencer goes on. -/
  | conversionCompletion (code : Half)
  /-- ROUND_TIMER_EXPIRY (R9). The round timer expires, starting the next round or setting the expired mark. -/
  | roundTimerExpiry
  /-- LEFT_VALID_TIME_EXPIRY (R19). 600,000 ms after it was set, a sensor's left-valid time becomes absent. -/
  | leftValidTimeExpiry (sensor : Fin 16)
  /-- MODEL_CHECK_COMPLETION (R36). The model check completes 2 ms after it was taken, making its four tests and committing STAGING to ACTIVE if they pass. -/
  | modelCheckCompletion
  /-- REPORT_TIMER_EXPIRY (R98). The arm's report timer expires, making OVERDUE present. -/
  | reportTimerExpiry (arm : Arm)
  /-- PERMIT_SENSE_CHANGE (R100). A change of the permit-sense level outside a settle window is judged against the permit command. -/
  | permitSenseChange (arm : Arm) (level : Bool)
  /-- SETTLE_WINDOW_EXPIRY (R100). The 2 ms permit settle window expires, and sense and command are compared. -/
  | settleWindowExpiry (arm : Arm)
  /-- PRESENCE_RAW_CHANGE (R119). A change of a slot's raw presence level restarts its 20 ms settle timer. -/
  | presenceRawChange (slot : Fin 12) (level : Bool)
  /-- PRESENCE_SETTLE_EXPIRY (R119). A slot's settle timer expires, and a differing raw level becomes a settled change of the slot. -/
  | presenceSettleExpiry (slot : Fin 12)
  /-- CHANGE_TIMER_EXPIRY (R132). An arm's change timer expires, and the change is resolved by its phase and ends in fault. -/
  | changeTimerExpiry (arm : Arm)
  /-- BLANK_TIMER_EXPIRY (R144). An arm's blank timer expires, and later touches no longer carry BLANK. -/
  | blankTimerExpiry (arm : Arm)
  /-- PASSED_OVER_FRAME_END (R168). The master deasserts select at the end of a frame whose select was held when the device reset was taken; the port takes nothing from it and is ready for its first frame after the reset. -/
  | passedOverFrameEnd (link : Link)
  deriving DecidableEq, Repr

end Sys2Proof
end

