-- ==== Sys2Proof/Machine/State.lean ====
section
/-! DEFINITION. The state of the coordinator: every record of Table 0.1 and every line of Table 0.2, as plain data, with
the queue of waiting commands; the reasons a step can stop; and the machine right after reset. -/

namespace Sys2Proof.Machine

/-- One value for each arm. -/
structure PerArm (α : Type) where
  a : α
  b : α
  deriving DecidableEq, Repr

/-- One value for each link. -/
structure PerLink (α : Type) where
  armA : α
  armB : α
  cell : α
  deriving DecidableEq, Repr

/-- One value for each axis of an arm. -/
structure Axes (α : Type) where
  x : α
  y : α
  z : α
  deriving DecidableEq, Repr

/-- A running timer: the cell time of its start and its duration in ms (R172). A stopped timer is `none`. -/
structure Timer where
  start : Word
  duration : Nat
  deriving DecidableEq, Repr

/-! ### Temperature unit (Chapter 1) -/

/-- Sensor roles (Table 1.1). -/
inductive Role
  | unused
  | scale
  | workpiece
  | air
  | rack
  deriving DecidableEq, Repr

/-- Sensor states (Table 1.2, R1). -/
inductive SensorState
  | off
  | waiting
  | valid
  | suspect
  | failed
  | lockedOut
  deriving DecidableEq, Repr

/-- Classes of a converter code (Table 1.6, R13). -/
inductive SampleClass
  | good
  | openLead
  | short
  | range
  deriving DecidableEq, Repr

/-- A sensor record (Table 1.2). -/
structure Sensor where
  role : Role
  /-- zero code -/
  c0 : Half
  /-- slope, 1/256 mK per code -/
  k : Half
  /-- filter shift -/
  n : BitVec 3
  state : SensorState
  lastCode : Half
  lastClass : SampleClass
  /-- filtered temperature, mK -/
  tf : Int
  nonGoodRun : Nat
  goodRun : Nat
  /-- conversion ordinal -/
  ordinal : Word
  /-- failure history, oldest first -/
  history : List Word
  /-- left-valid time, or absent -/
  leftValid : Option Word
  deriving DecidableEq, Repr

/-- Sequencer states (Table 1.4). -/
inductive SeqState
  | stopped
  | running
  | stopping
  | single
  deriving DecidableEq, Repr

/-- Whether a conversion belongs to the list or was asked for by CONVERT_ONE. -/
inductive ConvKind
  | list
  | single
  deriving DecidableEq, Repr

/-- The conversion in flight: its sensor, its kind and the cell time of its start (R6). -/
structure Conversion where
  sensor : Fin 16
  kind : ConvKind
  start : Word
  deriving DecidableEq, Repr

/-- The sequencer record (section 1.4) with the sequence list and the pending single conversion. -/
structure Sequencer where
  state : SeqState
  /-- the sequence list -/
  list : List (Fin 16)
  position : Nat
  /-- round period, ms -/
  period : Nat
  roundTimer : Option Timer
  expired : Bool
  inFlight : Option Conversion
  pendingSingle : Option (Fin 16)
  /-- a round has started and has not ended (the distinction of R9 and R12 between a round in progress and between
  rounds) -/
  inRound : Bool
  deriving DecidableEq, Repr

/-- The temperature unit (section 1.1). -/
structure TempUnit where
  sensors : Vector Sensor 16
  seq : Sequencer
  /-- hold time H, seconds -/
  hold : Nat
  /-- spread limit, mK -/
  spreadLimit : Nat
  /-- deglitch count D -/
  deglitch : Nat
  deriving DecidableEq, Repr

/-! ### Model store (Chapter 2) -/

/-- A model image: the 230 words of Table 2.2. -/
abbrev Image := Vector Word 230

/-- Results of a model check (R32 to R37), with NONE for no check yet. -/
inductive CheckResult
  | none
  | passed
  | nodes
  | span
  | assign
  | crc
  deriving DecidableEq, Repr

/-- The last check record (R27, R36, R37). -/
structure CheckRecord where
  result : CheckResult
  failingScale : Option (Fin 6)
  expected : Option Word
  computed : Option Word
  deriving DecidableEq, Repr

/-- A check in flight: the expected CRC and the cell time it was taken (R30). -/
structure RunningCheck where
  expected : Word
  start : Word
  deriving DecidableEq, Repr

/-- The model store. The check state is CHECKING exactly while `check` is present. -/
structure ModelStore where
  /-- ACTIVE, or EMPTY -/
  active : Option Image
  staging : Image
  check : Option RunningCheck
  last : CheckRecord
  commitCount : Word
  deriving DecidableEq, Repr

/-! ### Compensation unit (Chapter 3) -/

/-- Qualities, from best to worst (R42). -/
inductive Quality
  | full
  | held
  | substituted
  | none
  deriving DecidableEq, Repr

/-- A last position record (Table 3.4). -/
structure PosRecord where
  corrected : Axes Int
  quality : Axes Quality
  sat : Axes Bool
  worst : Quality
  /-- workpiece temperature, or absent -/
  tw : Option Int
  twQuality : Quality
  /-- the tag of the ACTIVE image used, or EMPTY -/
  tag : Option Word
  /-- report time -/
  time : Word
  deriving DecidableEq, Repr

/-! ### Zone table and claim arbiter (Chapter 4) -/

/-- Zone kinds (Table 4.1). -/
inductive ZoneKind
  | body
  | rack
  deriving DecidableEq, Repr

/-- A zone record (Table 4.1). -/
structure Zone where
  defined : Bool
  lower : Int
  upper : Int
  kind : ZoneKind
  holder : Option Arm
  waiter : Option Arm
  deriving DecidableEq, Repr

/-- A range of consecutive zones: the pending claim of an arm (R64). -/
structure Claim where
  first : Nat
  count : Nat
  deriving DecidableEq, Repr

/-- A guard record (Table 4.3). `violated` is the verdict VIOLATED. -/
structure GuardRecord where
  lower : Int
  upper : Int
  margin : Bool
  intruding : Bool
  /-- the needed set, zone n at bit n -/
  needed : BitVec 16
  violated : Bool
  deriving DecidableEq, Repr

/-- The zone table and claim arbiter. -/
structure ZoneUnit where
  table : Vector Zone 16
  claims : PerArm (Option Claim)
  guards : PerArm (Option GuardRecord)
  deriving DecidableEq, Repr

/-! ### Arm supervisors (Chapter 5) -/

/-- Supervision states (Table 5.3). -/
inductive SupState
  | disabled
  | starting
  | running
  | held
  | stopped
  deriving DecidableEq, Repr

/-- The six causes (Table 5.5). -/
inductive Cause
  | guard
  | overdue
  | compLost
  | link
  | permitMismatch
  | changeFault
  deriving DecidableEq, Repr

/-- Modes of a cause (R84). -/
inductive Mode
  | latched
  | auto
  | warn
  | off
  deriving DecidableEq, Repr

/-- One value for each cause. -/
structure PerCause (α : Type) where
  guard : α
  overdue : α
  compLost : α
  link : α
  permitMismatch : α
  changeFault : α
  deriving DecidableEq, Repr

/-- The modes that ARM_SET writes (Table 5.1); those of PERMIT_MISMATCH and CHANGE_FAULT are fixed (R81). -/
structure Modes where
  guard : Mode
  overdue : Mode
  compLost : Mode
  link : Mode
  deriving DecidableEq, Repr

/-- The settings of an arm (Table 5.1). -/
structure ArmSettings where
  /-- envelope half-width h -/
  halfWidth : Int
  freeReach : Int
  /-- uncompensated margin m -/
  margin : Int
  timeoutCode : BitVec 3
  reportAny : Bool
  modes : Modes
  deriving DecidableEq, Repr

/-- The supervisor of one arm, with its permit-sense input line. -/
structure Supervisor where
  state : SupState
  settings : ArmSettings
  present : PerCause Bool
  recorded : PerCause Bool
  reportTimer : Option Timer
  /-- permit command, which drives the motion-permit output (R99) -/
  command : Bool
  /-- permit settle window (R100) -/
  window : Option Timer
  /-- level of the permit-sense input line -/
  sense : Bool
  deriving DecidableEq, Repr

/-! ### Probe registry (Chapter 6) -/

/-- Qualification states (Table 6.3). -/
inductive Qualification
  | unqualified
  | qualified
  | due
  deriving DecidableEq, Repr

/-- Locations of a probe (R104). -/
inductive Location
  | slot (n : Fin 12)
  | head (arm : Arm)
  | missing
  deriving DecidableEq, Repr

/-- A probe record (Table 6.1). -/
structure Probe where
  id : Half
  home : Fin 12
  /-- tip offsets in order of tip index -/
  tips : List (Axes Int)
  qual : Qualification
  tcal : Option Int
  useCount : Nat
  reservation : Option Arm
  location : Location
  deriving DecidableEq, Repr

/-- The probe registry: fourteen entries, each free or holding a record (R103), and the two limits. -/
structure Registry where
  entries : Vector (Option Probe) 14
  useLimit : Nat
  /-- drift limit, mK -/
  driftLimit : Nat
  deriving DecidableEq, Repr

/-! ### Rack unit (Chapter 7) -/

/-- Slot states (Table 7.1). -/
inductive SlotState
  | vacant
  | unclaimed
  | stored
  | released
  | blocked
  deriving DecidableEq, Repr

/-- A slot record (R118, R119), with its presence input line. -/
structure Slot where
  state : SlotState
  /-- the entry of the probe held -/
  probe : Option (Fin 14)
  /-- lock command engaged; drives the slot-lock output -/
  lock : Bool
  /-- raw level of the presence input line -/
  raw : Bool
  /-- settled presence level -/
  settled : Bool
  settleTimer : Option Timer
  deriving DecidableEq, Repr

/-- Phases of a change (Table 7.3). -/
inductive Phase
  | idle
  | deposit
  | pick
  | finish
  deriving DecidableEq, Repr

/-- Last outcomes of a change context (Table 7.3). -/
inductive ChangeOutcome
  | none
  | opened
  | deposited
  | picked
  | takeLost
  | closed
  | wrongProbe
  | aborted
  | timedOut
  | reset
  deriving DecidableEq, Repr

/-- A change context (Table 7.3) with its change timer (R124). -/
structure ChangeContext where
  phase : Phase
  putSlot : Option (Fin 12)
  depositedId : Option Half
  takeSlot : Option (Fin 12)
  /-- 0 for none -/
  takeId : Half
  outcome : ChangeOutcome
  timer : Option Timer
  deriving DecidableEq, Repr

/-- The rack unit. -/
structure Rack where
  slots : Vector Slot 12
  changes : PerArm ChangeContext
  /-- change timeout, seconds -/
  changeTimeout : Nat
  deriving DecidableEq, Repr

/-! ### Touch queues (Chapter 8) -/

/-- A touch record (Table 8.1). -/
structure TouchRecord where
  sequence : Word
  probeId : Half
  tip : Nat
  centre : Axes Int
  worst : Quality
  time : Word
  due : Bool
  drift : Bool
  blank : Bool
  unsoaked : Bool
  sat : Bool
  deriving DecidableEq, Repr

/-- The touch queue of an arm (R138), oldest record first. -/
structure TouchQueue where
  records : List TouchRecord
  counter : Word
  blankTimer : Option Timer
  deriving DecidableEq, Repr

/-- The touch queues with the settings common to both (R145). -/
structure TouchUnit where
  queues : PerArm TouchQueue
  /-- blank time, ms -/
  blankTime : Nat
  fillLevel : Nat
  deriving DecidableEq, Repr

/-! ### Attention units (Chapter 9) -/

/-- An attention source (R150): its enable, pending and in-service flags and its detail. -/
structure Source (δ : Type) where
  enable : Bool
  pending : Bool
  inService : Bool
  detail : δ
  deriving DecidableEq, Repr

/-- The attention unit of the Cell link, its sources in rank order (Table 9.1). Sets hold member n at bit n. -/
structure CellUnit where
  master : Bool
  fault : Source (BitVec 2)
  rack : Source (BitVec 12)
  model : Source (Option CheckResult)
  sensor : Source (BitVec 16)
  probe : Source (BitVec 14)
  touch : Source (BitVec 2)
  deriving DecidableEq, Repr

/-- The attention unit of an arm link, its sources in rank order (Table 9.1). -/
structure ArmUnit where
  master : Bool
  /-- permit command and supervision state -/
  permit : Source (Option (Bool × SupState))
  /-- phase and last outcome -/
  change : Source (Option (Phase × ChangeOutcome))
  claim : Source (Option Claim)
  /-- worst quality -/
  comp : Source (Option Quality)
  deriving DecidableEq, Repr

/-- The three attention units. -/
structure Attention where
  cell : CellUnit
  arms : PerArm ArmUnit
  deriving DecidableEq, Repr

/-! ### Link ports (Chapter 10) -/

/-- Result codes (Table A.4). -/
inductive ResultCode
  | ok
  | granted
  | pending
  | frameError
  | unknown
  | notPermitted
  | badSelector
  | outOfRange
  | state
  | busy
  | inUse
  | notHeld
  | conflict
  | noProbe
  | reserved
  | slotBusy
  | notReady
  | noTemp
  | queueFull
  | empty
  | stale
  | full
  | faulted
  | causePresent
  | none
  deriving DecidableEq, Repr

/-- An answer: a result code and three words, as the reply buffer holds it. -/
structure Reply where
  code : ResultCode
  d0 : Word
  d1 : Word
  d2 : Word
  deriving DecidableEq, Repr

/-- Where a link port stands towards its select line. -/
inductive PortPhase
  /-- Select is deasserted. -/
  | idle
  /-- Select is asserted and a frame runs; its 16 reply bytes were fixed at its beginning (R160). -/
  | inFrame (reply : Vector Byte 16)
  /-- Select is asserted since before or during a device reset: the frame is passed over (R168). -/
  | passedOver
  deriving DecidableEq, Repr

/-- A link port. -/
structure Port where
  phase : PortPhase
  /-- the reply buffer -/
  reply : Reply
  /-- run count of consecutive discarded frames -/
  runCount : Nat
  /-- the RESET bit -/
  resetBit : Bool
  deriving DecidableEq, Repr

/-! ### The whole coordinator -/

/-- The state of the coordinator (Table 0.1), its input lines and the queue of waiting commands. -/
structure State where
  /-- cell time, ms (R172) -/
  cellTime : Word
  /-- the reset input is asserted (R171) -/
  resetHeld : Bool
  ports : PerLink Port
  temp : TempUnit
  model : ModelStore
  /-- the last position record of each arm, or absent -/
  lastPos : PerArm (Option PosRecord)
  zones : ZoneUnit
  sup : PerArm Supervisor
  registry : Registry
  rack : Rack
  touch : TouchUnit
  attn : Attention
  /-- the alarm map, member n of Table A.6 at bit n -/
  alarmMap : BitVec 9
  /-- MODEL'S OWN: the link whose ARM_DISABLE took the arm out of another state at this cell time; with it R92 decides an
  ARM_ENABLE that falls together with that disable (log entry 22) -/
  disabledBy : PerArm (Option Link)
  /-- MODEL'S OWN: the commands that wait, first in, first out -/
  pending : List Instr
  /-- MODEL'S OWN: how many free values have been used -/
  freeIndex : Nat
  deriving DecidableEq, Repr

/-- Faults. The spec names no event that stops the coordinator and leaves no behaviour undefined, so the type has no
constructor: no step of the model ends in a fault. -/
inductive Fault
  deriving DecidableEq, Repr

/-- Refusals. -/
inductive Refusal
  /-- A command without a meaning; raised by exec's refused arms only (there are none now). Safe: the model stops where
  the hardware goes on. -/
  | notModelled (mnemonic : String)
  deriving DecidableEq, Repr

/-! ### The machine right after reset -/

/-- A sensor record after device reset (R2). -/
def Sensor.reset : Sensor :=
  { role := .unused, c0 := 0, k := 0, n := 3, state := .off, lastCode := 0, lastClass := .good, tf := 0,
    nonGoodRun := 0, goodRun := 0, ordinal := 0, history := [], leftValid := none }

/-- The sequencer after device reset (R2). -/
def Sequencer.reset : Sequencer :=
  { state := .stopped, list := [], position := 0, period := 0, roundTimer := none, expired := false,
    inFlight := none, pendingSingle := none, inRound := false }

/-- The temperature unit after device reset (R2). -/
def TempUnit.reset : TempUnit :=
  { sensors := Vector.replicate 16 Sensor.reset, seq := Sequencer.reset, hold := 60, spreadLimit := 1000,
    deglitch := 3 }

/-- An image whose every word is 0. -/
def Image.zero : Image := Vector.replicate 230 0

/-- The model store after device reset (R27). -/
def ModelStore.reset : ModelStore :=
  { active := none, staging := Image.zero, check := none,
    last := { result := .none, failingScale := none, expected := none, computed := none }, commitCount := 0 }

/-- A zone record after device reset (R61), which is also an undefined zone (R63). -/
def Zone.reset : Zone :=
  { defined := false, lower := 0, upper := 0, kind := .body, holder := none, waiter := none }

/-- The zone arbiter after device reset (R61, R64, R76). -/
def ZoneUnit.reset : ZoneUnit :=
  { table := Vector.replicate 16 Zone.reset, claims := ⟨none, none⟩, guards := ⟨none, none⟩ }

/-- No cause (R83). -/
def PerCause.none : PerCause Bool :=
  { guard := false, overdue := false, compLost := false, link := false, permitMismatch := false,
    changeFault := false }

/-- The default settings of an arm (Table 5.1). -/
def ArmSettings.reset : ArmSettings :=
  { halfWidth := 3000000, freeReach := 0, margin := 500000, timeoutCode := 3, reportAny := false,
    modes := { guard := .latched, overdue := .latched, compLost := .auto, link := .warn } }

/-- A supervisor after device reset (R83), with the level of its permit-sense input line. -/
def Supervisor.reset (sense : Bool) : Supervisor :=
  { state := .disabled, settings := ArmSettings.reset, present := PerCause.none, recorded := PerCause.none,
    reportTimer := none, command := false, window := none, sense := sense }

/-- The registry after device reset (R103). -/
def Registry.reset : Registry :=
  { entries := Vector.replicate 14 none, useLimit := 2000, driftLimit := 2000 }

/-- A slot record after device reset (R120), with the raw level of its presence input line and its settle timer. -/
def Slot.reset (raw : Bool) (settle : Option Timer) : Slot :=
  { state := .vacant, probe := none, lock := true, raw := raw, settled := false, settleTimer := settle }

/-- A change context after device reset (R120). -/
def ChangeContext.reset : ChangeContext :=
  { phase := .idle, putSlot := none, depositedId := none, takeSlot := none, takeId := 0, outcome := .none,
    timer := none }

/-- The touch unit after device reset (R138). -/
def TouchUnit.reset : TouchUnit :=
  { queues := ⟨⟨[], 0, none⟩, ⟨[], 0, none⟩⟩, blankTime := 250, fillLevel := 1 }

/-- An attention source with every flag clear but its enable. -/
def Source.clear {δ : Type} (enable : Bool) (empty : δ) : Source δ :=
  { enable := enable, pending := false, inService := false, detail := empty }

/-- The attention unit of an arm link after device reset (R157). -/
def ArmUnit.reset : ArmUnit :=
  { master := false, permit := .clear false none, change := .clear false none, claim := .clear false none,
    comp := .clear false none }

/-- The attention units after device reset (R157): only the enable of FAULT is on. -/
def Attention.reset : Attention :=
  { cell := { master := false, fault := .clear true 0, rack := .clear false 0, model := .clear false none,
              sensor := .clear false 0, probe := .clear false 0, touch := .clear false 0 },
    arms := ⟨ArmUnit.reset, ArmUnit.reset⟩ }

/-- A link port after device reset (R168). -/
def Port.reset (phase : PortPhase) : Port :=
  { phase := phase, reply := ⟨.none, 0, 0, 0⟩, runCount := 0, resetBit := true }

/-- The alarm map after device reset (R158): GUARD, OVERDUE, PERMIT_MISMATCH, CHANGE_FAULT, LOCKED_OUT, BLOCKED. -/
def alarmMapReset : BitVec 9 := 0b110110011#9

/-- The machine right after reset: every record in its device-reset state, the reset input just deasserted at cell
time 0, the settle timer of every slot started (R120, R171). DESIGN CHOICE (log entry 1): the spec gives the input
lines no level, and the model takes every permit sense deasserted, every presence input unseated and every select
deasserted. -/
def State.reset : State :=
  { cellTime := 0
    resetHeld := false
    ports := ⟨Port.reset .idle, Port.reset .idle, Port.reset .idle⟩
    temp := TempUnit.reset
    model := ModelStore.reset
    lastPos := ⟨none, none⟩
    zones := ZoneUnit.reset
    sup := ⟨Supervisor.reset false, Supervisor.reset false⟩
    registry := Registry.reset
    rack := { slots := Vector.replicate 12 (Slot.reset false (some ⟨0, 20⟩)),
              changes := ⟨ChangeContext.reset, ChangeContext.reset⟩, changeTimeout := 30 }
    touch := TouchUnit.reset
    attn := Attention.reset
    alarmMap := alarmMapReset
    disabledBy := ⟨none, none⟩
    pending := []
    freeIndex := 0 }

end Sys2Proof.Machine
end

