-- ==== Sys2Proof/Machine/Ops.lean ====
section
/-! DEFINITION. The shared operations: access to the records of an arm, a link and a table, timers, exact rounding,
raising attention, the causes and the state of a supervisor, and the two ends of a frame. -/

namespace Sys2Proof.Machine

/-! ### Arms, links and tables -/

/-- The arm whose motion controller is the master of the link, if any. -/
def armOf : Link → Option Arm
  | .armA => some .a
  | .armB => some .b
  | .cell => none

/-- The link of an arm's motion controller. -/
def linkOf : Arm → Link
  | .a => .armA
  | .b => .armB

/-- The other arm. -/
def otherArm : Arm → Arm
  | .a => .b
  | .b => .a

/-- The place of an arm in a set of arm marks (Table A.6). -/
def armIndex : Arm → Nat
  | .a => 0
  | .b => 1

def PerArm.get {α : Type} (p : PerArm α) : Arm → α
  | .a => p.a
  | .b => p.b

def PerArm.set {α : Type} (p : PerArm α) (arm : Arm) (v : α) : PerArm α :=
  match arm with
  | .a => { p with a := v }
  | .b => { p with b := v }

def PerLink.get {α : Type} (p : PerLink α) : Link → α
  | .armA => p.armA
  | .armB => p.armB
  | .cell => p.cell

def PerLink.set {α : Type} (p : PerLink α) (link : Link) (v : α) : PerLink α :=
  match link with
  | .armA => { p with armA := v }
  | .armB => { p with armB := v }
  | .cell => { p with cell := v }

def PerCause.get {α : Type} (p : PerCause α) : Cause → α
  | .guard => p.guard
  | .overdue => p.overdue
  | .compLost => p.compLost
  | .link => p.link
  | .permitMismatch => p.permitMismatch
  | .changeFault => p.changeFault

def PerCause.set {α : Type} (p : PerCause α) (c : Cause) (v : α) : PerCause α :=
  match c with
  | .guard => { p with guard := v }
  | .overdue => { p with overdue := v }
  | .compLost => { p with compLost := v }
  | .link => { p with link := v }
  | .permitMismatch => { p with permitMismatch := v }
  | .changeFault => { p with changeFault := v }

/-- The six causes in the order of the cause marks (Table A.6). -/
def allCauses : List Cause := [.guard, .overdue, .compLost, .link, .permitMismatch, .changeFault]

/-- Entry `i` of a table. -/
def vget {α : Type} {n : Nat} (v : Vector α n) (i : Fin n) : α := v[i.val]'i.isLt

/-- A table with entry `i` replaced. -/
def vput {α : Type} {n : Nat} (v : Vector α n) (i : Fin n) (x : α) : Vector α n := v.set i.val x i.isLt

/-- A table with every entry rewritten from its index and its value. -/
def vmap {α : Type} {n : Nat} (f : Fin n → α → α) (v : Vector α n) : Vector α n := Vector.ofFn fun i => f i (vget v i)

/-- The set of the members that satisfy `p`, as marks: member i at bit i (R173). -/
def marksOf {n : Nat} (p : Fin n → Bool) : BitVec n :=
  (List.finRange n).foldl (fun acc i => if p i then acc ||| (1#n <<< i.val) else acc) 0#n

/-- A set of marks with member `i` added. -/
def addMark {n : Nat} (set : BitVec n) (i : Nat) : BitVec n := set ||| (1#n <<< i)

/-! ### Named updates of the state -/

def State.setPort (s : State) (l : Link) (p : Port) : State := { s with ports := s.ports.set l p }
def State.modPort (s : State) (l : Link) (f : Port → Port) : State := s.setPort l (f (s.ports.get l))
def State.setSup (s : State) (arm : Arm) (v : Supervisor) : State := { s with sup := s.sup.set arm v }
def State.modSup (s : State) (arm : Arm) (f : Supervisor → Supervisor) : State := s.setSup arm (f (s.sup.get arm))
def State.setLastPos (s : State) (arm : Arm) (p : Option PosRecord) : State := { s with lastPos := s.lastPos.set arm p }
def State.setSensor (s : State) (i : Fin 16) (x : Sensor) : State :=
  { s with temp := { s.temp with sensors := vput s.temp.sensors i x } }
def State.setSeq (s : State) (q : Sequencer) : State := { s with temp := { s.temp with seq := q } }
def State.setZoneTable (s : State) (t : Vector Zone 16) : State := { s with zones := { s.zones with table := t } }
def State.setClaim (s : State) (arm : Arm) (c : Option Claim) : State :=
  { s with zones := { s.zones with claims := s.zones.claims.set arm c } }
def State.setGuard (s : State) (arm : Arm) (g : Option GuardRecord) : State :=
  { s with zones := { s.zones with guards := s.zones.guards.set arm g } }
def State.setEntry (s : State) (e : Fin 14) (p : Option Probe) : State :=
  { s with registry := { s.registry with entries := vput s.registry.entries e p } }
def State.setSlot (s : State) (i : Fin 12) (x : Slot) : State :=
  { s with rack := { s.rack with slots := vput s.rack.slots i x } }
def State.modSlot (s : State) (i : Fin 12) (f : Slot → Slot) : State := s.setSlot i (f (vget s.rack.slots i))
def State.setChange (s : State) (arm : Arm) (c : ChangeContext) : State :=
  { s with rack := { s.rack with changes := s.rack.changes.set arm c } }
def State.setQueue (s : State) (arm : Arm) (q : TouchQueue) : State :=
  { s with touch := { s.touch with queues := s.touch.queues.set arm q } }
def State.modCellUnit (s : State) (f : CellUnit → CellUnit) : State :=
  { s with attn := { s.attn with cell := f s.attn.cell } }
def State.setArmUnit (s : State) (arm : Arm) (u : ArmUnit) : State :=
  { s with attn := { s.attn with arms := s.attn.arms.set arm u } }
def State.modArmUnit (s : State) (arm : Arm) (f : ArmUnit → ArmUnit) : State := s.setArmUnit arm (f (s.attn.arms.get arm))

/-! ### Durations and timers -/

/-- A conversion completes 4 ms after its start (R6). -/
def conversionMs : Nat := 4
/-- A model check completes 2 ms after it is taken (R30). -/
def modelCheckMs : Nat := 2
/-- The permit settle window (R100). -/
def settleWindowMs : Nat := 2
/-- The settle timer of a slot (R119). -/
def presenceSettleMs : Nat := 20
/-- The life of a left-valid time (R19). -/
def leftValidMs : Nat := 600000

/-- The report timeouts of Table 5.2, by timeout code. -/
def timeoutMs (code : BitVec 3) : Nat := [5, 10, 20, 50, 100, 200, 500, 1000].getD code.toNat 0

/-- The age of a cell-time stamp: the present cell time less the stamp, modulo 2^32 (R172). -/
def State.age (s : State) (stamp : Word) : Nat := (s.cellTime - stamp).toNat

/-- A timer started now (R172). -/
def State.timer (s : State) (duration : Nat) : Timer := { start := s.cellTime, duration := duration }

/-- Whether `duration` ms have passed since `start` while the part is not held in reset (R171, R172). -/
def State.reached (s : State) (start : Word) (duration : Nat) : Bool := !s.resetHeld && decide (duration ≤ s.age start)

/-- Whether a timer runs and has run out (R172). -/
def State.due (s : State) : Option Timer → Bool
  | none => false
  | some t => s.reached t.start t.duration

/-- The cell time left before a timer expires, 0 when it is stopped (R172). -/
def State.timeLeft (s : State) : Option Timer → Nat
  | none => 0
  | some t => t.duration - s.age t.start

/-! ### Exact arithmetic -/

/-- `num / den` rounded to the nearest integer, halves away from zero (Conventions, Rounding), for `den > 0`. -/
def roundDiv (num den : Int) : Int :=
  if 0 ≤ num then (2 * num + den) / (2 * den) else -((2 * -num + den) / (2 * den))

/-- The bound of every position: ±2,000,000,000 counts (Conventions, Length). -/
def maxCount : Int := 2000000000

/-- A value brought within ±2,000,000,000 counts. -/
def clampCount (x : Int) : Int := if x > maxCount then maxCount else if x < -maxCount then -maxCount else x

/-- The order of Table 3.1, best first. -/
def Quality.rank : Quality → Nat
  | .full => 0
  | .held => 1
  | .substituted => 2
  | .none => 3

/-- The worse of two qualities (R42). -/
def Quality.worse (p q : Quality) : Quality := if p.rank < q.rank then q else p

/-! ### Attention events (R151) -/

/-- An event on a source: lost while the enable is off, else the source is pending and its detail updated. -/
def Source.raise {δ : Type} (update : δ → δ) (src : Source δ) : Source δ :=
  if src.enable then { src with pending := true, detail := update src.detail } else src

/-- FAULT attention with the arm in the detail set (R85). -/
def raiseFault (arm : Arm) (s : State) : State :=
  s.modCellUnit fun u => { u with fault := u.fault.raise (addMark · (armIndex arm)) }
/-- RACK attention with the slot in the detail set (R122). -/
def raiseRack (slot : Fin 12) (s : State) : State :=
  s.modCellUnit fun u => { u with rack := u.rack.raise (addMark · slot.val) }
/-- MODEL attention with the result as the detail (R39). -/
def raiseModel (result : CheckResult) (s : State) : State :=
  s.modCellUnit fun u => { u with model := u.model.raise fun _ => some result }
/-- SENSOR attention with the sensor in the detail set (R20). -/
def raiseSensor (sensor : Fin 16) (s : State) : State :=
  s.modCellUnit fun u => { u with sensor := u.sensor.raise (addMark · sensor.val) }
/-- PROBE attention with the entry in the detail set (R116). -/
def raiseProbe (entry : Fin 14) (s : State) : State :=
  s.modCellUnit fun u => { u with probe := u.probe.raise (addMark · entry.val) }
/-- TOUCH attention with the arm in the detail set (R143). -/
def raiseTouch (arm : Arm) (s : State) : State :=
  s.modCellUnit fun u => { u with touch := u.touch.raise (addMark · (armIndex arm)) }
/-- PERMIT attention with the new command and state (R101). -/
def raisePermit (arm : Arm) (command : Bool) (state : SupState) (s : State) : State :=
  s.modArmUnit arm fun u => { u with permit := u.permit.raise fun _ => some (command, state) }
/-- CHANGE attention with the phase and the last outcome of the arm's context (R134). -/
def raiseChange (arm : Arm) (s : State) : State :=
  let c := s.rack.changes.get arm
  s.modArmUnit arm fun u => { u with change := u.change.raise fun _ => some (c.phase, c.outcome) }
/-- CLAIM attention with the granted range (R70). -/
def raiseClaim (arm : Arm) (claim : Claim) (s : State) : State :=
  s.modArmUnit arm fun u => { u with claim := u.claim.raise fun _ => some claim }
/-- COMP attention with the worst quality (R57). -/
def raiseComp (arm : Arm) (worst : Quality) (s : State) : State :=
  s.modArmUnit arm fun u => { u with comp := u.comp.raise fun _ => some worst }

/-! ### Causes and supervision state (Chapter 5) -/

/-- The mode of a cause: settable for four, LATCHED for PERMIT_MISMATCH and CHANGE_FAULT (R81). -/
def modeOf (m : Modes) : Cause → Mode
  | .guard => m.guard
  | .overdue => m.overdue
  | .compLost => m.compLost
  | .link => m.link
  | .permitMismatch => .latched
  | .changeFault => .latched

def Supervisor.mode (v : Supervisor) (c : Cause) : Mode := modeOf v.settings.modes c

/-- Records a cause that becomes present, and raises FAULT attention, unless its mode is OFF (R85). -/
def recordCause (arm : Arm) (c : Cause) (s : State) : State :=
  if (s.sup.get arm).mode c = .off then s
  else raiseFault arm (s.modSup arm fun v => { v with recorded := v.recorded.set c true })

/-- Brings the present flag of a cause to the condition `now`; a cause that becomes present is recorded (R84, R85). -/
def setPresent (arm : Arm) (c : Cause) (now : Bool) (s : State) : State :=
  if (s.sup.get arm).present.get c = now then s
  else
    let s1 := s.modSup arm fun v => { v with present := v.present.set c now }
    if now then recordCause arm c s1 else s1

/-- What, besides the present flags, an event brings to the judgement of R89. -/
inductive Trigger
  /-- nothing -/
  | plain
  /-- the event is a POSITION of the arm -/
  | position (arm : Arm)
  /-- the event is a taken FAULT_CLEAR for the arm -/
  | faultClear (arm : Arm)
  /-- CHANGE_FAULT is present for this event alone (R88) -/
  | changeFault (arm : Arm)
  deriving DecidableEq, Repr

def Trigger.arm? : Trigger → Option Arm
  | .plain => none
  | .position arm => some arm
  | .faultClear arm => some arm
  | .changeFault arm => some arm

/-- A cause in LATCHED mode became present at the event: it is present now and was not before (R89). -/
def latchedNow (before v : Supervisor) : Bool :=
  allCauses.any fun c => v.present.get c && !before.present.get c && decide (v.mode c = .latched)

/-- Some cause in the given mode is present. -/
def presentIn (m : Mode) (v : Supervisor) : Bool := allCauses.any fun c => v.present.get c && decide (v.mode c = m)

/-- Some cause in the given mode is recorded. -/
def recordedIn (m : Mode) (v : Supervisor) : Bool := allCauses.any fun c => v.recorded.get c && decide (v.mode c = m)

/-- Table 5.6: the state after an event, from the supervisor `before` the event and `v` after its flag changes. -/
def stateAfter (before v : Supervisor) (t : Trigger) (arm : Arm) : SupState :=
  let latched := latchedNow before v || decide (t = .changeFault arm)
  match v.state with
  | .disabled => .disabled
  | .starting =>
    if latched then .stopped
    else if t = .position arm ∧ ¬ presentIn .latched v ∧ ¬ presentIn .auto v then .running
    else .starting
  | .running => if latched then .stopped else if presentIn .auto v then .held else .running
  | .held => if latched then .stopped else if presentIn .auto v then .held else .running
  | .stopped => if t = .faultClear arm ∧ ¬ recordedIn .latched v then .starting else .stopped

/-- Starts or restarts the report timer with the arm's timeout (R96). -/
def restartReport (arm : Arm) (s : State) : State :=
  s.modSup arm fun v => { v with reportTimer := some (s.timer (timeoutMs v.settings.timeoutCode)) }

/-- Brings the permit command to `on`: a change starts a settle window afresh (R99, R100). -/
def commandPermit (arm : Arm) (on : Bool) (s : State) : State :=
  s.modSup arm fun v =>
    if v.command = on then v else { v with command := on, window := some (s.timer settleWindowMs) }

/-- Moves the arm to a supervision state, with the permit command on in RUNNING alone and PERMIT attention at each
change of the command (R99, R101). -/
def enterState (arm : Arm) (st : SupState) (s : State) : State :=
  let on := decide (st = .running)
  let s1 := commandPermit arm on (s.modSup arm fun v => { v with state := st })
  if (s.sup.get arm).command = on then s1 else raisePermit arm on st s1

/-- The judgement of R89 for one arm: after an event that changed one of its present flags, a POSITION, a FAULT_CLEAR
or a CHANGE_FAULT. `s0` is the state before the event. STOPPED to STARTING restarts the report timer. -/
def judgeArm (s0 : State) (t : Trigger) (arm : Arm) (s : State) : State :=
  let before := s0.sup.get arm
  let v := s.sup.get arm
  if v.present = before.present ∧ t.arm? ≠ some arm then s
  else
    let st := stateAfter before v t arm
    if st = v.state then s
    else
      let s1 := enterState arm st s
      if st = .starting then restartReport arm s1 else s1

/-- Ends an event that began in `s0`: both arms are judged once, after all its changes (R86, R87, R89). -/
def conclude (s0 : State) (t : Trigger) (s : State) : State := judgeArm s0 t .b (judgeArm s0 t .a s)

/-- CHANGE_FAULT is reported to the arm's supervisor (R88): recorded with FAULT attention. Its present flag is set and
cleared at the same event, so it never stands set between events; the trigger `.changeFault` judges it. -/
def reportChangeFault (arm : Arm) (s : State) : State := recordCause arm .changeFault s

/-! ### The end of a frame (R161 to R164) -/

/-- The links on which a request is permitted (Table 10.1). -/
inductive Access
  | allLinks
  | armLinks
  | cellLink
  deriving DecidableEq, Repr

def Access.permits : Access → Link → Bool
  | .allLinks, _ => true
  | .armLinks, l => decide (l ≠ .cell)
  | .cellLink, l => decide (l = .cell)

/-- Three zero words. -/
def Reply.zeros (code : ResultCode) : Reply := { code := code, d0 := 0, d1 := 0, d2 := 0 }

/-- The port takes the frame that ends: the part is not held in reset and the frame is not passed over (R168, R171). -/
def takesFrame (l : Link) (s : State) : Bool :=
  !s.resetHeld && decide ((s.ports.get l).phase ≠ .passedOver)

/-- The end of a frame that the port does not take: select is deasserted and nothing else happens (R168). -/
def passOver (l : Link) (s : State) : State := s.modPort l fun p => { p with phase := .idle }

/-- What every accepted frame does (R162): the run count becomes 0, the RESET bit clear, LINK ends, and with report-any
on a running report timer is restarted (R97). -/
def acceptFrame (l : Link) (s : State) : State :=
  let s1 := s.modPort l fun p => { p with phase := .idle, runCount := 0, resetBit := false }
  match armOf l with
  | none => s1
  | some arm =>
    let v := s1.sup.get arm
    let s2 := if v.settings.reportAny ∧ v.reportTimer.isSome then restartReport arm s1 else s1
    setPresent arm .link false s2

/-- Writes the reply buffer of a link. -/
def writeReply (l : Link) (reply : Reply) (s : State) : State := s.modPort l fun p => { p with reply := reply }

/-- What a block makes of a request handed to it: the state, the answer, and what the judgement of R89 needs. -/
structure Act where
  st : State
  reply : Reply
  trigger : Trigger := .plain

/-- A refusal with three zero words: nothing changes (R164). -/
def refuse (code : ResultCode) (s : State) : Act := { st := s, reply := .zeros code }

/-- The request is taken and answered OK with the given words. -/
def okay (s : State) (d0 d1 d2 : Word := 0) : Act := { st := s, reply := { code := .ok, d0 := d0, d1 := d1, d2 := d2 } }

/-- The end of an accepted frame as ONE event (R162, R164, R165): its own effects, the request at its owning block or
NOT_PERMITTED, the judgement of the arms, and the answer, which `finish` may complete from the state after all of it. -/
def handleFrame (access : Access) (l : Link) (act : State → Act) (finish : Reply → State → State × Reply) (s : State) :
    State :=
  if takesFrame l s then
    let s1 := acceptFrame l s
    let done := if access.permits l then act s1 else refuse .notPermitted s1
    let (s2, reply) := finish done.reply (conclude s done.trigger done.st)
    writeReply l reply s2
  else passOver l s

/-- A request whose answer is formed with its effect. -/
def handleRequest (access : Access) (l : Link) (act : State → Act) (s : State) : State :=
  handleFrame access l act (fun reply s1 => (s1, reply)) s

/-- A read: it changes no record, and its words are the values at the end of its own frame (R162). Reads are permitted
on every link but TOUCH_HEAD. -/
def handleRead (access : Access) (l : Link) (read : State → State × Reply) (s : State) : State :=
  if access.permits l then handleFrame access l (fun s1 => okay s1) (fun _ s1 => read s1) s
  else handleRequest access l (fun s1 => okay s1) s

/-- The outcome of one command. -/
abbrev StepResult := Host.Outcome State Fault Refusal

end Sys2Proof.Machine
end

