-- ==== Sys2Proof/Machine/Operands.lean ====
section
/-! DEFINITION. What a request's selector and words name: numbers of a table, arms, the value codes of Table A.6 that a
request carries, and the packed fields of R174. -/

namespace Sys2Proof.Machine

/-! ### Bytes and words -/

/-- Byte `k` of a word, byte 0 the least significant (Appendix A). -/
def byteOf (w : Word) (k : Nat) : Nat := (w.extractLsb' (8 * k) 8).toNat

/-- A word from its four bytes, least significant first (R160). -/
def wordOfBytes (b0 b1 b2 b3 : Byte) : Word := b3 ++ b2 ++ b1 ++ b0

/-- The four bytes of a word, least significant first (R160). -/
def bytesOfWord (w : Word) : List Byte :=
  [w.extractLsb' 0 8, w.extractLsb' 8 8, w.extractLsb' 16 8, w.extractLsb' 24 8]

/-! ### Selectors -/

/-- The number `x` as an index of a table of `n` entries, if it is one. -/
def indexOf (n x : Nat) : Option (Fin n) := if h : x < n then some ⟨x, h⟩ else none

/-- The arm a selector names: 0 Arm A, 1 Arm B (Table A.6). -/
def armOfSel (sel : Byte) : Option Arm :=
  if sel.toNat = 0 then some .a else if sel.toNat = 1 then some .b else none

/-- A range of zones, first zone in the selector and count in D0: the count is 1 to 16 and first plus count at most 16
(R66, R73). -/
def rangeOf (r : Request) : Option Claim :=
  let first := r.sel.toNat
  let count := r.d0.toNat
  if 1 ≤ count ∧ count ≤ 16 ∧ first + count ≤ 16 then some { first := first, count := count } else none

/-- Whether a zone number lies in a range. -/
def Claim.covers (c : Claim) (z : Fin 16) : Bool := decide (c.first ≤ z.val ∧ z.val < c.first + c.count)

/-! ### Value codes of Table A.6 in requests -/

/-- Sensor roles by code. -/
def roleOfCode : Nat → Option Role
  | 0 => some .unused
  | 1 => some .scale
  | 2 => some .workpiece
  | 3 => some .air
  | 4 => some .rack
  | _ => none

/-- Modes by code. -/
def modeOfCode : Nat → Option Mode
  | 0 => some .latched
  | 1 => some .auto
  | 2 => some .warn
  | 3 => some .off
  | _ => none

/-- The action of ZONE_DEFINE in D2. -/
inductive ZoneAction
  | undefine
  | define (kind : ZoneKind)
  deriving DecidableEq, Repr

def zoneActionOfCode : Nat → Option ZoneAction
  | 0 => some .undefine
  | 1 => some (.define .body)
  | 2 => some (.define .rack)
  | _ => none

/-! ### Packed requests (R174) -/

/-- The twelve entry bytes of SEQ_LIST_SET, from D0 byte 0 to D2 byte 3. -/
def entryBytes (r : Request) : List Nat :=
  [byteOf r.d0 0, byteOf r.d0 1, byteOf r.d0 2, byteOf r.d0 3, byteOf r.d1 0, byteOf r.d1 1, byteOf r.d1 2,
   byteOf r.d1 3, byteOf r.d2 0, byteOf r.d2 1, byteOf r.d2 2, byteOf r.d2 3]

/-- The given entries of SEQ_LIST_SET: the bytes before the first of value 255 (R5). -/
def givenEntries (r : Request) : List Nat := (entryBytes r).takeWhile fun b => b ≠ 255

/-- Sensor numbers from entry bytes; absent if one is above 15 (R5). -/
def sensorNumbers : List Nat → Option (List (Fin 16))
  | [] => some []
  | b :: bs => do
    let i ← indexOf 16 b
    let rest ← sensorNumbers bs
    pure (i :: rest)

/-- One 25-bit two's-complement offset of PROBE_TIP_WRITE. -/
def offset25 (w : Word) : Int := (w.extractLsb' 0 25).toInt

/-- The tip offsets of PROBE_TIP_WRITE. -/
def tipOffsets (r : Request) : Axes Int := { x := offset25 r.d0, y := offset25 r.d1, z := offset25 r.d2 }

/-- The probe id of PROBE_TIP_WRITE: bits 25 to 31 of D0, of D1, and bits 25 and 26 of D2. -/
def tipWriteId (r : Request) : Half :=
  (r.d2.extractLsb' 25 2 : BitVec 2) ++ (r.d1.extractLsb' 25 7 : BitVec 7) ++ (r.d0.extractLsb' 25 7 : BitVec 7)

/-- The raw words of a POSITION or TOUCH, each a signed 32-bit value (R53). -/
def rawWords (r : Request) : Axes Int := { x := r.d0.toInt, y := r.d1.toInt, z := r.d2.toInt }

/-- Whether a signed value lies within ±2,000,000,000 counts. -/
def inCounts (x : Int) : Bool := decide (-maxCount ≤ x ∧ x ≤ maxCount)

end Sys2Proof.Machine
end

