-- ==== Sys2Proof/Machine/Layout.lean ====
section
/-! DEFINITION. The codes of Appendix A that answers carry, the packing of answer words (R173), and the CRC-8 of a
frame (R161). -/

namespace Sys2Proof.Machine

/-! ### Codes (Tables A.4 and A.6) -/

def ResultCode.num : ResultCode → Nat
  | .ok => 0
  | .granted => 1
  | .pending => 2
  | .frameError => 3
  | .unknown => 4
  | .notPermitted => 5
  | .badSelector => 6
  | .outOfRange => 7
  | .state => 8
  | .busy => 9
  | .inUse => 10
  | .notHeld => 11
  | .conflict => 12
  | .noProbe => 13
  | .reserved => 14
  | .slotBusy => 15
  | .notReady => 16
  | .noTemp => 17
  | .queueFull => 18
  | .empty => 19
  | .stale => 20
  | .full => 21
  | .faulted => 22
  | .causePresent => 23
  | .none => 24

def Role.num : Role → Nat
  | .unused => 0
  | .scale => 1
  | .workpiece => 2
  | .air => 3
  | .rack => 4

def SensorState.num : SensorState → Nat
  | .off => 0
  | .waiting => 1
  | .valid => 2
  | .suspect => 3
  | .failed => 4
  | .lockedOut => 5

def SampleClass.num : SampleClass → Nat
  | .good => 0
  | .openLead => 1
  | .short => 2
  | .range => 3

def SeqState.num : SeqState → Nat
  | .stopped => 0
  | .running => 1
  | .stopping => 2
  | .single => 3

def ConvKind.num : ConvKind → Nat
  | .list => 0
  | .single => 1

def CheckResult.num : CheckResult → Nat
  | .none => 0
  | .passed => 1
  | .nodes => 2
  | .span => 3
  | .assign => 4
  | .crc => 5

def SupState.num : SupState → Nat
  | .disabled => 0
  | .starting => 1
  | .running => 2
  | .held => 3
  | .stopped => 4

def Mode.num : Mode → Nat
  | .latched => 0
  | .auto => 1
  | .warn => 2
  | .off => 3

def ZoneKind.num : ZoneKind → Nat
  | .body => 0
  | .rack => 1

def Qualification.num : Qualification → Nat
  | .unqualified => 0
  | .qualified => 1
  | .due => 2

def Location.num : Location → Nat
  | .slot n => n.val
  | .head .a => 16
  | .head .b => 17
  | .missing => 18

def SlotState.num : SlotState → Nat
  | .vacant => 0
  | .unclaimed => 1
  | .stored => 2
  | .released => 3
  | .blocked => 4

def Phase.num : Phase → Nat
  | .idle => 0
  | .deposit => 1
  | .pick => 2
  | .finish => 3

def ChangeOutcome.num : ChangeOutcome → Nat
  | .none => 0
  | .opened => 1
  | .deposited => 2
  | .picked => 3
  | .takeLost => 4
  | .closed => 5
  | .wrongProbe => 6
  | .aborted => 7
  | .timedOut => 8
  | .reset => 9

/-- An arm in a record field: 0 none, 1 A, 2 B. -/
def armFieldNum : Option Arm → Nat
  | none => 0
  | some .a => 1
  | some .b => 2

/-! ### Fields of answer words (R173) -/

/-- A number at a bit place. -/
def at_ (bit x : Nat) : Word := BitVec.ofNat 32 x <<< bit

/-- A mark or flag: 1 for present or set, 0 otherwise. -/
def flag (b : Bool) : Nat := if b then 1 else 0

/-- A signed count or temperature. -/
def signedWord (x : Int) : Word := BitVec.ofInt 32 x

/-- A signed count or temperature that may be absent: 80000000 hex when it is. -/
def signedOrAbsent : Option Int → Word
  | none => 0x80000000#32
  | some x => signedWord x

/-- A sensor, slot, zone or entry number that may be absent: 255 when it is. -/
def numberOrAbsent {n : Nat} : Option (Fin n) → Nat
  | none => 255
  | some i => i.val

/-- An id that may be absent: 0 when it is. -/
def idOrAbsent : Option Half → Nat
  | none => 0
  | some id => id.toNat

/-- A set of marks, member n at bit n from bit `bit` on. -/
def setAt {n : Nat} (bit : Nat) (set : BitVec n) : Word := set.setWidth 32 <<< bit

/-- The six causes as cause marks (Table A.6). -/
def causeMarks (p : PerCause Bool) : Word :=
  at_ 0 (flag p.guard) ||| at_ 1 (flag p.overdue) ||| at_ 2 (flag p.compLost) ||| at_ 3 (flag p.link) |||
    at_ 4 (flag p.permitMismatch) ||| at_ 5 (flag p.changeFault)

/-! ### The CRC-8 of a frame (R161) -/

/-- One shift of the CRC-8 register, with polynomial 07 hex. -/
def crc8Shift (reg : Byte) : Byte := if reg.msb then (reg <<< 1) ^^^ 0x07#8 else reg <<< 1

/-- One byte combined into the register. -/
def crc8Byte (reg b : Byte) : Byte := Nat.repeat crc8Shift 8 (reg ^^^ b)

/-- The CRC-8 of a run of bytes: initial value 00 hex, nothing reflected, no final exclusive-or. -/
def crc8 (bytes : List Byte) : Byte := bytes.foldl crc8Byte 0#8

end Sys2Proof.Machine
end

