-- ==== Sys2Proof/Decode.lean ====
section
/-! DEFINITION. The decoder of the link ports: from the bits clocked in during a frame to the command that the end of the
frame is (R160, R161, R164), and after it the encoder of a request frame. spec/opcode_table.json gives no row any bits,
so decodeTableWord answers none. -/

namespace Sys2Proof

open Machine

/-- The request a request code names (Table A.3); none for every other code. -/
def requestOfCode (code : Byte) (r : Request) : Option Instr :=
  match code.toNat with
  | 0x01 => some (.nop r)
  | 0x02 => some (.readTime r)
  | 0x03 => some (.readTemp r)
  | 0x04 => some (.readGroups r)
  | 0x05 => some (.readModel r)
  | 0x06 => some (.readZone r)
  | 0x07 => some (.readArm r)
  | 0x08 => some (.readProbe r)
  | 0x09 => some (.readSlot r)
  | 0x0A => some (.readChange r)
  | 0x0B => some (.attnTake r)
  | 0x0C => some (.attnDone r)
  | 0x0D => some (.attnEnable r)
  | 0x0E => some (.armEnable r)
  | 0x0F => some (.armDisable r)
  | 0x10 => some (.armReset r)
  | 0x20 => some (.position r)
  | 0x21 => some (.touch r)
  | 0x22 => some (.claim r)
  | 0x23 => some (.claimWithdraw r)
  | 0x24 => some (.release r)
  | 0x25 => some (.changeOpen r)
  | 0x26 => some (.changeClose r)
  | 0x27 => some (.changeAbort r)
  | 0x40 => some (.sensorSet r)
  | 0x41 => some (.seqListSet r)
  | 0x42 => some (.seqStart r)
  | 0x43 => some (.seqStop r)
  | 0x44 => some (.convertOne r)
  | 0x45 => some (.sensorUnlock r)
  | 0x46 => some (.tempSet r)
  | 0x48 => some (.modelLoad r)
  | 0x49 => some (.modelRevert r)
  | 0x4A => some (.modelCheck r)
  | 0x50 => some (.zoneDefine r)
  | 0x51 => some (.zoneFree r)
  | 0x52 => some (.armSet r)
  | 0x53 => some (.faultClear r)
  | 0x58 => some (.probeSet r)
  | 0x59 => some (.probeRegister r)
  | 0x5A => some (.probeTipWrite r)
  | 0x5B => some (.probeTipClear r)
  | 0x5C => some (.probeQualify r)
  | 0x5D => some (.probeReserve r)
  | 0x5E => some (.probeUnreserve r)
  | 0x5F => some (.probeRemove r)
  | 0x60 => some (.rackSet r)
  | 0x61 => some (.slotService r)
  | 0x62 => some (.touchSet r)
  | 0x63 => some (.touchHead r)
  | 0x64 => some (.touchDrop r)
  | 0x65 => some (.alarmSet r)
  | _ => none

/-- The command that an accepted frame with this request code is: the request it names, or UNKNOWN_REQUEST (R164). -/
def acceptedRequest (code : Byte) (r : Request) : Instr := (requestOfCode code r).getD (.unknownRequest code r)

/-- A byte from its eight bits, most significant bit first (R160). -/
def byteOfBits (bits : List Bool) : Byte :=
  bits.foldl (fun acc b => acc <<< 1 ||| (BitVec.ofBool b).setWidth 8) 0#8

/-- The bytes of a run of bits, eight bits to a byte; bits short of a byte at the end make none. -/
def bytesOfBits : List Bool → List Byte
  | b7 :: b6 :: b5 :: b4 :: b3 :: b2 :: b1 :: b0 :: rest =>
    byteOfBits [b7, b6, b5, b4, b3, b2, b1, b0] :: bytesOfBits rest
  | _ => []

/-- The command that 16 request bytes on a link are: discarded unless byte 15 is the CRC-8 of the others and byte 14 is
zero (R161), else the request of Table A.1. -/
def commandOfBytes (link : Link) : List Byte → Instr
  | [code, sel, a0, a1, a2, a3, b0, b1, b2, b3, c0, c1, c2, c3, zero, crc] =>
    if crc = crc8 [code, sel, a0, a1, a2, a3, b0, b1, b2, b3, c0, c1, c2, c3, zero] ∧ zero = 0 then
      acceptedRequest code { link := link, sel := sel, d0 := wordOfBytes a0 a1 a2 a3, d1 := wordOfBytes b0 b1 b2 b3,
                             d2 := wordOfBytes c0 c1 c2 c3 }
    else .frameDiscard link
  | _ => .frameDiscard link

/-- The command that the end of a frame is, from the bits given while select was held: discarded unless exactly 128
clocks were given (R161). -/
def decodeFrame (link : Link) (bits : List Bool) : Instr :=
  if bits.length = 128 then commandOfBytes link (bytesOfBits bits) else .frameDiscard link

/-- The command that a word spells by the table's bits: none, since the table gives no row any bits. -/
def decodeTableWord (nbits w : Nat) : Option Instr :=
  let _ := nbits
  let _ := w
  none

/-! ### The encoder -/

/-- The request code and the operands of a command that a request frame carries (Table A.3). -/
def codeOf : Instr → Option (Byte × Request)
  | .resetInputAsserted => none
  | .resetInputDeasserted => none
  | .frameBegin _ => none
  | .frameDiscard _ => none
  | .unknownRequest code r => some (code, r)
  | .nop r => some (0x01#8, r)
  | .readTime r => some (0x02#8, r)
  | .readTemp r => some (0x03#8, r)
  | .readGroups r => some (0x04#8, r)
  | .readModel r => some (0x05#8, r)
  | .readZone r => some (0x06#8, r)
  | .readArm r => some (0x07#8, r)
  | .readProbe r => some (0x08#8, r)
  | .readSlot r => some (0x09#8, r)
  | .readChange r => some (0x0A#8, r)
  | .attnTake r => some (0x0B#8, r)
  | .attnDone r => some (0x0C#8, r)
  | .attnEnable r => some (0x0D#8, r)
  | .armEnable r => some (0x0E#8, r)
  | .armDisable r => some (0x0F#8, r)
  | .armReset r => some (0x10#8, r)
  | .position r => some (0x20#8, r)
  | .touch r => some (0x21#8, r)
  | .claim r => some (0x22#8, r)
  | .claimWithdraw r => some (0x23#8, r)
  | .release r => some (0x24#8, r)
  | .changeOpen r => some (0x25#8, r)
  | .changeClose r => some (0x26#8, r)
  | .changeAbort r => some (0x27#8, r)
  | .sensorSet r => some (0x40#8, r)
  | .seqListSet r => some (0x41#8, r)
  | .seqStart r => some (0x42#8, r)
  | .seqStop r => some (0x43#8, r)
  | .convertOne r => some (0x44#8, r)
  | .sensorUnlock r => some (0x45#8, r)
  | .tempSet r => some (0x46#8, r)
  | .modelLoad r => some (0x48#8, r)
  | .modelRevert r => some (0x49#8, r)
  | .modelCheck r => some (0x4A#8, r)
  | .zoneDefine r => some (0x50#8, r)
  | .zoneFree r => some (0x51#8, r)
  | .armSet r => some (0x52#8, r)
  | .faultClear r => some (0x53#8, r)
  | .probeSet r => some (0x58#8, r)
  | .probeRegister r => some (0x59#8, r)
  | .probeTipWrite r => some (0x5A#8, r)
  | .probeTipClear r => some (0x5B#8, r)
  | .probeQualify r => some (0x5C#8, r)
  | .probeReserve r => some (0x5D#8, r)
  | .probeUnreserve r => some (0x5E#8, r)
  | .probeRemove r => some (0x5F#8, r)
  | .rackSet r => some (0x60#8, r)
  | .slotService r => some (0x61#8, r)
  | .touchSet r => some (0x62#8, r)
  | .touchHead r => some (0x63#8, r)
  | .touchDrop r => some (0x64#8, r)
  | .alarmSet r => some (0x65#8, r)
  | .conversionCompletion _ => none
  | .roundTimerExpiry => none
  | .leftValidTimeExpiry _ => none
  | .modelCheckCompletion => none
  | .reportTimerExpiry _ => none
  | .permitSenseChange _ _ => none
  | .settleWindowExpiry _ => none
  | .presenceRawChange _ _ => none
  | .presenceSettleExpiry _ => none
  | .changeTimerExpiry _ => none
  | .blankTimerExpiry _ => none
  | .passedOverFrameEnd _ => none

/-- The bits of a byte, most significant first (R160). -/
def bitsOfByte (b : Byte) : List Bool := (List.range 8).map b.getMsbD

/-- Bytes 0 to 14 of a request frame (Table A.1). -/
def frameHead (code : Byte) (r : Request) : List Byte :=
  [code, r.sel] ++ bytesOfWord r.d0 ++ bytesOfWord r.d1 ++ bytesOfWord r.d2 ++ [0#8]

/-- The 16 bytes of a request frame. -/
def frameBytes (code : Byte) (r : Request) : List Byte := frameHead code r ++ [crc8 (frameHead code r)]

/-- The link and the 128 bits of the frame that carries a command; none for a command that no request frame carries. -/
def encodeFrame (i : Instr) : Option (Link × List Bool) :=
  (codeOf i).map fun c => (c.2.link, (frameBytes c.1 c.2).flatMap bitsOfByte)

end Sys2Proof
end

