-- ==== Sys2Proof/Machine/Flags.lean ====
section
/-! DEFINITION. The flags and lines computed from the records: eligibility and the attention lines (R150, R152), the
cell alarm (R159), the status byte (R166), the attention byte (R167), the reply of a frame (R160) and the output lines
of Table 0.2. -/

namespace Sys2Proof.Machine

/-! ### Attention (R150, R152) -/

/-- The pending and in-service flags of one source. -/
structure SourceFlags where
  pending : Bool
  inService : Bool
  deriving DecidableEq, Repr

def Source.flags {δ : Type} (src : Source δ) : SourceFlags := { pending := src.pending, inService := src.inService }

/-- The sources of the Cell link's unit in rank order (Table 9.1). -/
def CellUnit.flags (u : CellUnit) : List SourceFlags :=
  [u.fault.flags, u.rack.flags, u.model.flags, u.sensor.flags, u.probe.flags, u.touch.flags]

/-- The sources of an arm link's unit in rank order (Table 9.1). -/
def ArmUnit.flags (u : ArmUnit) : List SourceFlags := [u.permit.flags, u.change.flags, u.claim.flags, u.comp.flags]

/-- The code of the eligible source of highest rank, counting codes from `code`: pending, and above every source in
service (R150). -/
def eligibleFrom (code : Nat) : List SourceFlags → Option Nat
  | [] => none
  | f :: fs => if f.inService then none else if f.pending then some code else eligibleFrom (code + 1) fs

/-- The code of the source of highest rank in service, counting codes from `code` (R154). -/
def inServiceFrom (code : Nat) : List SourceFlags → Option Nat
  | [] => none
  | f :: fs => if f.inService then some code else inServiceFrom (code + 1) fs

/-- The flags of the unit of a link. -/
def unitFlags (s : State) (l : Link) : List SourceFlags :=
  match armOf l with
  | none => s.attn.cell.flags
  | some arm => (s.attn.arms.get arm).flags

/-- The master enable of the unit of a link. -/
def masterEnable (s : State) (l : Link) : Bool :=
  match armOf l with
  | none => s.attn.cell.master
  | some arm => (s.attn.arms.get arm).master

/-- The code of the eligible source of highest rank in the unit of a link (R150); source codes are ranks (Table A.5). -/
def eligibleCode (s : State) (l : Link) : Option Nat := eligibleFrom 1 (unitFlags s l)

/-- The attention output of a link (R152). -/
def attentionLine (s : State) (l : Link) : Bool := masterEnable s l && (eligibleCode s l).isSome

/-! ### The cell alarm (R158, R159) -/

/-- A cause recorded for either arm. -/
def recordedAnywhere (s : State) (c : Cause) : Bool := s.sup.a.recorded.get c || s.sup.b.recorded.get c

/-- Some sensor is in the state. -/
def anySensor (s : State) (st : SensorState) : Bool :=
  (List.finRange 16).any fun i => decide ((vget s.temp.sensors i).state = st)

/-- Some slot is in the state. -/
def anySlot (s : State) (st : SlotState) : Bool :=
  (List.finRange 12).any fun i => decide ((vget s.rack.slots i).state = st)

/-- The conditions of Table 9.2 in the order of the alarm map marks. -/
def alarmConditions (s : State) : List Bool :=
  allCauses.map (recordedAnywhere s) ++ [anySensor s .failed, anySensor s .lockedOut, anySlot s .blocked]

/-- The cell-alarm output (R159). -/
def cellAlarm (s : State) : Bool :=
  (List.finRange 9).any fun i => s.alarmMap.getLsbD i.val && (alarmConditions s).getD i.val false

/-! ### Output lines (Table 0.2) -/

/-- The motion-permit output of an arm follows the command (R99). -/
def permitOutput (s : State) (arm : Arm) : Bool := (s.sup.get arm).command

/-- The slot-lock output follows the lock command (R118). -/
def lockOutput (s : State) (slot : Fin 12) : Bool := (vget s.rack.slots slot).lock

/-! ### The status byte (R166) -/

/-- Holds for the arm of an arm link, for either arm on the Cell link. -/
def eitherArm (l : Link) (p : Arm → Bool) : Bool :=
  match armOf l with
  | some arm => p arm
  | none => p .a || p .b

/-- The COMP bit of a link (Table 10.3). -/
def compBit (s : State) (l : Link) : Bool :=
  s.model.active.isSome &&
    match armOf l with
    | none => true
    | some arm =>
      match s.lastPos.get arm with
      | none => false
      | some p => decide (p.quality = { x := .full, y := .full, z := .full })

/-- The PERMIT bit of a link (Table 10.3). -/
def permitBit (s : State) (l : Link) : Bool :=
  match armOf l with
  | some arm => (s.sup.get arm).command
  | none => s.sup.a.command && s.sup.b.command

/-- The status byte of a link (R166), bits as Table A.2 places them. -/
def statusByte (s : State) (l : Link) : Byte :=
  let bit (n : Nat) (b : Bool) : Byte := BitVec.ofNat 8 (flag b) <<< n
  bit 7 (s.ports.get l).resetBit ||| bit 6 (attentionLine s l) |||
    bit 5 (eitherArm l fun arm => recordedIn .latched (s.sup.get arm)) |||
    bit 4 (eitherArm l fun arm => recordedIn .warn (s.sup.get arm)) |||
    bit 3 (permitBit s l) ||| bit 2 (compBit s l) |||
    bit 1 (eitherArm l fun arm => decide ((s.rack.changes.get arm).phase ≠ .idle)) |||
    bit 0 (eitherArm l fun arm => !(s.touch.queues.get arm).records.isEmpty)

/-! ### The reply of a frame (R160, R167) -/

/-- Bytes 0 to 14 of the reply of a frame that begins now. -/
def replyHead (s : State) (l : Link) : List Byte :=
  let reply := (s.ports.get l).reply
  [statusByte s l, BitVec.ofNat 8 reply.code.num] ++ bytesOfWord reply.d0 ++ bytesOfWord reply.d1 ++
    bytesOfWord reply.d2 ++ [BitVec.ofNat 8 ((eligibleCode s l).getD 0)]

/-- The 16 reply bytes of a frame that begins now: byte 15 is the CRC-8 of the others. -/
def formReply (s : State) (l : Link) : Vector Byte 16 :=
  ⟨⟨replyHead s l ++ [crc8 (replyHead s l)]⟩, by simp [replyHead, bytesOfWord]⟩

/-- The bit that the port shifts out at clock `k` of a frame, counting from 0: bytes in order, each most significant
bit first; zeros beyond the 128th clock (R160). -/
def replyBit (reply : Vector Byte 16) (k : Nat) : Bool :=
  (reply.toList.getD (k / 8) 0#8).getMsbD (k % 8) && decide (k < 128)

end Sys2Proof.Machine
end

