-- ==== Sys2Proof/Machine/AttentionUnits.lean ====
section
/-! DEFINITION. The requests of the attention units and the alarm (Chapter 9). -/

namespace Sys2Proof.Machine

/-! ### Taking a source (R153) -/

/-- A taken source: in service, not pending, its detail cleared. -/
def Source.take {δ : Type} (empty : δ) (src : Source δ) : Source δ :=
  { src with pending := false, inService := true, detail := empty }

/-- A source out of service. -/
def Source.done {δ : Type} (src : Source δ) : Source δ := { src with inService := false }

/-- The detail of PERMIT in an ATTN_TAKE answer (Table A.5). -/
def permitDetail : Option (Bool × SupState) → Word
  | none => 0
  | some (command, state) => at_ 0 (flag command) ||| at_ 8 state.num

/-- The detail of CHANGE in an ATTN_TAKE answer. -/
def changeDetail : Option (Phase × ChangeOutcome) → Word
  | none => 0
  | some (phase, outcome) => at_ 0 phase.num ||| at_ 8 outcome.num

/-- The Cell link's unit with the source of a code taken, and its detail words (Table A.5). -/
def takeCell (code : Nat) (u : CellUnit) : CellUnit × Word × Word :=
  match code with
  | 1 => ({ u with fault := u.fault.take 0 }, setAt 0 u.fault.detail, 0)
  | 2 => ({ u with rack := u.rack.take 0 }, setAt 0 u.rack.detail, 0)
  | 3 => ({ u with model := u.model.take none }, at_ 0 (u.model.detail.elim 0 CheckResult.num), 0)
  | 4 => ({ u with sensor := u.sensor.take 0 }, setAt 0 u.sensor.detail, 0)
  | 5 => ({ u with probe := u.probe.take 0 }, setAt 0 u.probe.detail, 0)
  | _ => ({ u with touch := u.touch.take 0 }, setAt 0 u.touch.detail, 0)

/-- An arm link's unit with the source of a code taken, and its detail words (Table A.5). -/
def takeArm (code : Nat) (u : ArmUnit) : ArmUnit × Word × Word :=
  match code with
  | 1 => ({ u with permit := u.permit.take none }, permitDetail u.permit.detail, 0)
  | 2 => ({ u with change := u.change.take none }, changeDetail u.change.detail, 0)
  | 3 => ({ u with claim := u.claim.take none }, at_ 0 (u.claim.detail.elim 0 Claim.first),
          at_ 0 (u.claim.detail.elim 0 Claim.count))
  | _ => ({ u with comp := u.comp.take none }, at_ 0 (u.comp.detail.elim 0 Quality.rank), 0)

/-- ATTN_TAKE on the unit of a link (R153). -/
def attnTake (l : Link) (s : State) : Act :=
  match eligibleCode s l with
  | none => refuse .none s
  | some code =>
    match armOf l with
    | none =>
      let t := takeCell code s.attn.cell
      okay (s.modCellUnit fun _ => t.1) (at_ 0 code) t.2.1 t.2.2
    | some arm =>
      let t := takeArm code (s.attn.arms.get arm)
      okay (s.setArmUnit arm t.1) (at_ 0 code) t.2.1 t.2.2

/-! ### Finishing a source (R154) -/

/-- The Cell link's unit with the source of a code out of service. -/
def doneCell (code : Nat) (u : CellUnit) : CellUnit :=
  match code with
  | 1 => { u with fault := u.fault.done }
  | 2 => { u with rack := u.rack.done }
  | 3 => { u with model := u.model.done }
  | 4 => { u with sensor := u.sensor.done }
  | 5 => { u with probe := u.probe.done }
  | _ => { u with touch := u.touch.done }

/-- An arm link's unit with the source of a code out of service. -/
def doneArm (code : Nat) (u : ArmUnit) : ArmUnit :=
  match code with
  | 1 => { u with permit := u.permit.done }
  | 2 => { u with change := u.change.done }
  | 3 => { u with claim := u.claim.done }
  | _ => { u with comp := u.comp.done }

/-- ATTN_DONE on the unit of a link (R154). -/
def attnDone (l : Link) (s : State) : Act :=
  match inServiceFrom 1 (unitFlags s l) with
  | none => refuse .none s
  | some code =>
    match armOf l with
    | none => okay (s.modCellUnit (doneCell code)) (at_ 0 code)
    | some arm => okay (s.modArmUnit arm (doneArm code)) (at_ 0 code)

/-! ### Enables (R155) -/

/-- A source with its enable written: off clears its pending flag and detail and keeps its in-service flag (R155). -/
def Source.enabled {δ : Type} (on : Bool) (empty : δ) (src : Source δ) : Source δ :=
  if on then { src with enable := true }
  else { src with enable := false, pending := false, detail := empty }

/-- The Cell link's unit with its enables written, source code c at bit c − 1. -/
def enableCell (master : Bool) (marks : Word) (u : CellUnit) : CellUnit :=
  { master := master
    fault := u.fault.enabled (marks.getLsbD 0) 0
    rack := u.rack.enabled (marks.getLsbD 1) 0
    model := u.model.enabled (marks.getLsbD 2) none
    sensor := u.sensor.enabled (marks.getLsbD 3) 0
    probe := u.probe.enabled (marks.getLsbD 4) 0
    touch := u.touch.enabled (marks.getLsbD 5) 0 }

/-- An arm link's unit with its enables written, source code c at bit c − 1. -/
def enableArm (master : Bool) (marks : Word) (u : ArmUnit) : ArmUnit :=
  { master := master
    permit := u.permit.enabled (marks.getLsbD 0) none
    change := u.change.enabled (marks.getLsbD 1) none
    claim := u.claim.enabled (marks.getLsbD 2) none
    comp := u.comp.enabled (marks.getLsbD 3) none }

/-- Marks of a list of flags, the first at bit 0. -/
def listMarks : List Bool → Nat
  | [] => 0
  | b :: bs => flag b + 2 * listMarks bs

/-- The pending set in byte 0 and the in-service set in byte 1 (Table A.5). -/
def unitSets (fs : List SourceFlags) : Word :=
  at_ 0 (listMarks (fs.map SourceFlags.pending)) ||| at_ 8 (listMarks (fs.map SourceFlags.inService))

/-- ATTN_ENABLE on the unit of a link (R155). -/
def attnEnable (r : Request) (s : State) : Act :=
  let sources := match armOf r.link with
    | none => 6
    | some _ => 4
  if 1 < r.d0.toNat ∨ 2 ^ sources ≤ r.d1.toNat then refuse .outOfRange s
  else
    let master := decide (r.d0 = 1)
    let s1 := match armOf r.link with
      | none => s.modCellUnit (enableCell master r.d1)
      | some arm => s.modArmUnit arm (enableArm master r.d1)
    okay s1 r.d0 r.d1 (unitSets (unitFlags s1 r.link))

/-! ### The alarm (R158) -/

/-- ALARM_SET (R158). -/
def alarmSet (r : Request) (s : State) : Act :=
  if 512 ≤ r.d0.toNat then refuse .outOfRange s else okay { s with alarmMap := r.d0.setWidth 9 } r.d0

/-! ### Meanings -/

/-- ATTN_TAKE (R153). -/
def execAttnTake (r : Request) (s : State) : StepResult :=
  .next (handleRequest .allLinks r.link (attnTake r.link) s)

/-- ATTN_DONE (R154). -/
def execAttnDone (r : Request) (s : State) : StepResult :=
  .next (handleRequest .allLinks r.link (attnDone r.link) s)

/-- ATTN_ENABLE (R155). -/
def execAttnEnable (r : Request) (s : State) : StepResult :=
  .next (handleRequest .allLinks r.link (attnEnable r) s)

/-- ALARM_SET (R158, R159). -/
def execAlarmSet (r : Request) (s : State) : StepResult := .next (handleRequest .cellLink r.link (alarmSet r) s)

end Sys2Proof.Machine
end

