-- ==== Sys2Proof/Machine/Groups.lean ====
section
/-! DEFINITION. The group values of the temperature unit (section 1.7) and the sensors the ACTIVE model names (R3). -/

namespace Sys2Proof.Machine

/-- The Tf of every VALID sensor of a role, in sensor order (R21). -/
def validTfs (s : State) (role : Role) : List Int :=
  (List.finRange 16).filterMap fun i =>
    let x := vget s.temp.sensors i
    if x.role = role ∧ x.state = .valid then some x.tf else none

/-- The rounded mean of a list of temperatures, absent when it is empty (R21). -/
def meanOf (tfs : List Int) : Option Int := if tfs.isEmpty then none else some (roundDiv tfs.sum tfs.length)

/-- The largest less the smallest of a list of temperatures, absent when it is empty (Table 1.8). -/
def spreadOf : List Int → Option Int
  | [] => none
  | t :: ts => some (ts.foldl max t - ts.foldl min t)

/-- The workpiece mean (Table 1.8). -/
def workpieceMean (s : State) : Option Int := meanOf (validTfs s .workpiece)

/-- The workpiece spread (Table 1.8). -/
def workpieceSpread (s : State) : Option Int := spreadOf (validTfs s .workpiece)

/-- The number of VALID WORKPIECE sensors (Table 1.8). -/
def workpieceCount (s : State) : Nat := (validTfs s .workpiece).length

/-- The air mean (Table 1.8). -/
def airMean (s : State) : Option Int := meanOf (validTfs s .air)

/-- The source of the rack temperature (Table A.6). -/
inductive RackSource
  | none
  | sensor
  | air
  deriving DecidableEq, Repr

def RackSource.num : RackSource → Nat
  | .none => 0
  | .sensor => 1
  | .air => 2

/-- The rack temperature with its source (Table 1.8). -/
def rackReading (s : State) : Option Int × RackSource :=
  match validTfs s .rack with
  | t :: _ => (some t, .sensor)
  | [] =>
    match airMean s with
    | some t => (some t, .air)
    | none => (none, .none)

/-- The rack temperature (Table 1.8). -/
def rackTemperature (s : State) : Option Int := (rackReading s).1

/-! ### Words of a model image (section 2.1) -/

/-- Word `i` of an image. -/
def imageWord (im : Image) (i : Nat) : Word := im.toList.getD i 0

/-- The index of field `k` of the 38 words of scale `j` (Table 2.2). -/
def scaleIndex (j : Fin 6) (k : Nat) : Nat := 2 + 38 * j.val + k

/-- αs of scale `j`. -/
def scaleAlpha (im : Image) (j : Fin 6) : Int := (imageWord im (scaleIndex j 0)).toNat

/-- The workpiece coefficient αw. -/
def workpieceAlpha (im : Image) : Int := (imageWord im 1).toNat

/-- The primary sensor number in the sensor word of scale `j`. -/
def primaryOf (im : Image) (j : Fin 6) : Nat := byteOf (imageWord im (scaleIndex j 1)) 0

/-- The secondary sensor number in the sensor word of scale `j`, 255 for none. -/
def secondaryOf (im : Image) (j : Fin 6) : Nat := byteOf (imageWord im (scaleIndex j 1)) 1

/-- The geometric start x0 of scale `j`. -/
def scaleX0 (im : Image) (j : Fin 6) : Int := (imageWord im (scaleIndex j 2)).toInt

/-- The node spacing d of scale `j`. -/
def scaleSpacing (im : Image) (j : Fin 6) : Int := (imageWord im (scaleIndex j 3)).toNat

/-- The node count N of scale `j`. -/
def nodeCount (im : Image) (j : Fin 6) : Nat := (imageWord im (scaleIndex j 4)).toNat

/-- Node `i` of scale `j`. -/
def nodeAt (im : Image) (j : Fin 6) (i : Nat) : Int := (imageWord im (scaleIndex j (5 + i))).toInt

/-- ACTIVE names the sensor as the primary or secondary sensor of some scale (R3, check 5). -/
def activeNames (s : State) (i : Fin 16) : Bool :=
  match s.model.active with
  | none => false
  | some im => (List.finRange 6).any fun j => decide (primaryOf im j = i.val ∨ secondaryOf im j = i.val)

end Sys2Proof.Machine
end

