-- ==== Sys2Proof/Machine/Compensation.lean ====
section
/-! DEFINITION. The compensation unit (Chapter 3): the temperature chains, the corrected position of one scale, and the
compensation of three axes that POSITION and TOUCH share. -/

namespace Sys2Proof.Machine

/-- A temperature with its quality; absent exactly when the quality is NONE (Table 3.1). -/
structure Temperature where
  value : Option Int
  quality : Quality
  deriving DecidableEq, Repr

/-- The hold test of a primary sensor (R44): the age of its left-valid time is less than H. -/
def holds (s : State) (x : Sensor) : Bool :=
  match x.leftValid with
  | none => false
  | some t => decide (s.age t < s.temp.hold * 1000)

/-- The sensor with this number, if there is one. -/
def sensorAt (s : State) (n : Nat) : Option Sensor := (indexOf 16 n).map fun i => vget s.temp.sensors i

/-- Steps 3 to 5 of the scale-temperature chain (Table 3.2): the secondary, the air mean, none. -/
def substituteTemperature (s : State) (secondary : Option Sensor) : Temperature :=
  match secondary, airMean s with
  | some y, air =>
    if y.state = .valid then { value := some y.tf, quality := .substituted }
    else
      match air with
      | some t => { value := some t, quality := .substituted }
      | none => { value := none, quality := .none }
  | none, some t => { value := some t, quality := .substituted }
  | none, none => { value := none, quality := .none }

/-- The scale temperature of a scale of ACTIVE (R43, Table 3.2). -/
def scaleTemperature (s : State) (im : Image) (j : Fin 6) : Temperature :=
  let secondary := sensorAt s (secondaryOf im j)
  match sensorAt s (primaryOf im j) with
  | none => substituteTemperature s secondary
  | some x =>
    if x.state = .valid then { value := some x.tf, quality := .full }
    else if (x.state = .suspect ∨ x.state = .failed) ∧ holds s x then { value := some x.tf, quality := .held }
    else substituteTemperature s secondary

/-- The workpiece temperature (R45, Table 3.3). -/
def workpieceTemperature (s : State) : Temperature :=
  match workpieceMean s with
  | some t => { value := some t, quality := .full }
  | none =>
    match airMean s with
    | some t => { value := some t, quality := .substituted }
    | none => { value := none, quality := .none }

/-- The thermal term c of a clamped raw position (R48, R49). -/
def thermalTerm (alphaS alphaW p : Int) : Option Int → Option Int → Int
  | some ts, some tw => roundDiv (p * (alphaS * (ts - 20000) - alphaW * (tw - 20000))) 1000000000000
  | _, _ => 0

/-- The geometric term e of scale `j` at a clamped raw position (R50). -/
def geometricTerm (im : Image) (j : Fin 6) (p : Int) : Int :=
  let x0 := scaleX0 im j
  let d := scaleSpacing im j
  let n := nodeCount im j
  if p < x0 then nodeAt im j 0
  else if x0 + ((n : Int) - 1) * d ≤ p then nodeAt im j (n - 1)
  else
    let i := ((p - x0) / d).toNat
    let f := p - x0 - i * d
    nodeAt im j i + roundDiv ((nodeAt im j (i + 1) - nodeAt im j i) * f) d

/-- One corrected axis: its value, quality and SAT flag. -/
structure Corrected where
  value : Int
  quality : Quality
  sat : Bool
  deriving DecidableEq, Repr

/-- The corrected position of one scale (R46 to R51), with the workpiece temperature of the request. -/
def correctAxis (s : State) (tw : Temperature) (j : Fin 6) (raw : Int) : Corrected :=
  let p := clampCount raw
  match s.model.active with
  | none => { value := p, quality := .none, sat := decide (p ≠ raw) }
  | some im =>
    let ts := scaleTemperature s im j
    let sum := p + thermalTerm (scaleAlpha im j) (workpieceAlpha im) p ts.value tw.value + geometricTerm im j p
    { value := clampCount sum, quality := ts.quality.worse tw.quality
      sat := decide (p ≠ raw) || decide (clampCount sum ≠ sum) }

/-- The scales of an arm's axes (Table 2.1). -/
def scaleX : Arm → Fin 6
  | .a => 0
  | .b => 3
def scaleY : Arm → Fin 6
  | .a => 1
  | .b => 4
def scaleZ : Arm → Fin 6
  | .a => 2
  | .b => 5

/-- The worst of three axis qualities (R42). -/
def worstOf (q : Axes Quality) : Quality := (q.x.worse q.y).worse q.z

/-- The result of one compensation of three axes. -/
structure Compensated where
  x : Corrected
  y : Corrected
  z : Corrected
  /-- Tw of the request, NONE while ACTIVE is EMPTY (Table 3.4) -/
  tw : Temperature
  deriving DecidableEq, Repr

def Compensated.values (c : Compensated) : Axes Int := { x := c.x.value, y := c.y.value, z := c.z.value }
def Compensated.qualities (c : Compensated) : Axes Quality := { x := c.x.quality, y := c.y.quality, z := c.z.quality }
def Compensated.sats (c : Compensated) : Axes Bool := { x := c.x.sat, y := c.y.sat, z := c.z.sat }

/-- The compensation of the three raw words of an arm from one reading of ACTIVE and the sensor table (R41). -/
def compensate (s : State) (arm : Arm) (raw : Axes Int) : Compensated :=
  let tw := if s.model.active.isSome then workpieceTemperature s else { value := none, quality := .none }
  { x := correctAxis s tw (scaleX arm) raw.x, y := correctAxis s tw (scaleY arm) raw.y
    z := correctAxis s tw (scaleZ arm) raw.z, tw := tw }

/-- The last position record that a POSITION writes (Table 3.4, R54). -/
def positionRecord (s : State) (c : Compensated) : PosRecord :=
  { corrected := c.values, quality := c.qualities, sat := c.sats, worst := worstOf c.qualities, tw := c.tw.value,
    twQuality := c.tw.quality, tag := s.model.active.map fun im => imageWord im 0, time := s.cellTime }

end Sys2Proof.Machine
end

