-- ==== Sys2Proof/Machine/RegistryOps.lean ====
section
/-! DEFINITION. The shared operations of the probe registry (Chapter 6): finding probes, engagement, the drift test, the
mount check, the use count, and the words of READ_PROBE. -/

namespace Sys2Proof.Machine

/-- Entry `e` of the registry. -/
def entryAt (s : State) (e : Fin 14) : Option Probe := vget s.registry.entries e

/-- The lowest-numbered entry whose probe satisfies `p`. -/
def findProbe (s : State) (p : Probe → Bool) : Option (Fin 14) :=
  (List.finRange 14).find? fun e => (entryAt s e).any p

/-- The entry of the registered probe with an id (R103). -/
def probeById (s : State) (id : Nat) : Option (Fin 14) := findProbe s fun p => decide (p.id.toNat = id)

/-- The entry of an arm's head probe: the probe located at its head (R104). -/
def headProbe (s : State) (arm : Arm) : Option (Fin 14) := findProbe s fun p => decide (p.location = .head arm)

/-- The record of an arm's head probe. -/
def headRecord (s : State) (arm : Arm) : Option Probe := (headProbe s arm).bind (entryAt s)

/-- The lowest-numbered free entry (R103). -/
def freeEntry (s : State) : Option (Fin 14) := (List.finRange 14).find? fun e => (entryAt s e).isNone

/-- The record at an entry rewritten; a free entry stays free. -/
def State.modProbe (s : State) (e : Fin 14) (f : Probe → Probe) : State := s.setEntry e ((entryAt s e).map f)

/-- A probe is engaged in a change: on the head of an arm whose context is open, or in a RELEASED slot (R104). -/
def engaged (s : State) (p : Probe) : Bool :=
  match p.location with
  | .head arm => decide ((s.rack.changes.get arm).phase ≠ .idle)
  | .slot n => decide ((vget s.rack.slots n).state = .released)
  | .missing => false

/-! ### Drift and use (section 6.10) -/

/-- The drift test of a probe (R114). -/
def drifts (s : State) (p : Probe) : Bool :=
  match rackTemperature s, p.tcal with
  | some t, some tcal => decide (s.registry.driftLimit < (t - tcal).natAbs)
  | _, _ => true

/-- The mount check: a QUALIFIED probe whose drift test is true becomes DUE with PROBE attention (R114, R116). -/
def mountCheck (e : Fin 14) (s : State) : State :=
  match entryAt s e with
  | none => s
  | some p =>
    if p.qual = .qualified ∧ drifts s p then raiseProbe e (s.setEntry e (some { p with qual := .due })) else s

/-- The report of a touch: the use count rises, staying at 65,535, and a QUALIFIED probe at the use limit becomes DUE
with PROBE attention (R115, R116). -/
def countUse (e : Fin 14) (s : State) : State :=
  match entryAt s e with
  | none => s
  | some p =>
    let count := min 65535 (p.useCount + 1)
    if p.qual = .qualified ∧ s.registry.useLimit ≤ count then
      raiseProbe e (s.setEntry e (some { p with useCount := count, qual := .due }))
    else s.setEntry e (some { p with useCount := count })

/-! ### The tips of a head probe (R77) -/

/-- px: the largest magnitude of a tip's x offset, 0 without tips. -/
def tipReachX (tips : List (Axes Int)) : Int := tips.foldl (fun acc t => max acc t.x.natAbs) 0

/-- py: the largest y offset above 0, 0 if there is none. -/
def tipReachY (tips : List (Axes Int)) : Int := tips.foldl (fun acc t => max acc t.y) 0

/-! ### Words of READ_PROBE part 0 (R117, Table A.7) -/

/-- The words of READ_PROBE part 0 for an occupied entry. -/
def probeWords (code : ResultCode) (e : Fin 14) (p : Probe) : Reply :=
  { code := code
    d0 := at_ 0 p.id.toNat ||| at_ 16 e.val ||| at_ 25 p.qual.num ||| at_ 27 (armFieldNum p.reservation)
    d1 := at_ 0 p.home.val ||| at_ 4 p.tips.length ||| at_ 8 p.location.num ||| at_ 16 p.useCount
    d2 := signedOrAbsent p.tcal }

/-- A registry request answered OK with the words of part 0 for the entry as the request leaves it (R117). -/
def okProbe (e : Fin 14) (s : State) : Act :=
  match entryAt s e with
  | none => okay s
  | some p => { st := s, reply := probeWords .ok e p }

end Sys2Proof.Machine
end

