-- ==== Sys2Proof/Machine/ZoneOps.lean ====
section
/-! DEFINITION. The shared operations of the zone arbiter (Chapter 4): the sets of zones held, the grant, the removal and
the re-evaluation of a pending claim, the needed set, and the guard verdict. -/

namespace Sys2Proof.Machine

/-- Zone `z` of the table. -/
def zoneAt (s : State) (z : Fin 16) : Zone := vget s.zones.table z

/-- The set of zones an arm holds (R69). -/
def heldSet (s : State) (arm : Arm) : BitVec 16 := marksOf fun z => decide ((zoneAt s z).holder = some arm)

/-- Every zone of a range satisfies `p`. -/
def allCovered (s : State) (c : Claim) (p : Fin 16 → Zone → Bool) : Bool :=
  (List.finRange 16).all fun z => !c.covers z || p z (zoneAt s z)

/-- The zone table rewritten entry by entry. -/
def State.mapZones (s : State) (f : Fin 16 → Zone → Zone) : State := s.setZoneTable (vmap f s.zones.table)

/-- The RACK zone, if one is defined (R61). -/
def rackZone (s : State) : Option (Fin 16) :=
  (List.finRange 16).find? fun z => (zoneAt s z).defined && decide ((zoneAt s z).kind = .rack)

/-- An arm's change context is open (R123). -/
def changeOpen (s : State) (arm : Arm) : Bool := decide ((s.rack.changes.get arm).phase ≠ .idle)

/-! ### The needed set and the verdict (R78, R79) -/

/-- A defined zone overlaps the closed envelope [lo, hi] (R78). -/
def Zone.overlaps (z : Zone) (lo hi : Int) : Bool := z.defined && decide (z.lower ≤ hi) && decide (lo < z.upper)

/-- The needed set of an envelope and an intrusion, from the zone table as it stands (R78). -/
def neededSet (s : State) (lo hi : Int) (intruding : Bool) : BitVec 16 :=
  marksOf fun z => (zoneAt s z).overlaps lo hi && (intruding || decide ((zoneAt s z).kind = .rack))

/-- The needed set contains a zone that the arm does not hold: the verdict VIOLATED (R79). -/
def violates (s : State) (arm : Arm) (needed : BitVec 16) : Bool := decide (needed &&& ~~~(heldSet s arm) ≠ 0#16)

/-- The verdict of an arm is judged and handed to its supervisor as the GUARD cause; without a guard record the needed
set is empty and the verdict CLEAR (R78, R79, R86). -/
def judgeVerdict (arm : Arm) (s : State) : State :=
  match s.zones.guards.get arm with
  | none => setPresent arm .guard false s
  | some g =>
    let v := violates s arm g.needed
    setPresent arm .guard v (s.setGuard arm (some { g with violated := v }))

/-- The needed set of an arm is formed anew from its stored envelope and intrusion, and its verdict judged (R63). -/
def refreshGuard (arm : Arm) (s : State) : State :=
  match s.zones.guards.get arm with
  | none => judgeVerdict arm s
  | some g => judgeVerdict arm (s.setGuard arm (some { g with needed := neededSet s g.lower g.upper g.intruding }))

/-! ### Claims (R64 to R70) -/

/-- A claim can be granted at once (R67): every zone of its range is free or held by the claimant and none has the other
arm as waiter, or the claimant already holds the range whole, whoever waits on it (DEDUCED, log entry 23). -/
def grantable (s : State) (arm : Arm) (c : Claim) : Bool :=
  allCovered s c (fun _ z => decide ((z.holder = none ∨ z.holder = some arm) ∧ z.waiter ≠ some (otherArm arm))) ||
    allCovered s c fun _ z => decide (z.holder = some arm)

/-- The arm becomes holder of every zone of the range (R67, R70). -/
def holdRange (arm : Arm) (c : Claim) (s : State) : State :=
  s.mapZones fun i z => if c.covers i then { z with holder := some arm } else z

/-- The arm is set as waiter of every zone of the range that it does not hold (R68, R70). -/
def markWaiter (arm : Arm) (c : Claim) (s : State) : State :=
  s.mapZones fun i z => if c.covers i ∧ z.holder ≠ some arm then { z with waiter := some arm } else z

/-- An arm's pending claim is removed with all its waiter marks (R65); without one nothing changes. -/
def removeClaim (arm : Arm) (s : State) : State :=
  match s.zones.claims.get arm with
  | none => s
  | some _ =>
    (s.mapZones fun _ z => if z.waiter = some arm then { z with waiter := none } else z).setClaim arm none

/-- An arm's pending claim is re-evaluated after a zone was freed (R70): granted whole, with CLAIM attention and the
verdict judged again, or still pending with its waiter marks renewed. -/
def reevaluateClaim (arm : Arm) (s : State) : State :=
  match s.zones.claims.get arm with
  | none => s
  | some c =>
    if allCovered s c fun _ z => decide (z.holder = none ∨ z.holder = some arm) then
      judgeVerdict arm (raiseClaim arm c (holdRange arm c (removeClaim arm s)))
    else markWaiter arm c s

/-- The pending claim, whichever arm's it is, is re-evaluated (R70); by R64 at most one arm has one. -/
def reevaluate (s : State) : State := reevaluateClaim .b (reevaluateClaim .a s)

/-- The zones that satisfy `p` get holder none (R73, R74). -/
def freeZones (p : Fin 16 → Zone → Bool) (s : State) : State :=
  s.mapZones fun i z => if p i z then { z with holder := none } else z

end Sys2Proof.Machine
end

