-- ==== Sys2Proof/Machine/RackOps.lean ====
section
/-! DEFINITION. The shared operations of the rack unit (Chapter 7): slot states with their locks, the closing of a change
context, the mounting of a take probe, and the resolution of an open change. -/

namespace Sys2Proof.Machine

/-- Slot `i` of the rack. -/
def slotAt (s : State) (i : Fin 12) : Slot := vget s.rack.slots i

/-- The slot takes a state and the probe it holds; its lock command is released in RELEASED and engaged in every other
state (R118). -/
def enterSlot (i : Fin 12) (st : SlotState) (probe : Option (Fin 14)) (s : State) : State :=
  s.modSlot i fun x => { x with state := st, probe := probe, lock := decide (st ≠ .released) }

/-- The probe of an entry is located elsewhere (R104). -/
def locate (e : Fin 14) (loc : Location) (s : State) : State := s.modProbe e fun p => { p with location := loc }

/-- The probe of an entry, if there is one, is located elsewhere. -/
def locateAny (e : Option (Fin 14)) (loc : Location) (s : State) : State := e.elim s fun e => locate e loc s

/-- A context with the phase IDLE and every optional field absent; the change timer stops (R123, R124). -/
def closedContext (outcome : ChangeOutcome) : ChangeContext := { ChangeContext.reset with outcome := outcome }

/-- An event closes the arm's context with a last outcome (R123). -/
def closeChange (arm : Arm) (outcome : ChangeOutcome) (s : State) : State := s.setChange arm (closedContext outcome)

/-- The blank timer starts for one blank time; a blank time of 0 leaves it stopped (R144). -/
def startBlank (arm : Arm) (s : State) : State :=
  s.setQueue arm { s.touch.queues.get arm with
    blankTimer := if s.touch.blankTime = 0 then none else some (s.timer s.touch.blankTime) }

/-- The take probe of a change in FINISH stays at the head as the mounted probe: its reservation for this arm is
cleared and the mount check made (R129, R132, R133). -/
def mountTake (arm : Arm) (s : State) : State :=
  match headProbe s arm with
  | none => s
  | some e =>
    mountCheck e (s.modProbe e fun p =>
      { p with reservation := if p.reservation = some arm then none else p.reservation })

/-- A change that has not reached FINISH gives its slot back: in DEPOSIT the put slot becomes VACANT, in PICK the take
slot STORED holding the take probe (R131, R133). -/
def giveBackSlot (c : ChangeContext) (s : State) : State :=
  match c.phase with
  | .deposit => c.putSlot.elim s fun h => enterSlot h .vacant none s
  | .pick => c.takeSlot.elim s fun t => enterSlot t .stored (slotAt s t).probe s
  | _ => s

/-- ARM_RESET ends the arm's open change without fault and without CHANGE attention (R133). -/
def resetChange (arm : Arm) (s : State) : State :=
  let c := s.rack.changes.get arm
  if c.phase = .idle then s
  else
    let s1 := giveBackSlot c s
    let s2 := if c.phase = .finish ∧ c.takeId ≠ 0 then mountTake arm s1 else s1
    closeChange arm .reset s2

/-! ### Words of READ_SLOT and READ_CHANGE (R137, Table A.7) -/

/-- The words of READ_SLOT for one slot. -/
def slotWords (i : Fin 12) (s : State) : Reply :=
  let x := slotAt s i
  { code := .ok
    d0 := at_ 0 x.state.num ||| at_ 8 (numberOrAbsent x.probe) |||
          at_ 16 (flag x.lock + 2 * flag x.settled + 4 * flag x.raw + 8 * flag x.settleTimer.isSome)
    d1 := at_ 0 (idOrAbsent ((x.probe.bind (entryAt s)).map fun p => p.id))
    d2 := 0 }

/-- The words of READ_CHANGE part 0 for an arm. -/
def changeWords (code : ResultCode) (arm : Arm) (s : State) : Reply :=
  let c := s.rack.changes.get arm
  { code := code
    d0 := at_ 0 c.phase.num ||| at_ 8 c.outcome.num ||| at_ 16 (numberOrAbsent c.putSlot) |||
          at_ 24 (numberOrAbsent c.takeSlot)
    d1 := at_ 0 (idOrAbsent c.depositedId)
    d2 := at_ 0 c.takeId.toNat }

end Sys2Proof.Machine
end

