-- ==== Sys2Proof/Machine/Zones.lean ====
section
/-! DEFINITION. The requests of the zone arbiter (Chapter 4). -/

namespace Sys2Proof.Machine

/-! ### Defining zones (R62, R63) -/

/-- The interval shares a point with that of another defined zone (Table 4.2, check 6). -/
def sharesPoint (s : State) (z : Fin 16) (lower upper : Int) : Bool :=
  (List.finRange 16).any fun i =>
    decide (i ≠ z) && (zoneAt s i).defined && decide (lower < (zoneAt s i).upper ∧ (zoneAt s i).lower < upper)

/-- Another defined zone has kind RACK (Table 4.2, check 7). -/
def otherRackZone (s : State) (z : Fin 16) : Bool :=
  (List.finRange 16).any fun i => decide (i ≠ z ∧ (zoneAt s i).kind = .rack) && (zoneAt s i).defined

/-- The zone record is written and each arm's needed set and verdict brought up to date (R63). -/
def redefineZone (z : Fin 16) (rec_ : Zone) (s : State) : State :=
  refreshGuard .b (refreshGuard .a (s.setZoneTable (vput s.zones.table z rec_)))

/-- ZONE_DEFINE (R62, R63). -/
def zoneDefine (r : Request) (s : State) : Act :=
  match indexOf 16 r.sel.toNat with
  | none => refuse .badSelector s
  | some z =>
    if s.sup.a.state ≠ .disabled ∨ s.sup.b.state ≠ .disabled then refuse .state s
    else if (List.finRange 16).any fun i => (zoneAt s i).holder.isSome then refuse .inUse s
    else
      match zoneActionOfCode r.d2.toNat with
      | none => refuse .outOfRange s
      | some .undefine =>
        okay (redefineZone z { Zone.reset with holder := (zoneAt s z).holder, waiter := (zoneAt s z).waiter } s)
      | some (.define kind) =>
        let lower := r.d0.toInt
        let upper := r.d1.toInt
        if ¬ (inCounts lower ∧ inCounts upper ∧ lower < upper) then refuse .outOfRange s
        else if sharesPoint s z lower upper then refuse .outOfRange s
        else if kind = .rack ∧ otherRackZone s z then refuse .outOfRange s
        else okay (redefineZone z { zoneAt s z with defined := true, lower := lower, upper := upper, kind := kind } s)

/-! ### Claims and releases -/

/-- The answer to CLAIM, CLAIM_WITHDRAW and RELEASE: the sets held by the requesting arm and by the other (R69). -/
def zoneReply (code : ResultCode) (arm : Arm) (s : State) : Reply :=
  { code := code, d0 := setAt 0 (heldSet s arm), d1 := setAt 0 (heldSet s (otherArm arm)), d2 := 0 }

/-- A request of an arm answered with the sets of R69 as they stand after it. -/
def zoneAct (code : ResultCode) (arm : Arm) (s : State) : Act := { st := s, reply := zoneReply code arm s }

/-- The range of a CLAIM or RELEASE: in bounds, with every zone of it defined (R66, R73). -/
def definedRange (r : Request) (s : State) : Option Claim :=
  match rangeOf r with
  | none => none
  | some c => if allCovered s c fun _ z => z.defined then some c else none

/-- CLAIM by an arm (R66 to R68). -/
def claimBy (arm : Arm) (r : Request) (s : State) : Act :=
  if (s.sup.get arm).state = .disabled then zoneAct .state arm s
  else
    match definedRange r s with
    | none => zoneAct .badSelector arm s
    | some c =>
      if (s.zones.claims.get arm).isSome then zoneAct .busy arm s
      else if grantable s arm c then zoneAct .granted arm (judgeVerdict arm (holdRange arm c s))
      else if (s.zones.claims.get (otherArm arm)).isSome then zoneAct .conflict arm s
      else zoneAct .pending arm (markWaiter arm c (s.setClaim arm (some c)))

/-- RELEASE by an arm (R73). -/
def releaseBy (arm : Arm) (r : Request) (s : State) : Act :=
  match definedRange r s with
  | none => zoneAct .badSelector arm s
  | some c =>
    let needed := ((s.zones.guards.get arm).map fun g => g.needed).getD 0#16
    if ¬ allCovered s c fun _ z => decide (z.holder = some arm) then zoneAct .notHeld arm s
    else if ¬ allCovered s c fun i _ => !needed.getLsbD i.val then zoneAct .inUse arm s
    else if changeOpen s arm ∧ ¬ allCovered s c fun _ z => decide (z.kind ≠ .rack) then zoneAct .inUse arm s
    else zoneAct .ok arm (reevaluate (freeZones (fun i _ => c.covers i) s))

/-- A request that acts for the arm of the link that carried it; on the Cell link it is not permitted (R165). -/
def forLinkArm (l : Link) (act : Arm → State → Act) (s : State) : Act :=
  match armOf l with
  | some arm => act arm s
  | none => refuse .notPermitted s

/-- ZONE_FREE (R74). -/
def zoneFree (r : Request) (s : State) : Act :=
  match armOfSel r.sel with
  | none => refuse .badSelector s
  | some arm =>
    if (s.sup.get arm).state ≠ .disabled then refuse .state s
    else if changeOpen s arm then refuse .inUse s
    else
      let freed := heldSet s arm
      let s1 := freeZones (fun _ z => decide (z.holder = some arm)) s
      let s2 := if freed = 0#16 then s1 else reevaluate s1
      okay (judgeVerdict arm s2) (setAt 0 freed)

/-! ### The read (R80, Table A.7) -/

/-- An envelope bound as a signed word: the nearest end of the range where it lies beyond it (R80). -/
def boundWord (x : Int) : Word := signedWord (max (-2147483648) (min 2147483647 x))

/-- A pending claim as first zone and count, 255 and 0 when absent (R173). -/
def claimFirst (c : Option Claim) : Nat := c.elim 255 fun c => c.first
def claimCount (c : Option Claim) : Nat := c.elim 0 fun c => c.count

/-- READ_ZONE of a guard record (R80). While it is absent both bounds read as an absent signed count (R173), and the
needed set is empty and every flag 0 (log entry 12). -/
def readGuard (arm : Arm) (s : State) : Reply :=
  match s.zones.guards.get arm with
  | none => { code := .ok, d0 := 0, d1 := signedOrAbsent none, d2 := signedOrAbsent none }
  | some g =>
    { code := .ok
      d0 := setAt 0 g.needed ||| at_ 16 1 ||| at_ 24 (flag g.violated + 2 * flag g.intruding + 4 * flag g.margin)
      d1 := boundWord g.lower, d2 := boundWord g.upper }

/-- The words of READ_ZONE (R80). -/
def readZoneWords (r : Request) (s : State) : Reply :=
  match indexOf 16 r.sel.toNat with
  | some i =>
    let z := zoneAt s i
    { code := .ok
      d0 := at_ 0 (flag z.defined) ||| at_ 8 z.kind.num ||| at_ 16 (armFieldNum z.holder) |||
            at_ 24 (armFieldNum z.waiter)
      d1 := signedWord z.lower, d2 := signedWord z.upper }
  | none =>
    match r.sel.toNat with
    | 16 =>
      { code := .ok
        d0 := setAt 0 (marksOf fun i => (zoneAt s i).defined) ||| at_ 16 (numberOrAbsent (rackZone s))
        d1 := setAt 0 (heldSet s .a) ||| setAt 16 (heldSet s .b)
        d2 := at_ 0 (claimFirst s.zones.claims.a) ||| at_ 8 (claimCount s.zones.claims.a) |||
              at_ 16 (claimFirst s.zones.claims.b) ||| at_ 24 (claimCount s.zones.claims.b) }
    | 17 => readGuard .a s
    | 18 => readGuard .b s
    | _ => .zeros .badSelector

/-! ### Meanings -/

/-- ZONE_DEFINE (R62, R63). -/
def execZoneDefine (r : Request) (s : State) : StepResult := .next (handleRequest .cellLink r.link (zoneDefine r) s)

/-- CLAIM (R66 to R69). -/
def execClaim (r : Request) (s : State) : StepResult :=
  .next (handleRequest .armLinks r.link (forLinkArm r.link fun arm => claimBy arm r) s)

/-- CLAIM_WITHDRAW (R71). -/
def execClaimWithdraw (r : Request) (s : State) : StepResult :=
  .next (handleRequest .armLinks r.link (forLinkArm r.link fun arm s1 => zoneAct .ok arm (removeClaim arm s1)) s)

/-- RELEASE (R73). -/
def execRelease (r : Request) (s : State) : StepResult :=
  .next (handleRequest .armLinks r.link (forLinkArm r.link fun arm => releaseBy arm r) s)

/-- ZONE_FREE (R74). -/
def execZoneFree (r : Request) (s : State) : StepResult := .next (handleRequest .cellLink r.link (zoneFree r) s)

/-- READ_ZONE (R80). -/
def execReadZone (r : Request) (s : State) : StepResult :=
  .next (handleRead .allLinks r.link (fun s1 => (s1, readZoneWords r s1)) s)

end Sys2Proof.Machine
end

