-- ==== Sys2Proof/Machine/Supervision.lean ====
section
/-! DEFINITION. The arm supervisors (Chapter 5) and POSITION (section 3.6), which the compensation unit, the zone arbiter
and the supervisor serve as one event. -/

namespace Sys2Proof.Machine

/-! ### POSITION (R53 to R57, R76 to R79, R86) -/

/-- COMP attention unless the worst quality equals that of the record replaced (R57). -/
def reportComp (arm : Arm) (before : Option PosRecord) (worst : Quality) (s : State) : State :=
  if before.map PosRecord.worst = some worst then s else raiseComp arm worst s

/-- The guard record that a new last position forms (R77, R78); its verdict is judged next (R79). -/
def formGuard (arm : Arm) (p : PosRecord) (s : State) : GuardRecord :=
  let set := (s.sup.get arm).settings
  let tips := ((headRecord s arm).map fun h => h.tips).getD []
  let applied := decide (p.quality.x = .none ∨ p.quality.y = .none)
  let margin := if applied then set.margin else 0
  let reach := set.halfWidth + tipReachX tips + margin
  let lower := p.corrected.x - reach
  let upper := p.corrected.x + reach
  let intruding := decide (p.corrected.y + tipReachY tips + margin > set.freeReach)
  { lower := lower, upper := upper, margin := applied, intruding := intruding,
    needed := neededSet s lower upper intruding, violated := false }

/-- Some axis of a record has quality NONE (Table 5.5). -/
def compLost (p : PosRecord) : Bool := decide (p.quality.x = .none ∨ p.quality.y = .none ∨ p.quality.z = .none)

/-- POSITION of an arm (R53): the record, COMP attention, the guard, the causes of R86 and the report timer. -/
def positionBy (arm : Arm) (r : Request) (s : State) : Act :=
  let p := positionRecord s (compensate s arm (rawWords r))
  let s1 := reportComp arm (s.lastPos.get arm) p.worst (s.setLastPos arm (some p))
  let s2 := judgeVerdict arm (s1.setGuard arm (some (formGuard arm p s1)))
  let s3 := setPresent arm .overdue false (setPresent arm .compLost (compLost p) s2)
  let s4 := if (s3.sup.get arm).state = .disabled then s3 else restartReport arm s3
  { st := s4, trigger := .position arm
    reply := { code := .ok, d0 := signedWord p.corrected.x, d1 := signedWord p.corrected.y,
               d2 := signedWord p.corrected.z } }

/-! ### Enabling, disabling and resetting (R90 to R93) -/

/-- The answer of ARM_ENABLE, ARM_DISABLE and ARM_RESET (R90): the supervision state, the recorded and the present
set. -/
def supReply (code : ResultCode) (arm : Arm) (s : State) : Reply :=
  let v := s.sup.get arm
  { code := code, d0 := at_ 0 v.state.num, d1 := causeMarks v.recorded, d2 := causeMarks v.present }

/-- The arm that ARM_ENABLE, ARM_DISABLE or ARM_RESET acts for: that of the arm link, or the one the selector names on
the Cell link (R90). -/
def controlledArm (r : Request) : Option Arm :=
  match armOf r.link with
  | some arm => some arm
  | none => armOfSel r.sel

/-- One of the three requests of R90: refused BAD_SELECTOR, or answered with the words of R90 as they stand after the
whole event (log entry 6). -/
def handleControl (r : Request) (act : Arm → State → Act) (s : State) : State :=
  match controlledArm r with
  | none => handleRequest .allLinks r.link (refuse .badSelector) s
  | some arm =>
    handleFrame .allLinks r.link (act arm) (fun reply s1 => (s1, supReply reply.code arm s1)) s

/-- An ARM_DISABLE from another link has taken the arm out of another state at this cell time: an enable that falls
together with it is refused (R92, log entry 22). -/
def enableBarred (l : Link) (arm : Arm) (s : State) : Bool := (s.disabledBy.get arm).any fun by_ => decide (by_ ≠ l)

/-- ARM_ENABLE of an arm from a link (R91): refused STATE in every state but DISABLED, and on an arm that a disable
falling together with it has just taken to DISABLED (R92). -/
def armEnable (l : Link) (arm : Arm) (s : State) : Act :=
  let v := s.sup.get arm
  if v.state ≠ .disabled ∨ enableBarred l arm s then refuse .state s
  else if recordedIn .latched v then refuse .faulted s
  else okay (restartReport arm (enterState arm .starting s))

/-- ARM_DISABLE of an arm from a link (R92); one that takes the arm out of another state is kept until cell time moves
on. -/
def armDisable (l : Link) (arm : Arm) (s : State) : Act :=
  if (s.sup.get arm).state = .disabled then okay s
  else
    let s1 := removeClaim arm ((enterState arm .disabled s).modSup arm fun v => { v with reportTimer := none })
    okay { s1 with disabledBy := s1.disabledBy.set arm (some l) }

/-- The unit of an arm link with its flags and details cleared and its enables kept (R157). -/
def clearUnit (u : ArmUnit) : ArmUnit :=
  { u with permit := .clear u.permit.enable none, change := .clear u.change.enable none,
           claim := .clear u.claim.enable none, comp := .clear u.comp.enable none }

/-- The permit sense is judged against the command, unless a settle window runs (R100). -/
def judgeSense (arm : Arm) (s : State) : State :=
  let v := s.sup.get arm
  if v.window.isSome then s else setPresent arm .permitMismatch (decide (v.sense ≠ v.command)) s

/-- The supervisor at ARM_RESET (R93): DISABLED, every flag cleared, the timer stopped, the command off, the settings
and modes kept. -/
def resetSupervisor (arm : Arm) (s : State) : State :=
  commandPermit arm false (s.modSup arm fun v =>
    { v with state := .disabled, present := PerCause.none, recorded := PerCause.none, reportTimer := none })

/-- ARM_RESET of an arm, all as one event (R93). -/
def armReset (arm : Arm) (s : State) : Act :=
  let s1 := removeClaim arm (resetChange arm s)
  let s2 := (resetSupervisor arm s1).setLastPos arm none
  let s3 := (s2.setGuard arm none).setQueue arm { s2.touch.queues.get arm with blankTimer := none }
  okay (judgeSense arm (s3.modArmUnit arm clearUnit))

/-! ### FAULT_CLEAR (R94) -/

/-- The recorded set after FAULT_CLEAR: each named cause that is not present is cleared. -/
def clearedFlags (named : Word) (v : Supervisor) : PerCause Bool :=
  let keep (bit : Nat) (c : Cause) : Bool := v.recorded.get c && (!named.getLsbD bit || v.present.get c)
  { guard := keep 0 .guard, overdue := keep 1 .overdue, compLost := keep 2 .compLost, link := keep 3 .link,
    permitMismatch := keep 4 .permitMismatch, changeFault := keep 5 .changeFault }

/-- A named cause was left recorded because it is present. -/
def leftRecorded (named : Word) (v : Supervisor) : Bool :=
  allCauses.zipIdx.any fun c => named.getLsbD c.2 && v.recorded.get c.1 && v.present.get c.1

/-- FAULT_CLEAR (R94). -/
def faultClear (r : Request) (s : State) : Act :=
  match armOfSel r.sel with
  | none => refuse .badSelector s
  | some arm =>
    if 64 ≤ r.d0.toNat then refuse .outOfRange s
    else
      let v := s.sup.get arm
      let recorded := clearedFlags r.d0 v
      { st := s.modSup arm fun v => { v with recorded := recorded }
        trigger := .faultClear arm
        reply := { code := if leftRecorded r.d0 v then .causePresent else .ok, d0 := causeMarks recorded,
                   d1 := causeMarks v.present, d2 := 0 } }

/-! ### ARM_SET (R81, R82) -/

/-- The modes that part 2 carries; absent if a code is none or one the cause does not allow (R81). -/
def modesOf (w : Word) : Option Modes := do
  let guard ← modeOfCode (byteOf w 0)
  let overdue ← modeOfCode (byteOf w 1)
  let compLost ← modeOfCode (byteOf w 2)
  let link ← modeOfCode (byteOf w 3)
  if overdue = .off then none else some { guard := guard, overdue := overdue, compLost := compLost, link := link }

/-- What a taken ARM_SET does to one cause whose mode changes (R82): OFF clears its recorded flag; leaving OFF records a
present cause. -/
def changeMode (arm : Arm) (before after : Modes) (c : Cause) (s : State) : State :=
  if modeOf before c = modeOf after c then s
  else if modeOf after c = .off then s.modSup arm fun v => { v with recorded := v.recorded.set c false }
  else if modeOf before c = .off ∧ (s.sup.get arm).present.get c then recordCause arm c s
  else s

/-- The settings of an arm replaced. -/
def State.setSettings (s : State) (arm : Arm) (x : ArmSettings) : State := s.modSup arm fun v => { v with settings := x }

/-- The modes of an arm replaced, acting on each cause whose mode changes (R82). -/
def setModes (arm : Arm) (modes : Modes) (s : State) : State :=
  let set := (s.sup.get arm).settings
  let s1 := s.setSettings arm { set with modes := modes }
  let step := changeMode arm set.modes modes
  step .link (step .compLost (step .overdue (step .guard s1)))

/-- ARM_SET (R81, R82, R174). -/
def armSet (r : Request) (s : State) : Act :=
  match armOfSel r.sel with
  | none => refuse .badSelector s
  | some arm =>
    let v := s.sup.get arm
    if 2 < r.d0.toNat then refuse .badSelector s
    else if v.state ≠ .disabled then refuse .state s
    else
      match r.d0.toNat with
      | 0 =>
        if 10000000 < r.d1.toNat ∨ ¬ inCounts r.d2.toInt then refuse .outOfRange s
        else okay (s.setSettings arm { v.settings with halfWidth := r.d1.toNat, freeReach := r.d2.toInt })
      | 1 =>
        if 5000000 < r.d1.toNat ∨ 7 < byteOf r.d2 0 ∨ 1 < byteOf r.d2 1 then refuse .outOfRange s
        else okay (s.setSettings arm { v.settings with
          margin := r.d1.toNat, timeoutCode := BitVec.ofNat 3 (byteOf r.d2 0),
          reportAny := decide (byteOf r.d2 1 = 1) })
      | _ =>
        match modesOf r.d1 with
        | none => refuse .outOfRange s
        | some modes => okay (setModes arm modes s)

/-! ### Timers and the permit line (R98, R100) -/

/-- The expiry of the report timer: it stops, and OVERDUE becomes present (R98). -/
def expireReport (arm : Arm) (s : State) : State :=
  setPresent arm .overdue true (s.modSup arm fun v => { v with reportTimer := none })

/-- The expiry of the settle window: sense and command are compared (R100). -/
def expireWindow (arm : Arm) (s : State) : State := judgeSense arm (s.modSup arm fun v => { v with window := none })

/-- A change of the permit-sense level (R100). While the reset input is asserted only the line changes (R171). -/
def changeSense (arm : Arm) (level : Bool) (s : State) : State :=
  if (s.sup.get arm).sense = level then s
  else
    let s1 := s.modSup arm fun v => { v with sense := level }
    if s.resetHeld then s1 else judgeSense arm s1

/-! ### READ_ARM (R102, Table A.7) -/

/-- READ_ARM part 3: the pending claim and the last position record; the report time and the tag are free while they do
not exist (log entry 7). -/
def readArmRecord (arm : Arm) (s : State) : State × Reply :=
  let c := s.zones.claims.get arm
  let claim := at_ 0 (claimFirst c) ||| at_ 8 (claimCount c)
  match s.lastPos.get arm with
  | none =>
    ({ s with freeIndex := s.freeIndex + 2 },
     { code := .ok, d0 := claim, d1 := Config.unstatedWord s.freeIndex, d2 := Config.unstatedWord (s.freeIndex + 1) })
  | some p =>
    match p.tag with
    | some tag => (s, { code := .ok, d0 := claim ||| at_ 16 1, d1 := p.time, d2 := tag })
    | none =>
      ({ s with freeIndex := s.freeIndex + 1 },
       { code := .ok, d0 := claim ||| at_ 16 1 ||| at_ 24 1, d1 := p.time, d2 := Config.unstatedWord s.freeIndex })

/-- READ_ARM part 5: qualities, SAT flags and workpiece temperature; the quality codes of an absent record are free
(log entry 7). -/
def readArmQuality (arm : Arm) (s : State) : State × Reply :=
  match s.lastPos.get arm with
  | none =>
    ({ s with freeIndex := s.freeIndex + 2 },
     { code := .ok, d0 := Config.unstatedWord s.freeIndex
       d1 := Config.unstatedWord (s.freeIndex + 1) &&& 0x0000FF00#32, d2 := signedOrAbsent none })
  | some p =>
    (s, { code := .ok
          d0 := at_ 0 p.quality.x.rank ||| at_ 8 p.quality.y.rank ||| at_ 16 p.quality.z.rank ||| at_ 24 p.worst.rank
          d1 := at_ 0 (flag p.sat.x) ||| at_ 1 (flag p.sat.y) ||| at_ 2 (flag p.sat.z) ||| at_ 8 p.twQuality.rank
          d2 := signedOrAbsent p.tw })

/-- The modes of the six causes, cause k in bits 4k to 4k+3. -/
def modesWord (v : Supervisor) : Word :=
  at_ 0 (v.mode .guard).num ||| at_ 4 (v.mode .overdue).num ||| at_ 8 (v.mode .compLost).num |||
    at_ 12 (v.mode .link).num ||| at_ 16 (v.mode .permitMismatch).num ||| at_ 20 (v.mode .changeFault).num

/-- READ_ARM (R102). -/
def readArm (r : Request) (s : State) : State × Reply :=
  match armOfSel r.sel with
  | none => (s, .zeros .badSelector)
  | some arm =>
    let v := s.sup.get arm
    match r.d0.toNat with
    | 0 =>
      (s, { code := .ok
            d0 := at_ 0 v.state.num ||| at_ 8 (flag v.command + 2 * flag v.sense + 4 * flag v.window.isSome +
                    8 * flag v.reportTimer.isSome)
            d1 := causeMarks v.present, d2 := causeMarks v.recorded })
    | 1 =>
      (s, { code := .ok, d0 := modesWord v
            d1 := at_ 0 v.settings.timeoutCode.toNat ||| at_ 8 (flag v.settings.reportAny)
            d2 := at_ 0 (s.timeLeft v.reportTimer) })
    | 2 =>
      (s, { code := .ok, d0 := signedWord v.settings.halfWidth, d1 := signedWord v.settings.freeReach
            d2 := signedWord v.settings.margin })
    | 3 => readArmRecord arm s
    | 4 =>
      let c := ((s.lastPos.get arm).map PosRecord.corrected).getD { x := 0, y := 0, z := 0 }
      (s, { code := .ok, d0 := signedWord c.x, d1 := signedWord c.y, d2 := signedWord c.z })
    | 5 => readArmQuality arm s
    | _ => (s, .zeros .badSelector)

/-! ### Meanings -/

/-- POSITION (R53). -/
def execPosition (r : Request) (s : State) : StepResult :=
  .next (handleRequest .armLinks r.link (forLinkArm r.link fun arm => positionBy arm r) s)

/-- ARM_ENABLE (R91). -/
def execArmEnable (r : Request) (s : State) : StepResult := .next (handleControl r (armEnable r.link) s)

/-- ARM_DISABLE (R92). -/
def execArmDisable (r : Request) (s : State) : StepResult := .next (handleControl r (armDisable r.link) s)

/-- ARM_RESET (R93). -/
def execArmReset (r : Request) (s : State) : StepResult := .next (handleControl r armReset s)

/-- ARM_SET (R81, R82). -/
def execArmSet (r : Request) (s : State) : StepResult := .next (handleRequest .cellLink r.link (armSet r) s)

/-- FAULT_CLEAR (R94). -/
def execFaultClear (r : Request) (s : State) : StepResult := .next (handleRequest .cellLink r.link (faultClear r) s)

/-- READ_ARM (R102). -/
def execReadArm (r : Request) (s : State) : StepResult := .next (handleRead .allLinks r.link (readArm r) s)

/-- REPORT_TIMER_EXPIRY (R98). A timer that has not run out does not expire (log entry 5). -/
def execReportTimerExpiry (arm : Arm) (s : State) : StepResult :=
  if s.due (s.sup.get arm).reportTimer then .next (conclude s .plain (expireReport arm s)) else .next s

/-- PERMIT_SENSE_CHANGE (R100). -/
def execPermitSenseChange (arm : Arm) (level : Bool) (s : State) : StepResult :=
  .next (conclude s .plain (changeSense arm level s))

/-- SETTLE_WINDOW_EXPIRY (R100). -/
def execSettleWindowExpiry (arm : Arm) (s : State) : StepResult :=
  if s.due (s.sup.get arm).window then .next (conclude s .plain (expireWindow arm s)) else .next s

end Sys2Proof.Machine
end

