-- ==== Sys2Proof/Machine/Links.lean ====
section
/-! DEFINITION. The link ports (Chapter 10) and the reset input (R171). -/

namespace Sys2Proof.Machine

/-! ### The beginning and the other ends of a frame -/

/-- A frame begins: the reply is formed and fixed (R160). A frame that begins while the part is held in reset is passed
over (R168, R171). Select that is already asserted cannot be asserted (log entry 5). -/
def beginFrame (l : Link) (s : State) : State :=
  if (s.ports.get l).phase ≠ .idle then s
  else if s.resetHeld then s.modPort l fun p => { p with phase := .passedOver }
  else s.modPort l fun p => { p with phase := .inFrame (formReply s l) }

/-- A frame is discarded (R163): FRAME_ERROR, the run count up to 255, and LINK present from the third in a run (R87). -/
def discardFrame (l : Link) (s : State) : State :=
  let s1 := s.modPort l fun p =>
    { p with phase := .idle, reply := .zeros .frameError, runCount := min 255 (p.runCount + 1) }
  match armOf l with
  | none => s1
  | some arm => if 3 ≤ (s1.ports.get l).runCount then setPresent arm .link true s1 else s1

/-- READ_TIME (R169): run counts and RESET bits as they stand after this frame's own acceptance. -/
def readTimeWords (s : State) : Reply :=
  { code := .ok, d0 := s.cellTime
    d1 := at_ 0 s.ports.armA.runCount ||| at_ 8 s.ports.armB.runCount ||| at_ 16 s.ports.cell.runCount
    d2 := at_ 0 (flag s.ports.armA.resetBit) ||| at_ 1 (flag s.ports.armB.resetBit) |||
          at_ 2 (flag s.ports.cell.resetBit) }

/-! ### The reset input (R171) -/

/-- A frame whose select is held when the device reset is taken is passed over (R168). -/
def PortPhase.atReset : PortPhase → PortPhase
  | .idle => .idle
  | .inFrame _ => .passedOver
  | .passedOver => .passedOver

/-- Every block in its device-reset state, the reset input asserted and cell time held at 0; the levels of the input
lines stay (R171). The waiting commands and the count of free values are not the part's. -/
def deviceReset (s : State) : State :=
  { State.reset with
    resetHeld := true
    ports := ⟨Port.reset s.ports.armA.phase.atReset, Port.reset s.ports.armB.phase.atReset,
              Port.reset s.ports.cell.phase.atReset⟩
    sup := ⟨Supervisor.reset s.sup.a.sense, Supervisor.reset s.sup.b.sense⟩
    rack := { State.reset.rack with slots := vmap (fun _ x => Slot.reset x.raw none) s.rack.slots }
    pending := s.pending
    freeIndex := s.freeIndex }

/-- The events that follow the deassertion of the reset input: the settle timer of every slot starts, and each permit
sense is judged against the off command (R120, R100, R171). -/
def leaveReset (s : State) : State :=
  let s1 := { s with resetHeld := false }
  let s2 := { s1 with rack := { s1.rack with
    slots := vmap (fun _ x => { x with settleTimer := some (s1.timer presenceSettleMs) }) s1.rack.slots } }
  judgeSense .b (judgeSense .a s2)

/-! ### Meanings -/

/-- RESET_INPUT_ASSERTED (R171). While a device reset is held it changes nothing. -/
def execResetInputAsserted (s : State) : StepResult := .next (if s.resetHeld then s else deviceReset s)

/-- RESET_INPUT_DEASSERTED (R171). An input that is not asserted cannot be deasserted (log entry 5). -/
def execResetInputDeasserted (s : State) : StepResult :=
  .next (if s.resetHeld then conclude s .plain (leaveReset s) else s)

/-- FRAME_BEGIN (R160). -/
def execFrameBegin (link : Link) (s : State) : StepResult := .next (beginFrame link s)

/-- FRAME_DISCARD (R163). -/
def execFrameDiscard (link : Link) (s : State) : StepResult :=
  .next (if takesFrame link s then conclude s .plain (discardFrame link s) else passOver link s)

/-- PASSED_OVER_FRAME_END (R168): select is deasserted and the port is ready for its first frame. -/
def execPassedOverFrameEnd (link : Link) (s : State) : StepResult :=
  .next (if takesFrame link s then s else passOver link s)

/-- UNKNOWN_REQUEST (R164). -/
def execUnknownRequest (code : Byte) (r : Request) (s : State) : StepResult :=
  let _ := code
  .next (handleRequest .allLinks r.link (refuse .unknown) s)

/-- NOP (R169). -/
def execNop (r : Request) (s : State) : StepResult := .next (handleRequest .allLinks r.link (fun s1 => okay s1) s)

/-- READ_TIME (R169). -/
def execReadTime (r : Request) (s : State) : StepResult :=
  .next (handleRead .allLinks r.link (fun s1 => (s1, readTimeWords s1)) s)

end Sys2Proof.Machine
end

