-- ==== Sys2Proof/Machine/ModelStore.lean ====
section
/-! DEFINITION. The model store (Chapter 2): writing STAGING, the model check with its four tests, the commit, and the
read. -/

namespace Sys2Proof.Machine

/-! ### Writing STAGING (section 2.3) -/

/-- Whether a word lies in the range that Table 2.2 gives for the field at its index. -/
def wordInRange (index : Nat) (w : Word) : Bool :=
  if index = 0 then true
  else if index = 1 then decide (w.toNat ≤ 30000)
  else
    match (index - 2) % 38 with
    | 0 => decide (w.toNat ≤ 30000)
    | 1 => decide (byteOf w 0 ≤ 15 ∧ (byteOf w 1 ≤ 15 ∨ byteOf w 1 = 255) ∧ byteOf w 2 = 0 ∧ byteOf w 3 = 0)
    | 2 => inCounts w.toInt
    | 3 => decide (1 ≤ w.toNat ∧ w.toNat ≤ 100000000)
    | 4 => decide (2 ≤ w.toNat ∧ w.toNat ≤ 33)
    | _ => decide (-32767 ≤ w.toInt ∧ w.toInt ≤ 32767)

/-- An image with the word at an index replaced. -/
def writeWord (im : Image) (i : Nat) (w : Word) : Image := if h : i < 230 then vput im ⟨i, h⟩ w else im

/-- STAGING replaced. -/
def State.setStaging (s : State) (im : Image) : State := { s with model := { s.model with staging := im } }

/-- MODEL_LOAD (R28). -/
def modelLoad (r : Request) (s : State) : Act :=
  let first := r.sel.toNat
  let count := r.d0.toNat
  if s.model.check.isSome then refuse .busy s
  else if 229 < first ∨ (count = 2 ∧ 229 < first + 1) then refuse .badSelector s
  else if count = 1 then
    if wordInRange first r.d1 then okay (s.setStaging (writeWord s.model.staging first r.d1))
    else refuse .outOfRange s
  else if count = 2 then
    if wordInRange first r.d1 ∧ wordInRange (first + 1) r.d2 then
      okay (s.setStaging (writeWord (writeWord s.model.staging first r.d1) (first + 1) r.d2))
    else refuse .outOfRange s
  else refuse .outOfRange s

/-- MODEL_REVERT (R29). -/
def modelRevert (s : State) : Act :=
  if s.model.check.isSome then refuse .busy s else okay (s.setStaging (s.model.active.getD Image.zero))

/-- MODEL_CHECK (R30). -/
def modelCheck (r : Request) (s : State) : Act :=
  if s.model.check.isSome then refuse .busy s
  else okay { s with model := { s.model with check := some { expected := r.d0, start := s.cellTime } } }

/-! ### The four tests (section 2.4.2) -/

/-- The NODES test of one scale (R32). -/
def nodesPass (im : Image) (j : Fin 6) : Bool :=
  let n := nodeCount im j
  decide (2 ≤ n ∧ n ≤ 33) &&
    (List.range 33).all fun i => decide (i < n) || decide (imageWord im (scaleIndex j (5 + i)) = 0)

/-- The SPAN test of one scale (R33). -/
def spanPass (im : Image) (j : Fin 6) : Bool :=
  decide (1 ≤ scaleSpacing im j ∧ scaleSpacing im j ≤ 100000000 ∧
    scaleX0 im j + ((nodeCount im j : Int) - 1) * scaleSpacing im j ≤ maxCount)

/-- The sensor with this number has role SCALE. -/
def isScale (s : State) (n : Nat) : Bool :=
  match indexOf 16 n with
  | none => false
  | some i => decide ((vget s.temp.sensors i).role = .scale)

/-- The ASSIGN test of one scale, from the sensor table as it stands (R34). -/
def assignPass (s : State) (im : Image) (j : Fin 6) : Bool :=
  isScale s (primaryOf im j) && (decide (secondaryOf im j = 255) || isScale s (secondaryOf im j))

/-- The first scale, in the order A.X to B.Z, that fails a test. -/
def firstFailing (test : Fin 6 → Bool) : Option (Fin 6) := (List.finRange 6).find? fun j => !test j

/-- One shift of the CRC-32 register (R35). -/
def crc32Shift (reg : Word) : Word := if reg.getLsbD 0 then (reg >>> 1) ^^^ 0xEDB88320#32 else reg >>> 1

/-- One byte combined into the CRC-32 register. -/
def crc32Byte (reg : Word) (b : Byte) : Word := Nat.repeat crc32Shift 8 (reg ^^^ b.setWidth 32)

/-- The CRC-32 of a run of bytes (R35). -/
def crc32 (bytes : List Byte) : Word := bytes.foldl crc32Byte 0xFFFFFFFF#32 ^^^ 0xFFFFFFFF#32

/-- The 920 bytes of an image: words in index order, each least significant byte first (R35). -/
def imageBytes (im : Image) : List Byte := im.toList.flatMap bytesOfWord

/-- The record of a check of STAGING with the expected CRC: the four tests in order (R32 to R37). -/
def checkStaging (s : State) (expected : Word) : CheckRecord :=
  let im := s.model.staging
  let failed (result : CheckResult) (j : Fin 6) : CheckRecord :=
    { result := result, failingScale := some j, expected := some expected, computed := none }
  match firstFailing (nodesPass im) with
  | some j => failed .nodes j
  | none =>
    match firstFailing (spanPass im) with
    | some j => failed .span j
    | none =>
      match firstFailing (assignPass s im) with
      | some j => failed .assign j
      | none =>
        let crc := crc32 (imageBytes im)
        { result := if crc = expected then .passed else .crc, failingScale := none, expected := some expected,
          computed := some crc }

/-- The check in flight was taken 2 ms ago (R30). -/
def modelCheckDue (s : State) : Bool :=
  match s.model.check with
  | none => false
  | some c => s.reached c.start modelCheckMs

/-- The completion of a check: the record, the commit of a passed check, and MODEL attention (R36, R37, R39). -/
def completeCheck (c : RunningCheck) (s : State) : State :=
  let record := checkStaging s c.expected
  let m := { s.model with check := none, last := record }
  let m1 := if record.result = .passed then
      { m with active := some s.model.staging, commitCount := s.model.commitCount + 1 }
    else m
  raiseModel record.result { s with model := m1 }

/-! ### The read (R40, Table A.7) -/

/-- READ_MODEL (R40). An absent failing scale is written 255 (log entry 8). -/
def readModelWords (r : Request) (s : State) : Reply :=
  let m := s.model
  let emptyMark := flag m.active.isNone
  match r.sel.toNat with
  | 0 => { code := .ok
           d0 := m.active.elim 0 fun im => imageWord im 0
           d1 := at_ 0 (flag m.check.isSome) ||| at_ 8 emptyMark
           d2 := at_ 0 m.last.result.num ||| at_ 8 (numberOrAbsent m.last.failingScale) |||
                 at_ 16 (flag m.last.computed.isSome) }
  | 1 => { code := .ok, d0 := m.last.expected.getD 0, d1 := m.last.computed.getD 0, d2 := m.commitCount }
  | 2 => if 229 < r.d0.toNat then .zeros .outOfRange
         else { code := .ok
                d0 := imageWord m.staging r.d0.toNat
                d1 := m.active.elim 0 fun im => imageWord im r.d0.toNat
                d2 := at_ 0 emptyMark }
  | _ => .zeros .badSelector

/-! ### Meanings -/

/-- MODEL_LOAD (R28). -/
def execModelLoad (r : Request) (s : State) : StepResult := .next (handleRequest .cellLink r.link (modelLoad r) s)

/-- MODEL_REVERT (R29). -/
def execModelRevert (r : Request) (s : State) : StepResult := .next (handleRequest .cellLink r.link modelRevert s)

/-- MODEL_CHECK (R30). -/
def execModelCheck (r : Request) (s : State) : StepResult := .next (handleRequest .cellLink r.link (modelCheck r) s)

/-- READ_MODEL (R40). -/
def execReadModel (r : Request) (s : State) : StepResult :=
  .next (handleRead .allLinks r.link (fun s1 => (s1, readModelWords r s1)) s)

/-- MODEL_CHECK_COMPLETION (R36, R37). Without a check 2 ms in flight no completion occurs (log entry 5). -/
def execModelCheckCompletion (s : State) : StepResult :=
  match s.model.check with
  | none => .next s
  | some c => if modelCheckDue s then .next (completeCheck c s) else .next s

end Sys2Proof.Machine
end

