-- ==== Sys2Proof/Machine/Rack.lean ====
section
/-! DEFINITION. The rack unit (Chapter 7): presence, the change protocol, slot service, and the reads. -/

namespace Sys2Proof.Machine

/-! ### Presence (R119, R121, R127, R128) -/

/-- A settled change of a slot that is not RELEASED, by Table 7.2, with RACK attention in every row (R121). -/
def unexpectedChange (i : Fin 12) (s : State) : State :=
  let x := slotAt s i
  let s1 :=
    match x.state with
    | .stored => enterSlot i .blocked none (locateAny x.probe .missing s)
    | .vacant => enterSlot i .unclaimed none s
    | .unclaimed => enterSlot i .vacant none s
    | .blocked => s
    | .released => s
  raiseRack i s1

/-- The take probe of the arm's change stands STORED in its take slot: the slot and the entry (R127). -/
def takeReady (c : ChangeContext) (s : State) : Option (Fin 12 × Fin 14) :=
  match c.takeSlot, probeById s c.takeId.toNat with
  | some t, some e =>
    if (slotAt s t).state = .stored ∧ (entryAt s e).map Probe.location = some (.slot t) then some (t, e) else none
  | _, _ => none

/-- The put slot settled seated in DEPOSIT: the deposit completes, and the change goes on to PICK or FINISH (R127). -/
def completeDeposit (arm : Arm) (h : Fin 12) (s : State) : State :=
  let c := s.rack.changes.get arm
  let e := headProbe s arm
  let s1 := enterSlot h .stored e (locateAny e (.slot h) s)
  let s2 :=
    if c.takeId = 0 then s1.setChange arm { c with phase := .finish, outcome := .deposited }
    else
      match takeReady c s1 with
      | some (t, take) =>
        (enterSlot t .released (some take) s1).setChange arm { c with phase := .pick, outcome := .deposited }
      | none => s1.setChange arm { c with phase := .finish, outcome := .takeLost, takeId := 0, takeSlot := none }
  raiseChange arm s2

/-- The take slot settled unseated in PICK: the pick completes (R128). -/
def completePick (arm : Arm) (t : Fin 12) (s : State) : State :=
  let c := s.rack.changes.get arm
  let s1 := enterSlot t .vacant none (locateAny (slotAt s t).probe (.head arm) s)
  raiseChange arm (s1.setChange arm { c with phase := .finish, outcome := .picked })

/-- The arm whose change released the slot and awaits this settled level (R119): its put slot seated in DEPOSIT, its
take slot unseated in PICK. -/
def awaits (s : State) (i : Fin 12) (seated : Bool) (arm : Arm) : Bool :=
  let c := s.rack.changes.get arm
  (seated && decide (c.phase = .deposit ∧ c.putSlot = some i)) ||
    (!seated && decide (c.phase = .pick ∧ c.takeSlot = some i))

/-- The awaited settled change of a RELEASED slot is handed to the change of an arm. -/
def advanceChange (arm : Arm) (i : Fin 12) (seated : Bool) (s : State) : State :=
  if seated then completeDeposit arm i s else completePick arm i s

/-- A settled change of a slot to a level (R119). -/
def settledChange (i : Fin 12) (seated : Bool) (s : State) : State :=
  if (slotAt s i).state = .released then
    if awaits s i seated .a then advanceChange .a i seated s
    else if awaits s i seated .b then advanceChange .b i seated s
    else s
  else unexpectedChange i s

/-- The expiry of a slot's settle timer (R119). -/
def expireSettle (i : Fin 12) (s : State) : State :=
  let x := slotAt s i
  let s1 := s.setSlot i { x with settleTimer := none, settled := x.raw }
  if x.raw = x.settled then s1 else settledChange i x.raw s1

/-- A change of a slot's raw level: the settle timer starts afresh (R119). While the reset input is asserted only the
line changes (R171). -/
def changeRaw (i : Fin 12) (level : Bool) (s : State) : State :=
  s.modSlot i fun x =>
    if x.raw = level then x
    else if s.resetHeld then { x with raw := level }
    else { x with raw := level, settleTimer := some (s.timer presenceSettleMs) }

/-! ### The change protocol (R125 to R132) -/

/-- A request of the change protocol answered with the words of READ_CHANGE part 0 after it (R125). -/
def changeAct (code : ResultCode) (arm : Arm) (s : State) : Act := { st := s, reply := changeWords code arm s }

/-- The entry and slot of the probe to be taken: registered under the id and located at a STORED slot (Table 7.4,
check 8). -/
def takeProbe (s : State) (id : Nat) : Option (Fin 14 × Fin 12 × Probe) :=
  match probeById s id with
  | none => none
  | some e =>
    match entryAt s e with
    | none => none
    | some p =>
      match p.location with
      | .slot t => if (slotAt s t).state = .stored then some (e, t, p) else none
      | _ => none

/-- The change opens (R126): in DEPOSIT with the mounted probe's home slot RELEASED empty, or in PICK with the take slot
RELEASED holding the take probe. -/
def openChange (arm : Arm) (mounted : Option Probe) (takeId : Half) (take : Option (Fin 14 × Fin 12 × Probe))
    (s : State) : State :=
  let timer := some (s.timer (s.rack.changeTimeout * 1000))
  let takeSlot := take.map fun t => t.2.1
  match mounted with
  | some q =>
    raiseChange arm ((enterSlot q.home .released none s).setChange arm
      { phase := .deposit, putSlot := some q.home, depositedId := some q.id, takeSlot := takeSlot, takeId := takeId,
        outcome := .opened, timer := timer })
  | none =>
    let s1 := take.elim s fun t => enterSlot t.2.1 .released (some t.1) s
    raiseChange arm (s1.setChange arm
      { phase := .pick, putSlot := none, depositedId := none, takeSlot := takeSlot, takeId := takeId,
        outcome := .opened, timer := timer })

/-- The checks of CHANGE_OPEN from check 8 on, and the opening (Table 7.4, R126). -/
def openChecked (arm : Arm) (takeId : Nat) (mounted : Option Probe) (s : State) : Act :=
  let take := takeProbe s takeId
  if takeId ≠ 0 ∧ take.isNone then changeAct .noProbe arm s
  else if takeId ≠ 0 ∧ take.any fun t => decide (t.2.2.reservation = some (otherArm arm)) then
    changeAct .reserved arm s
  else if mounted.any fun q => decide ((slotAt s q.home).state ≠ .vacant) then changeAct .slotBusy arm s
  else changeAct .ok arm
    (openChange arm mounted (BitVec.ofNat 16 takeId) (if takeId = 0 then none else take) s)

/-- CHANGE_OPEN by an arm (R125, R126). -/
def changeOpenBy (arm : Arm) (r : Request) (s : State) : Act :=
  let takeId := r.d0.toNat
  if (s.sup.get arm).state ≠ .running then changeAct .state arm s
  else
    match rackZone s with
    | none => changeAct .notReady arm s
    | some z =>
      if (zoneAt s z).holder ≠ some arm then changeAct .notHeld arm s
      else if changeOpen s arm then changeAct .busy arm s
      else if 65535 < takeId then changeAct .outOfRange arm s
      else
        let mounted := headRecord s arm
        if takeId = 0 ∧ mounted.isNone then changeAct .outOfRange arm s
        else if mounted.any fun q => decide (q.id.toNat = takeId) then changeAct .state arm s
        else openChecked arm takeId mounted s

/-- CHANGE_CLOSE by an arm (R129, R130). -/
def changeCloseBy (arm : Arm) (r : Request) (s : State) : Act :=
  let c := s.rack.changes.get arm
  if c.phase ≠ .finish then changeAct .state arm s
  else if 65535 < r.d0.toNat then changeAct .outOfRange arm s
  else if r.d0.toNat = c.takeId.toNat then
    let s1 := closeChange arm .closed s
    let s2 := if c.takeId ≠ 0 then startBlank arm (mountTake arm s1) else s1
    changeAct .ok arm (raiseChange arm s2)
  else
    let s1 := if c.takeId ≠ 0 then locateAny (headProbe s arm) .missing s else s
    let s2 := raiseChange arm (reportChangeFault arm (closeChange arm .wrongProbe s1))
    { st := s2, reply := changeWords .ok arm s2, trigger := .changeFault arm }

/-- CHANGE_ABORT by an arm (R131). -/
def changeAbortBy (arm : Arm) (s : State) : Act :=
  let c := s.rack.changes.get arm
  if c.phase = .deposit ∨ c.phase = .pick then
    changeAct .ok arm (raiseChange arm (closeChange arm .aborted (giveBackSlot c s)))
  else changeAct .state arm s

/-- The slot of an expired change is BLOCKED, with RACK attention (Table 7.5, R122). -/
def blockSlot (c : ChangeContext) (s : State) : State :=
  match c.phase with
  | .deposit => c.putSlot.elim s fun h => raiseRack h (enterSlot h .blocked none s)
  | .pick => c.takeSlot.elim s fun t => raiseRack t (enterSlot t .blocked (slotAt s t).probe s)
  | _ => s

/-- The expiry of an arm's change timer (R132). -/
def expireChange (arm : Arm) (s : State) : State :=
  let c := s.rack.changes.get arm
  let s1 := blockSlot c s
  let s2 := if c.phase = .finish ∧ c.takeId ≠ 0 then startBlank arm (mountTake arm s1) else s1
  raiseChange arm (reportChangeFault arm (closeChange arm .timedOut s2))

/-! ### Settings and service -/

/-- RACK_SET (R124). -/
def rackSet (r : Request) (s : State) : Act :=
  if r.d0.toNat < 1 ∨ 120 < r.d0.toNat then refuse .outOfRange s
  else okay { s with rack := { s.rack with changeTimeout := r.d0.toNat } } r.d0

/-- The lowest-numbered MISSING probe whose home slot this is (Table 7.6). -/
def missingFrom (s : State) (i : Fin 12) : Option (Fin 14) :=
  findProbe s fun p => decide (p.location = .missing ∧ p.home = i)

/-- A BLOCKED slot is set from its settled presence, by Table 7.6 (R136). -/
def serviceSlot (i : Fin 12) (s : State) : State :=
  let x := slotAt s i
  if x.settled then
    match x.probe, missingFrom s i with
    | some e, _ => enterSlot i .stored (some e) s
    | none, some e => enterSlot i .stored (some e) (locate e (.slot i) s)
    | none, none => enterSlot i .unclaimed none s
  else enterSlot i .vacant none (locateAny x.probe .missing s)

/-- SLOT_SERVICE (R136). -/
def slotService (r : Request) (s : State) : Act :=
  match indexOf 12 r.sel.toNat with
  | none => refuse .badSelector s
  | some i =>
    if (slotAt s i).state ≠ .blocked then refuse .state s
    else
      let s1 := serviceSlot i s
      { st := s1, reply := slotWords i s1 }

/-! ### Reads (R137, Table A.7) -/

/-- The set of slots in a state. -/
def slotsIn (s : State) (st : SlotState) : BitVec 12 := marksOf fun i => decide ((slotAt s i).state = st)

/-- READ_SLOT (R137). -/
def readSlotWords (r : Request) (s : State) : Reply :=
  match indexOf 12 r.sel.toNat with
  | some i => slotWords i s
  | none =>
    if r.sel.toNat = 12 then
      { code := .ok
        d0 := setAt 0 (marksOf fun i => (slotAt s i).settled) ||| setAt 16 (marksOf fun i => (slotAt s i).lock)
        d1 := setAt 0 (slotsIn s .blocked) ||| setAt 16 (slotsIn s .unclaimed)
        d2 := setAt 0 (slotsIn s .vacant) ||| setAt 12 (slotsIn s .released) ||| at_ 24 s.rack.changeTimeout }
    else .zeros .badSelector

/-- READ_CHANGE (R137). -/
def readChangeWords (r : Request) (s : State) : Reply :=
  match armOfSel r.sel with
  | none => .zeros .badSelector
  | some arm =>
    match r.d0.toNat with
    | 0 => changeWords .ok arm s
    | 1 =>
      let t := (s.rack.changes.get arm).timer
      { code := .ok, d0 := at_ 0 (flag t.isSome), d1 := at_ 0 (s.timeLeft t)
        d2 := at_ 0 (numberOrAbsent (headProbe s arm)) }
    | _ => .zeros .badSelector

/-! ### Meanings -/

/-- CHANGE_OPEN (R125, R126). -/
def execChangeOpen (r : Request) (s : State) : StepResult :=
  .next (handleRequest .armLinks r.link (forLinkArm r.link fun arm => changeOpenBy arm r) s)

/-- CHANGE_CLOSE (R129, R130). -/
def execChangeClose (r : Request) (s : State) : StepResult :=
  .next (handleRequest .armLinks r.link (forLinkArm r.link fun arm => changeCloseBy arm r) s)

/-- CHANGE_ABORT (R131). -/
def execChangeAbort (r : Request) (s : State) : StepResult :=
  .next (handleRequest .armLinks r.link (forLinkArm r.link changeAbortBy) s)

/-- RACK_SET (R124). -/
def execRackSet (r : Request) (s : State) : StepResult := .next (handleRequest .cellLink r.link (rackSet r) s)

/-- SLOT_SERVICE (R136). -/
def execSlotService (r : Request) (s : State) : StepResult := .next (handleRequest .cellLink r.link (slotService r) s)

/-- READ_SLOT (R137). -/
def execReadSlot (r : Request) (s : State) : StepResult :=
  .next (handleRead .allLinks r.link (fun s1 => (s1, readSlotWords r s1)) s)

/-- READ_CHANGE (R137). -/
def execReadChange (r : Request) (s : State) : StepResult :=
  .next (handleRead .allLinks r.link (fun s1 => (s1, readChangeWords r s1)) s)

/-- PRESENCE_RAW_CHANGE (R119). -/
def execPresenceRawChange (slot : Fin 12) (level : Bool) (s : State) : StepResult := .next (changeRaw slot level s)

/-- PRESENCE_SETTLE_EXPIRY (R119, R121, R127, R128). A timer that has not run out does not expire (log entry 5). -/
def execPresenceSettleExpiry (slot : Fin 12) (s : State) : StepResult :=
  if s.due (slotAt s slot).settleTimer then .next (expireSettle slot s) else .next s

/-- CHANGE_TIMER_EXPIRY (R132). -/
def execChangeTimerExpiry (arm : Arm) (s : State) : StepResult :=
  if s.due (s.rack.changes.get arm).timer then .next (conclude s (.changeFault arm) (expireChange arm s)) else .next s

end Sys2Proof.Machine
end

