-- ==== Sys2Proof/Machine/Registry.lean ====
section
/-! DEFINITION. The requests of the probe registry (Chapter 6). -/

namespace Sys2Proof.Machine

/-- PROBE_SET (R106). -/
def probeSet (r : Request) (s : State) : Act :=
  if r.d0.toNat < 1 ∨ 65535 < r.d0.toNat ∨ 10000 < r.d1.toNat then refuse .outOfRange s
  else okay { s with registry := { s.registry with useLimit := r.d0.toNat, driftLimit := r.d1.toNat } } r.d0 r.d1

/-- A record as PROBE_REGISTER makes it (R107). -/
def newProbe (id : Half) (slot : Fin 12) : Probe :=
  { id := id, home := slot, tips := [], qual := .unqualified, tcal := none, useCount := 0, reservation := none,
    location := .slot slot }

/-- PROBE_REGISTER (R107). -/
def probeRegister (r : Request) (s : State) : Act :=
  match indexOf 12 r.sel.toNat with
  | none => refuse .badSelector s
  | some i =>
    let id := r.d0.toNat
    if id < 1 ∨ 65535 < id then refuse .outOfRange s
    else if (probeById s id).isSome then refuse .inUse s
    else if (slotAt s i).state ≠ .unclaimed then refuse .state s
    else
      match freeEntry s with
      | none => refuse .full s
      | some e => okProbe e (enterSlot i .stored (some e) (s.setEntry e (some (newProbe (BitVec.ofNat 16 id) i))))

/-- A tip offset lies within ±10,000,000 counts (Table 6.1). -/
def tipInRange (t : Axes Int) : Bool :=
  decide (t.x.natAbs ≤ 10000000 ∧ t.y.natAbs ≤ 10000000 ∧ t.z.natAbs ≤ 10000000)

/-- A tip list with the tip at an index written: overwritten below the tip count, appended at it (R108). -/
def writeTip (tips : List (Axes Int)) (index : Nat) (t : Axes Int) : List (Axes Int) :=
  if index < tips.length then tips.set index t else tips ++ [t]

/-- The probe of an id that is registered and not engaged, with its entry (R108 to R110, the first two checks). -/
def freeToChange (s : State) (id : Nat) : Except ResultCode (Fin 14 × Probe) :=
  match probeById s id with
  | none => .error .noProbe
  | some e =>
    match entryAt s e with
    | none => .error .noProbe
    | some p => if engaged s p then .error .state else .ok (e, p)

/-- PROBE_TIP_WRITE (R108, R174). -/
def probeTipWrite (r : Request) (s : State) : Act :=
  if r.d2.extractLsb' 27 5 ≠ 0#5 then refuse .outOfRange s
  else
    match freeToChange s (tipWriteId r).toNat with
    | .error code => refuse code s
    | .ok (e, p) =>
      let index := r.sel.toNat
      if 4 < index ∨ p.tips.length < index then refuse .badSelector s
      else if ¬ tipInRange (tipOffsets r) then refuse .outOfRange s
      else okProbe e (s.setEntry e (some
        { p with tips := writeTip p.tips index (tipOffsets r), qual := .unqualified, tcal := none }))

/-- PROBE_TIP_CLEAR (R109). -/
def probeTipClear (r : Request) (s : State) : Act :=
  match freeToChange s r.d0.toNat with
  | .error code => refuse code s
  | .ok (e, p) => okProbe e (s.setEntry e (some { p with tips := [], qual := .unqualified, tcal := none }))

/-- PROBE_QUALIFY (R110). -/
def probeQualify (r : Request) (s : State) : Act :=
  match freeToChange s r.d0.toNat with
  | .error code => refuse code s
  | .ok (e, p) =>
    if p.tips.isEmpty then refuse .notReady s
    else
      match rackTemperature s with
      | none => refuse .noTemp s
      | some t => okProbe e (s.setEntry e (some { p with tcal := some t, useCount := 0, qual := .qualified }))

/-- PROBE_RESERVE (R112). -/
def probeReserve (r : Request) (s : State) : Act :=
  match armOfSel r.sel with
  | none => refuse .badSelector s
  | some arm =>
    match probeById s r.d0.toNat with
    | none => refuse .noProbe s
    | some e => okProbe e (s.modProbe e fun p => { p with reservation := some arm })

/-- PROBE_UNRESERVE (R112). -/
def probeUnreserve (r : Request) (s : State) : Act :=
  match probeById s r.d0.toNat with
  | none => refuse .noProbe s
  | some e => okProbe e (s.modProbe e fun p => { p with reservation := none })

/-- PROBE_REMOVE (R113). -/
def probeRemove (r : Request) (s : State) : Act :=
  match probeById s r.d0.toNat with
  | none => refuse .noProbe s
  | some e =>
    let removed := s.setEntry e none
    match (entryAt s e).map Probe.location with
    | some (.slot i) =>
      let st := (slotAt s i).state
      if st = .released ∨ st = .blocked then refuse .inUse s
      else okay (if st = .stored then enterSlot i .unclaimed none removed else removed) (at_ 0 e.val)
    | some (.head _) => refuse .inUse s
    | _ => okay removed (at_ 0 e.val)

/-! ### The read (R117, Table A.7) -/

/-- READ_PROBE part 0 of a free entry: the absent mark, with the fields that the spec leaves unstated free
(log entry 7). -/
def readFreeEntry (e : Fin 14) (s : State) : State × Reply :=
  ({ s with freeIndex := s.freeIndex + 2 },
   { code := .ok
     d0 := at_ 16 e.val ||| at_ 24 1 ||| (Config.unstatedWord s.freeIndex &&& 0x1E000000#32)
     d1 := Config.unstatedWord (s.freeIndex + 1)
     d2 := signedOrAbsent none })

/-- The words of a tip, zeros when there is none. -/
def tipWords : Option (Axes Int) → Reply
  | none => .zeros .ok
  | some t => { code := .ok, d0 := signedWord t.x, d1 := signedWord t.y, d2 := signedWord t.z }

/-- READ_PROBE (R117). -/
def readProbe (r : Request) (s : State) : State × Reply :=
  let part := r.d0.toNat
  match indexOf 14 r.sel.toNat with
  | some e =>
    if 5 < part then (s, .zeros .badSelector)
    else if part = 0 then
      match entryAt s e with
      | none => readFreeEntry e s
      | some p => (s, probeWords .ok e p)
    else (s, tipWords ((entryAt s e).bind fun p => p.tips[part - 1]?))
  | none =>
    if r.sel.toNat = 14 ∧ part = 0 then
      let occupied := marksOf fun e => (entryAt s e).isSome
      (s, { code := .ok
            d0 := setAt 0 occupied ||| at_ 16 ((List.finRange 14).filter fun e => (entryAt s e).isSome).length
            d1 := at_ 0 (numberOrAbsent (headProbe s .a)) ||| at_ 8 (numberOrAbsent (headProbe s .b))
            d2 := at_ 0 s.registry.useLimit ||| at_ 16 s.registry.driftLimit })
    else (s, .zeros .badSelector)

/-! ### Meanings -/

/-- PROBE_SET (R106). -/
def execProbeSet (r : Request) (s : State) : StepResult := .next (handleRequest .cellLink r.link (probeSet r) s)

/-- PROBE_REGISTER (R107). -/
def execProbeRegister (r : Request) (s : State) : StepResult :=
  .next (handleRequest .cellLink r.link (probeRegister r) s)

/-- PROBE_TIP_WRITE (R108). -/
def execProbeTipWrite (r : Request) (s : State) : StepResult :=
  .next (handleRequest .cellLink r.link (probeTipWrite r) s)

/-- PROBE_TIP_CLEAR (R109). -/
def execProbeTipClear (r : Request) (s : State) : StepResult :=
  .next (handleRequest .cellLink r.link (probeTipClear r) s)

/-- PROBE_QUALIFY (R110). -/
def execProbeQualify (r : Request) (s : State) : StepResult :=
  .next (handleRequest .cellLink r.link (probeQualify r) s)

/-- PROBE_RESERVE (R112). -/
def execProbeReserve (r : Request) (s : State) : StepResult :=
  .next (handleRequest .cellLink r.link (probeReserve r) s)

/-- PROBE_UNRESERVE (R112). -/
def execProbeUnreserve (r : Request) (s : State) : StepResult :=
  .next (handleRequest .cellLink r.link (probeUnreserve r) s)

/-- PROBE_REMOVE (R113). -/
def execProbeRemove (r : Request) (s : State) : StepResult := .next (handleRequest .cellLink r.link (probeRemove r) s)

/-- READ_PROBE (R117). -/
def execReadProbe (r : Request) (s : State) : StepResult := .next (handleRead .allLinks r.link (readProbe r) s)

end Sys2Proof.Machine
end

