-- ==== Sys2Proof/Machine/Temperature.lean ====
section
/-! DEFINITION. The temperature unit (Chapter 1): settings, the sequencer, the judgement of a sample, and the reads. -/

namespace Sys2Proof.Machine

/-! ### Settings of a sensor and the list -/

/-- A sensor record as SENSOR_SET leaves it (R4). -/
def freshSensor (role : Role) (c0 k : Half) (n : BitVec 3) : Sensor :=
  { Sensor.reset with role := role, c0 := c0, k := k, n := n, state := if role = .unused then .off else .waiting }

/-- Another sensor than `i` has role RACK (Table 1.3, check 4). -/
def otherRack (s : State) (i : Fin 16) : Bool :=
  (List.finRange 16).any fun j => decide (j ≠ i ∧ (vget s.temp.sensors j).role = .rack)

/-- SENSOR_SET (R3, R4, R174). -/
def sensorSet (r : Request) (s : State) : Act :=
  match indexOf 16 r.sel.toNat with
  | none => refuse .badSelector s
  | some i =>
    if s.temp.seq.state ≠ .stopped then refuse .busy s
    else
      match roleOfCode (byteOf r.d0 0) with
      | none => refuse .outOfRange s
      | some role =>
        let n := byteOf r.d0 1
        let c0 := r.d1.toNat
        let k := r.d2.toNat
        if 65535 < c0 ∨ k < 1 ∨ 65535 < k ∨ 7 < n then refuse .outOfRange s
        else if role = .rack ∧ otherRack s i then refuse .outOfRange s
        else if activeNames s i ∧ role ≠ .scale then refuse .inUse s
        else
          let before := (vget s.temp.sensors i).state
          let s1 := s.setSensor i (freshSensor role (BitVec.ofNat 16 c0) (BitVec.ofNat 16 k) (BitVec.ofNat 3 n))
          okay (if before = .failed ∨ before = .lockedOut then raiseSensor i s1 else s1)

/-- SEQ_LIST_SET (R5). -/
def seqListSet (r : Request) (s : State) : Act :=
  let q := s.temp.seq
  if q.state ≠ .stopped then refuse .busy s
  else
    let p := r.sel.toNat
    match sensorNumbers (givenEntries r) with
    | none => refuse .outOfRange s
    | some given =>
      if q.list.length < p ∨ 24 < p + given.length ∨ p + given.length = 0 then refuse .outOfRange s
      else okay (s.setSeq { q with list := q.list.take p ++ given })

/-- TEMP_SET (R22). -/
def tempSet (r : Request) (s : State) : Act :=
  if 600 < r.d0.toNat ∨ 10000 < r.d1.toNat ∨ r.d2.toNat < 1 ∨ 8 < r.d2.toNat then refuse .outOfRange s
  else okay { s with temp := { s.temp with hold := r.d0.toNat, spreadLimit := r.d1.toNat, deglitch := r.d2.toNat } }

/-! ### The sequencer (section 1.4) -/

/-- The sensor has a role other than UNUSED. -/
def convertible (s : State) (i : Fin 16) : Bool := decide ((vget s.temp.sensors i).role ≠ .unused)

/-- The first entry at or after a position whose sensor is not UNUSED, with its sensor (R8). -/
def nextEntry (s : State) (list : List (Fin 16)) (from_ : Nat) : Option (Nat × Fin 16) :=
  ((list.drop from_).zipIdx from_).findSome? fun e => if convertible s e.1 then some (e.2, e.1) else none

/-- A conversion started now (R6). -/
def State.conversion (s : State) (i : Fin 16) (kind : ConvKind) : Conversion :=
  { sensor := i, kind := kind, start := s.cellTime }

/-- A round starts: the expired mark is cleared, the round timer started unless the period is 0, and the first
convertible entry at or after the position is converted (R8). -/
def startRound (s : State) (q : Sequencer) : Sequencer :=
  let q1 := { q with expired := false, roundTimer := if q.period = 0 then none else some (s.timer q.period) }
  match nextEntry s q.list q.position with
  | none => q1
  | some (pos, i) => { q1 with position := pos, inFlight := some (s.conversion i .list), inRound := true }

/-- The sequencer as it stands STOPPED (R9, R10). -/
def stopSequencer (q : Sequencer) : Sequencer :=
  { q with state := .stopped, position := 0, roundTimer := none, expired := false, inRound := false }

/-- The pending single conversion starts (R12). -/
def startPending (s : State) (q : Sequencer) (i : Fin 16) : Sequencer :=
  { q with pendingSingle := none, inFlight := some (s.conversion i .single) }

/-- What follows when, in RUNNING, no round is in progress and no conversion is in flight: the next round starts at once
if the expired mark is set or the period is 0, else the sequencer stays between rounds (R9, R12). -/
def betweenRounds (s : State) (q : Sequencer) : Sequencer :=
  if q.expired ∨ q.period = 0 then startRound s q else q

/-- The sequencer after a list conversion has completed: the position passes the converted entry; the round goes on at
the next convertible entry or ends, its position returning to 0 (R8). -/
def passEntry (s : State) (q : Sequencer) : Sequencer :=
  match nextEntry s q.list (q.position + 1) with
  | some (pos, _) => { q with position := pos }
  | none => { q with position := 0, inRound := false }

/-- The list goes on in RUNNING, no single conversion being pending (R8, R12). -/
def resumeList (s : State) (q : Sequencer) : Sequencer :=
  if q.inRound then
    match nextEntry s q.list q.position with
    | some (pos, i) => { q with position := pos, inFlight := some (s.conversion i .list) }
    | none => betweenRounds s { q with position := 0, inRound := false }
  else betweenRounds s q

/-- The sequencer after the completion of the conversion `c` (R8, R9, R10, R12). -/
def afterCompletion (s : State) (q : Sequencer) (c : Conversion) : Sequencer :=
  let q1 := { q with inFlight := none }
  let q2 := if c.kind = .list then passEntry s q1 else q1
  match q2.pendingSingle with
  | some i => startPending s q2 i
  | none =>
    match q2.state with
    | .running => resumeList s q2
    | .stopping => stopSequencer q2
    | .single => { q2 with state := .stopped }
    | .stopped => q2

/-- SEQ_START (R7). -/
def seqStart (r : Request) (s : State) : Act :=
  let q := s.temp.seq
  let period := r.d0.toNat
  match q.state with
  | .running => refuse .state s
  | .stopping => refuse .busy s
  | .single => refuse .busy s
  | .stopped =>
    if period ≠ 0 ∧ (period < 100 ∨ 10000 < period) then refuse .outOfRange s
    else if ¬ q.list.any (convertible s) then refuse .notReady s
    else okay (s.setSeq (startRound s { q with state := .running, period := period, position := 0 }))

/-- SEQ_STOP (R10). -/
def seqStop (s : State) : Act :=
  let q := s.temp.seq
  match q.state with
  | .running =>
    if q.inFlight.isNone then okay (s.setSeq (stopSequencer q))
    else okay (s.setSeq { q with state := .stopping, roundTimer := none, expired := false })
  | _ => okay s

/-- CONVERT_ONE (R11, Table 1.5). -/
def convertOne (r : Request) (s : State) : Act :=
  match indexOf 16 r.sel.toNat with
  | none => refuse .badSelector s
  | some i =>
    if ¬ convertible s i then refuse .state s
    else
      let q := s.temp.seq
      let started := { q with inFlight := some (s.conversion i .single) }
      match q.state with
      | .stopped => okay (s.setSeq { started with state := .single }) 0
      | .running =>
        if q.inFlight.isNone then okay (s.setSeq started) 0
        else if q.pendingSingle.isNone then okay (s.setSeq { q with pendingSingle := some i }) 1
        else refuse .busy s
      | .stopping => refuse .busy s
      | .single => refuse .busy s

/-! ### Classification and judgement (sections 1.5 and 1.6) -/

/-- The lowest and highest filtered temperature, mK. -/
def minTemp : Int := -20000
def maxTemp : Int := 60000

/-- The class of a converter code, with the computed T of a GOOD sample (Table 1.6). -/
def classify (c0 k code : Half) : SampleClass × Int :=
  let t := roundDiv (((code.toNat : Int) - c0.toNat) * k.toNat) 256
  if 65000 ≤ code.toNat then (.openLead, 0)
  else if code.toNat ≤ 500 then (.short, 0)
  else if t < minTemp then (.range, minTemp)
  else if maxTemp < t then (.range, maxTemp)
  else (.good, t)

/-- One step of the filter (R15). -/
def filterStep (x : Sensor) (t : Int) : Int := x.tf + roundDiv (t - x.tf) (2 ^ x.n.toNat)

/-- The entries still within the last 64 conversions, after those of age 64 or more have left the front (R14). -/
def agedHistory (ordinal : Word) (history : List Word) : List Word :=
  history.dropWhile fun e => 64 ≤ (ordinal - e).toNat

/-- The sensor enters FAILED, and goes on to LOCKED_OUT when the history then holds 6 entries (R16). -/
def enterFailed (x : Sensor) : Sensor :=
  let history := x.history ++ [x.ordinal]
  { x with history := history, nonGoodRun := 0, goodRun := 0,
           state := if 6 ≤ history.length then .lockedOut else .failed }

/-- A non-GOOD sample of a sensor in WAITING or SUSPECT (R15): the run counts up, and the sensor enters FAILED at D. -/
def countNonGood (d run : Nat) (x : Sensor) : Sensor :=
  if d ≤ run then enterFailed { x with nonGoodRun := run } else { x with nonGoodRun := run }

/-- The sensor's record with the conversion counted, the aged entries gone and the code and class recorded (R13, R14). -/
def recordSample (code : Half) (x : Sensor) : Sensor :=
  let ordinal := x.ordinal + 1
  { x with ordinal := ordinal, history := agedHistory ordinal x.history, lastCode := code,
           lastClass := (classify x.c0 x.k code).1 }

/-- The judgement of a recorded sample (Table 1.7, R15 to R18), with D and the cell time of the completion. -/
def judgeSample (d : Nat) (now : Word) (good : Bool) (t : Int) (x : Sensor) : Sensor :=
  match x.state with
  | .off => x
  | .waiting =>
    if good then { x with tf := t, nonGoodRun := 0, state := .valid } else countNonGood d (x.nonGoodRun + 1) x
  | .valid =>
    if good then { x with tf := filterStep x t }
    else countNonGood d 1 { x with state := .suspect, leftValid := some now }
  | .suspect =>
    if good then { x with state := .valid, nonGoodRun := 0, leftValid := none, tf := filterStep x t }
    else countNonGood d (x.nonGoodRun + 1) x
  | .failed =>
    if good then
      if d ≤ x.goodRun + 1 then
        { x with tf := t, goodRun := 0, nonGoodRun := 0, leftValid := none, state := .valid }
      else { x with goodRun := x.goodRun + 1 }
    else { x with goodRun := 0 }
  | .lockedOut => x

/-- A completion whole: the record after it, from the converter code (R13 to R18). -/
def completeSample (d : Nat) (now : Word) (code : Half) (x : Sensor) : Sensor :=
  let (cls, t) := classify x.c0 x.k code
  judgeSample d now (decide (cls = .good)) t (recordSample code x)

/-- A completion moves the sensor into FAILED or LOCKED_OUT, or out of FAILED to VALID (R20). -/
def reportsChange (before after : SensorState) : Bool :=
  decide (before ≠ after ∧ (after = .failed ∨ after = .lockedOut ∨ before = .failed))

/-- A conversion is in flight and 4 ms have passed since its start (R6). -/
def conversionDue (s : State) : Bool :=
  match s.temp.seq.inFlight with
  | none => false
  | some c => s.reached c.start conversionMs

/-- The completion of the conversion in flight with a converter code (R6, R12, R20). -/
def completeConversion (code : Half) (c : Conversion) (s : State) : State :=
  let before := vget s.temp.sensors c.sensor
  let after := completeSample s.temp.deglitch s.cellTime code before
  let s1 := s.setSensor c.sensor after
  let s2 := if c.kind = .single ∨ reportsChange before.state after.state then raiseSensor c.sensor s1 else s1
  s2.setSeq (afterCompletion s2 s2.temp.seq c)

/-- SENSOR_UNLOCK (R18). -/
def sensorUnlock (r : Request) (s : State) : Act :=
  match indexOf 16 r.sel.toNat with
  | none => refuse .badSelector s
  | some i =>
    let x := vget s.temp.sensors i
    if x.state ≠ .lockedOut then refuse .state s
    else
      okay (raiseSensor i (s.setSensor i
        { x with state := .waiting, history := [], nonGoodRun := 0, goodRun := 0, leftValid := none }))

/-- The left-valid time of a sensor has stood for 600,000 ms (R19). -/
def leftValidDue (s : State) (i : Fin 16) : Bool :=
  match (vget s.temp.sensors i).leftValid with
  | none => false
  | some t => s.reached t leftValidMs

/-- The expiry of the round timer (R9): it starts the next round when the sequencer waits between rounds, and sets the
expired mark while a conversion is in flight or pending. -/
def expireRound (s : State) : State :=
  let q := { s.temp.seq with roundTimer := none }
  if q.inFlight.isSome ∨ q.pendingSingle.isSome then s.setSeq { q with expired := true }
  else s.setSeq (startRound s q)

/-! ### Reads (R23, Table A.7) -/

/-- The age of history entry `n` of a sensor: the current ordinal minus the entry; 0 beyond the history. -/
def historyAge (x : Sensor) (n : Nat) : Nat :=
  match x.history[n]? with
  | none => 0
  | some e => (x.ordinal - e).toNat

/-- READ_TEMP (R23). -/
def readTempWords (r : Request) (s : State) : Reply :=
  match indexOf 16 r.sel.toNat with
  | none => .zeros .badSelector
  | some i =>
    let x := vget s.temp.sensors i
    match r.d0.toNat with
    | 0 => { code := .ok
             d0 := at_ 0 x.lastCode.toNat ||| at_ 16 x.state.num ||| at_ 24 x.role.num ||| at_ 28 x.lastClass.num
             d1 := signedWord x.tf
             d2 := x.ordinal }
    | 1 => { code := .ok
             d0 := at_ 0 x.c0.toNat ||| at_ 16 x.k.toNat
             d1 := at_ 0 x.n.toNat ||| at_ 8 x.nonGoodRun ||| at_ 16 x.goodRun ||| at_ 24 (flag x.leftValid.isSome)
             d2 := x.leftValid.getD 0 }
    | 2 => { code := .ok
             d0 := at_ 0 x.history.length ||| at_ 8 (historyAge x 0) ||| at_ 16 (historyAge x 1) |||
                   at_ 24 (historyAge x 2)
             d1 := at_ 0 (historyAge x 3) ||| at_ 8 (historyAge x 4) ||| at_ 16 (historyAge x 5)
             d2 := 0 }
    | _ => .zeros .badSelector

/-- The list entry at a position, 255 at or beyond the list length (Table 1.9). -/
def listByte (q : Sequencer) (pos : Nat) : Nat := (q.list[pos]?).elim 255 fun i => i.val

/-- Four list entries from a position, one to a byte. -/
def listWord (q : Sequencer) (pos : Nat) : Word :=
  at_ 0 (listByte q pos) ||| at_ 8 (listByte q (pos + 1)) ||| at_ 16 (listByte q (pos + 2)) |||
    at_ 24 (listByte q (pos + 3))

/-- READ_GROUPS (R23). -/
def readGroupsWords (r : Request) (s : State) : Reply :=
  let q := s.temp.seq
  match r.sel.toNat with
  | 0 => { code := .ok, d0 := signedOrAbsent (workpieceMean s), d1 := signedOrAbsent (workpieceSpread s)
           d2 := at_ 0 (workpieceCount s) }
  | 1 => { code := .ok, d0 := signedOrAbsent (airMean s), d1 := signedOrAbsent (rackReading s).1
           d2 := at_ 0 (rackReading s).2.num }
  | 2 => { code := .ok
           d0 := at_ 0 q.state.num ||| at_ 8 q.list.length ||| at_ 16 q.position
           d1 := at_ 0 (numberOrAbsent (q.inFlight.map fun c => c.sensor)) |||
                 at_ 8 (q.inFlight.elim 0 fun c => c.kind.num) ||| at_ 16 (numberOrAbsent q.pendingSingle)
           d2 := at_ 0 q.period }
  | 3 => { code := .ok, d0 := at_ 0 s.temp.hold, d1 := at_ 0 s.temp.spreadLimit, d2 := at_ 0 s.temp.deglitch }
  | 4 => { code := .ok, d0 := listWord q 0, d1 := listWord q 4, d2 := listWord q 8 }
  | 5 => { code := .ok, d0 := listWord q 12, d1 := listWord q 16, d2 := listWord q 20 }
  | _ => .zeros .badSelector

/-! ### Meanings -/

/-- SENSOR_SET (R3, R4). -/
def execSensorSet (r : Request) (s : State) : StepResult := .next (handleRequest .cellLink r.link (sensorSet r) s)

/-- SEQ_LIST_SET (R5). -/
def execSeqListSet (r : Request) (s : State) : StepResult := .next (handleRequest .cellLink r.link (seqListSet r) s)

/-- SEQ_START (R7). -/
def execSeqStart (r : Request) (s : State) : StepResult := .next (handleRequest .cellLink r.link (seqStart r) s)

/-- SEQ_STOP (R10). -/
def execSeqStop (r : Request) (s : State) : StepResult := .next (handleRequest .cellLink r.link seqStop s)

/-- CONVERT_ONE (R11). -/
def execConvertOne (r : Request) (s : State) : StepResult := .next (handleRequest .cellLink r.link (convertOne r) s)

/-- SENSOR_UNLOCK (R18). -/
def execSensorUnlock (r : Request) (s : State) : StepResult := .next (handleRequest .cellLink r.link (sensorUnlock r) s)

/-- TEMP_SET (R22). -/
def execTempSet (r : Request) (s : State) : StepResult := .next (handleRequest .cellLink r.link (tempSet r) s)

/-- READ_TEMP (R23). -/
def execReadTemp (r : Request) (s : State) : StepResult :=
  .next (handleRead .allLinks r.link (fun s1 => (s1, readTempWords r s1)) s)

/-- READ_GROUPS (R23). -/
def execReadGroups (r : Request) (s : State) : StepResult :=
  .next (handleRead .allLinks r.link (fun s1 => (s1, readGroupsWords r s1)) s)

/-- CONVERSION_COMPLETION (R6, R12 to R20). Without a conversion 4 ms in flight no completion occurs (log entry 5). -/
def execConversionCompletion (code : Half) (s : State) : StepResult :=
  match s.temp.seq.inFlight with
  | none => .next s
  | some c => if conversionDue s then .next (completeConversion code c s) else .next s

/-- ROUND_TIMER_EXPIRY (R9). A timer that has not run out does not expire (log entry 5). -/
def execRoundTimerExpiry (s : State) : StepResult :=
  if s.due s.temp.seq.roundTimer then .next (expireRound s) else .next s

/-- LEFT_VALID_TIME_EXPIRY (R19). -/
def execLeftValidTimeExpiry (sensor : Fin 16) (s : State) : StepResult :=
  if leftValidDue s sensor then .next (s.setSensor sensor { vget s.temp.sensors sensor with leftValid := none })
  else .next s

end Sys2Proof.Machine
end

