-- ==== Sys2Proof/Machine/Touch.lean ====
section
/-! DEFINITION. The touch queues (Chapter 8). -/

namespace Sys2Proof.Machine

/-- A touch queue holds at most 32 records (R138). -/
def queueCapacity : Nat := 32

/-- The tip centre of one axis: the corrected value plus the tip offset, saturated (R140). -/
def tipAxis (c : Corrected) (offset : Int) : Int × Bool :=
  let sum := c.value + offset
  (clampCount sum, c.sat || decide (clampCount sum ≠ sum))

/-- UNSOAKED (Table 8.3). -/
def unsoaked (s : State) : Bool :=
  decide (workpieceCount s < 2) || (workpieceSpread s).any fun d => decide ((s.temp.spreadLimit : Int) < d)

/-- The record of a touch taken now with a tip of the mounted probe (R140, R141, R142). -/
def touchRecord (arm : Arm) (p : Probe) (tip : Nat) (offset : Axes Int) (raw : Axes Int) (s : State) : TouchRecord :=
  let c := compensate s arm raw
  let x := tipAxis c.x offset.x
  let y := tipAxis c.y offset.y
  let z := tipAxis c.z offset.z
  let q := s.touch.queues.get arm
  { sequence := q.counter + 1, probeId := p.id, tip := tip, centre := { x := x.1, y := y.1, z := z.1 }
    worst := worstOf c.qualities, time := s.cellTime, due := decide (p.qual ≠ .qualified), drift := drifts s p
    blank := q.blankTimer.isSome, unsoaked := unsoaked s, sat := x.2 || y.2 || z.2 }

/-- TOUCH attention when the arm's queue has reached the fill level (R143). -/
def reportFill (arm : Arm) (s : State) : State :=
  if s.touch.fillLevel ≤ (s.touch.queues.get arm).records.length then raiseTouch arm s else s

/-- TOUCH of an arm (R139, R142). -/
def touchBy (arm : Arm) (r : Request) (s : State) : Act :=
  let q := s.touch.queues.get arm
  if (s.sup.get arm).state ≠ .running then refuse .state s
  else if changeOpen s arm then refuse .state s
  else
    match headProbe s arm with
    | none => refuse .noProbe s
    | some e =>
      match entryAt s e with
      | none => refuse .noProbe s
      | some p =>
        match p.tips[r.sel.toNat]? with
        | none => refuse .badSelector s
        | some offset =>
          if queueCapacity ≤ q.records.length then refuse .queueFull s
          else
            let t := touchRecord arm p r.sel.toNat offset (rawWords r) s
            let s1 := s.setQueue arm { q with records := q.records ++ [t], counter := q.counter + 1 }
            okay (reportFill arm (countUse e s1)) (signedWord t.centre.x) (signedWord t.centre.y)
              (signedWord t.centre.z)

/-- TOUCH_SET (R145). -/
def touchSet (r : Request) (s : State) : Act :=
  if 2000 < r.d0.toNat ∨ r.d1.toNat < 1 ∨ 32 < r.d1.toNat then refuse .outOfRange s
  else okay { s with touch := { s.touch with blankTime := r.d0.toNat, fillLevel := r.d1.toNat } } r.d0 r.d1

/-- The flags of a touch record in part 0 of TOUCH_HEAD: DUE, DRIFT, BLANK, UNSOAKED, SAT from bit 24 on. -/
def touchFlags (t : TouchRecord) : Word :=
  at_ 24 (flag t.due) ||| at_ 25 (flag t.drift) ||| at_ 26 (flag t.blank) ||| at_ 27 (flag t.unsoaked) |||
    at_ 28 (flag t.sat)

/-- TOUCH_HEAD (R146, Table A.7). -/
def touchHeadWords (r : Request) (s : State) : Reply :=
  match armOfSel r.sel with
  | none => .zeros .badSelector
  | some arm =>
    let q := s.touch.queues.get arm
    match r.d0.toNat with
    | 0 =>
      match q.records with
      | [] => .zeros .empty
      | t :: _ =>
        { code := .ok, d0 := t.sequence
          d1 := at_ 0 t.probeId.toNat ||| at_ 16 t.tip ||| at_ 19 t.worst.rank ||| touchFlags t
          d2 := t.time }
    | 1 =>
      match q.records with
      | [] => .zeros .empty
      | t :: _ => { code := .ok, d0 := signedWord t.centre.x, d1 := signedWord t.centre.y, d2 := signedWord t.centre.z }
    | 2 =>
      { code := .ok, d0 := at_ 0 q.records.length, d1 := q.counter, d2 := at_ 0 (s.timeLeft q.blankTimer) }
    | _ => .zeros .badSelector

/-- TOUCH_DROP (R147). -/
def touchDrop (r : Request) (s : State) : Act :=
  match armOfSel r.sel with
  | none => refuse .badSelector s
  | some arm =>
    let q := s.touch.queues.get arm
    match q.records with
    | [] => refuse .empty s
    | t :: rest =>
      if t.sequence ≠ r.d0 then refuse .stale s
      else okay (s.setQueue arm { q with records := rest }) (at_ 0 rest.length)
        ((rest.head?.map TouchRecord.sequence).getD 0)

/-! ### Meanings -/

/-- TOUCH (R139, R142). -/
def execTouch (r : Request) (s : State) : StepResult :=
  .next (handleRequest .armLinks r.link (forLinkArm r.link fun arm => touchBy arm r) s)

/-- TOUCH_SET (R145). -/
def execTouchSet (r : Request) (s : State) : StepResult := .next (handleRequest .cellLink r.link (touchSet r) s)

/-- TOUCH_HEAD (R146). -/
def execTouchHead (r : Request) (s : State) : StepResult :=
  .next (handleRead .cellLink r.link (fun s1 => (s1, touchHeadWords r s1)) s)

/-- TOUCH_DROP (R147). -/
def execTouchDrop (r : Request) (s : State) : StepResult := .next (handleRequest .cellLink r.link (touchDrop r) s)

/-- BLANK_TIMER_EXPIRY (R144). A timer that has not run out does not expire (log entry 5). -/
def execBlankTimerExpiry (arm : Arm) (s : State) : StepResult :=
  let q := s.touch.queues.get arm
  if s.due q.blankTimer then .next (s.setQueue arm { q with blankTimer := none }) else .next s

end Sys2Proof.Machine
end

