-- ==== Sys2Proof/Machine/Dispatch.lean ====
section
/-! DEFINITION. exec: one arm for each command, each a direct call of its meaning. -/

namespace Sys2Proof.Machine

def exec (i : Instr) (s : State) : Host.Outcome State Fault Refusal :=
  match i with
  | .resetInputAsserted => Sys2Proof.Machine.execResetInputAsserted s
  | .resetInputDeasserted => Sys2Proof.Machine.execResetInputDeasserted s
  | .frameBegin link => Sys2Proof.Machine.execFrameBegin link s
  | .frameDiscard link => Sys2Proof.Machine.execFrameDiscard link s
  | .unknownRequest code r => Sys2Proof.Machine.execUnknownRequest code r s
  | .nop r => Sys2Proof.Machine.execNop r s
  | .readTime r => Sys2Proof.Machine.execReadTime r s
  | .readTemp r => Sys2Proof.Machine.execReadTemp r s
  | .readGroups r => Sys2Proof.Machine.execReadGroups r s
  | .readModel r => Sys2Proof.Machine.execReadModel r s
  | .readZone r => Sys2Proof.Machine.execReadZone r s
  | .readArm r => Sys2Proof.Machine.execReadArm r s
  | .readProbe r => Sys2Proof.Machine.execReadProbe r s
  | .readSlot r => Sys2Proof.Machine.execReadSlot r s
  | .readChange r => Sys2Proof.Machine.execReadChange r s
  | .attnTake r => Sys2Proof.Machine.execAttnTake r s
  | .attnDone r => Sys2Proof.Machine.execAttnDone r s
  | .attnEnable r => Sys2Proof.Machine.execAttnEnable r s
  | .armEnable r => Sys2Proof.Machine.execArmEnable r s
  | .armDisable r => Sys2Proof.Machine.execArmDisable r s
  | .armReset r => Sys2Proof.Machine.execArmReset r s
  | .position r => Sys2Proof.Machine.execPosition r s
  | .touch r => Sys2Proof.Machine.execTouch r s
  | .claim r => Sys2Proof.Machine.execClaim r s
  | .claimWithdraw r => Sys2Proof.Machine.execClaimWithdraw r s
  | .release r => Sys2Proof.Machine.execRelease r s
  | .changeOpen r => Sys2Proof.Machine.execChangeOpen r s
  | .changeClose r => Sys2Proof.Machine.execChangeClose r s
  | .changeAbort r => Sys2Proof.Machine.execChangeAbort r s
  | .sensorSet r => Sys2Proof.Machine.execSensorSet r s
  | .seqListSet r => Sys2Proof.Machine.execSeqListSet r s
  | .seqStart r => Sys2Proof.Machine.execSeqStart r s
  | .seqStop r => Sys2Proof.Machine.execSeqStop r s
  | .convertOne r => Sys2Proof.Machine.execConvertOne r s
  | .sensorUnlock r => Sys2Proof.Machine.execSensorUnlock r s
  | .tempSet r => Sys2Proof.Machine.execTempSet r s
  | .modelLoad r => Sys2Proof.Machine.execModelLoad r s
  | .modelRevert r => Sys2Proof.Machine.execModelRevert r s
  | .modelCheck r => Sys2Proof.Machine.execModelCheck r s
  | .zoneDefine r => Sys2Proof.Machine.execZoneDefine r s
  | .zoneFree r => Sys2Proof.Machine.execZoneFree r s
  | .armSet r => Sys2Proof.Machine.execArmSet r s
  | .faultClear r => Sys2Proof.Machine.execFaultClear r s
  | .probeSet r => Sys2Proof.Machine.execProbeSet r s
  | .probeRegister r => Sys2Proof.Machine.execProbeRegister r s
  | .probeTipWrite r => Sys2Proof.Machine.execProbeTipWrite r s
  | .probeTipClear r => Sys2Proof.Machine.execProbeTipClear r s
  | .probeQualify r => Sys2Proof.Machine.execProbeQualify r s
  | .probeReserve r => Sys2Proof.Machine.execProbeReserve r s
  | .probeUnreserve r => Sys2Proof.Machine.execProbeUnreserve r s
  | .probeRemove r => Sys2Proof.Machine.execProbeRemove r s
  | .rackSet r => Sys2Proof.Machine.execRackSet r s
  | .slotService r => Sys2Proof.Machine.execSlotService r s
  | .touchSet r => Sys2Proof.Machine.execTouchSet r s
  | .touchHead r => Sys2Proof.Machine.execTouchHead r s
  | .touchDrop r => Sys2Proof.Machine.execTouchDrop r s
  | .alarmSet r => Sys2Proof.Machine.execAlarmSet r s
  | .conversionCompletion code => Sys2Proof.Machine.execConversionCompletion code s
  | .roundTimerExpiry => Sys2Proof.Machine.execRoundTimerExpiry s
  | .leftValidTimeExpiry sensor => Sys2Proof.Machine.execLeftValidTimeExpiry sensor s
  | .modelCheckCompletion => Sys2Proof.Machine.execModelCheckCompletion s
  | .reportTimerExpiry arm => Sys2Proof.Machine.execReportTimerExpiry arm s
  | .permitSenseChange arm level => Sys2Proof.Machine.execPermitSenseChange arm level s
  | .settleWindowExpiry arm => Sys2Proof.Machine.execSettleWindowExpiry arm s
  | .presenceRawChange slot level => Sys2Proof.Machine.execPresenceRawChange slot level s
  | .presenceSettleExpiry slot => Sys2Proof.Machine.execPresenceSettleExpiry slot s
  | .changeTimerExpiry arm => Sys2Proof.Machine.execChangeTimerExpiry arm s
  | .blankTimerExpiry arm => Sys2Proof.Machine.execBlankTimerExpiry arm s
  | .passedOverFrameEnd link => Sys2Proof.Machine.execPassedOverFrameEnd link s

end Sys2Proof.Machine
end

