-- ==== Sys2Proof/Machine/Timebase.lean ====
section
/-! DEFINITION. Cell time (R172): what the block does by itself when no command waits. -/

namespace Sys2Proof.Machine

/-- A command, if its condition holds. -/
def onlyIf (cond : Bool) (i : Instr) : List Instr := if cond then [i] else []

/-- The events of one arm's timers that are due now. -/
def dueOfArm (s : State) (arm : Arm) : List Instr :=
  onlyIf (s.due (s.sup.get arm).reportTimer) (.reportTimerExpiry arm) ++
    onlyIf (s.due (s.sup.get arm).window) (.settleWindowExpiry arm) ++
    onlyIf (s.due (s.rack.changes.get arm).timer) (.changeTimerExpiry arm) ++
    onlyIf (s.due (s.touch.queues.get arm).blankTimer) (.blankTimerExpiry arm)

/-- The completions and expiries that are due now (R172). The converter code of a conversion that completes is a free
value (log entry 4). -/
def dueEvents (s : State) : List Instr :=
  onlyIf (conversionDue s) (.conversionCompletion (Config.converterCode s.freeIndex)) ++
    onlyIf (s.due s.temp.seq.roundTimer) .roundTimerExpiry ++
    (List.finRange 16).flatMap (fun i => onlyIf (leftValidDue s i) (.leftValidTimeExpiry i)) ++
    onlyIf (modelCheckDue s) .modelCheckCompletion ++
    dueOfArm s .a ++ dueOfArm s .b ++
    (List.finRange 12).flatMap (fun i => onlyIf (s.due (slotAt s i).settleTimer) (.presenceSettleExpiry i))

/-- The event that is taken next of those due: the only one, or a free choice among several (log entry 3). -/
def chosenEvent (s : State) : List Instr → Option Instr
  | [] => none
  | [e] => some e
  | e :: es => some ((e :: es).getD (Config.eventChoice s.freeIndex % (es.length + 1)) e)

/-- The event that the block takes by itself, if one is due. -/
def nextEvent (s : State) : Option Instr := chosenEvent s (dueEvents s)

/-- One millisecond passes (R172), and no ARM_DISABLE has been taken at the new cell time yet (R92, log entry 22); cell
time stays at 0 while the part is held in reset (R171). -/
def tick (s : State) : State :=
  if s.resetHeld then s else { s with cellTime := s.cellTime + 1, disabledBy := ⟨none, none⟩ }

/-- A free value has been used. -/
def useFree (s : State) : State := { s with freeIndex := s.freeIndex + 1 }

end Sys2Proof.Machine
end

