-- ==== Sys2Proof/Machine/Step.lean ====
section
/-! DEFINITION. One step of the coordinator: the command at the front of the queue, or, on an empty queue, an event that
is due, or the passing of one millisecond (log entry 2). -/

namespace Sys2Proof.Machine

/-- Takes the command at the front of the queue and runs it with the queue's rest. On an empty queue the block goes on
by itself: an event that is due is taken, and when none is due one millisecond of cell time passes. -/
def step (s : State) : Host.Outcome State Fault Refusal :=
  match s.pending with
  | c :: rest => exec c { s with pending := rest }
  | [] =>
    match nextEvent s with
    | some e => exec e (useFree s)
    | none => .next (tick s)

/-- The state with the command that a word spells put at the front of its queue; the table gives no row any bits, so no
word spells one. -/
def State.withFetchWord (s : State) (nbits w : Nat) : State :=
  match decodeTableWord nbits w with
  | some c => { s with pending := c :: s.pending }
  | none => s

end Sys2Proof.Machine
end

