-- ==== Sys2Proof/Safety.lean ====
section
/-! DEFINITION. What counts as a sound state of the coordinator, block by block, and the terms in which the statements
speak of an answered frame and of what a command leaves unchanged. -/

namespace Sys2Proof.Machine

/-! ### An answered frame -/

/-- The port of a link after an accepted frame (R162): select is deasserted, the answer stands in the reply buffer, the
run count is 0 and the RESET bit clear. -/
def answeredPort (reply : Reply) : Port := { phase := .idle, reply := reply, runCount := 0, resetBit := false }

/-- The state with the port of a link as an accepted frame with this answer leaves it. -/
def answered (l : Link) (reply : Reply) (s : State) : State := { s with ports := s.ports.set l (answeredPort reply) }

/-- What an accepted frame does by itself to the supervisor of its arm (R87, R97, R162): LINK ends, a report timer is
restarted, and the arm is judged. On the Cell link it does nothing to any supervisor. -/
def frameEnded (l : Link) (s : State) : State := conclude s .plain (acceptFrame l s)

/-- The frame of a request ends on the Cell link, and the port takes it. -/
def onCell (r : Request) (s : State) : Prop := r.link = .cell ∧ takesFrame .cell s = true

/-- The frame of a request ends on the link of an arm, and the port takes it. -/
def onArm (arm : Arm) (r : Request) (s : State) : Prop := r.link = linkOf arm ∧ takesFrame (linkOf arm) s = true

/-- The state after a refusal of a request on the Cell link: three zero words, and nothing else but the port (R164). -/
def refusedOnCell (code : ResultCode) (s : State) : State := answered .cell (Reply.zeros code) s

/-- An answer word from its fields (R173): each a bit place and the number that stands there; every other bit is 0. -/
def packed (fields : List (Nat × Nat)) : Word := BitVec.ofNat 32 ((fields.map fun f => f.2 * 2 ^ f.1).sum)

/-- The set of the members that satisfy a property as a number: member i at bit i (R173). -/
def setNum {n : Nat} (p : Fin n → Bool) : Nat := ((List.finRange n).map fun i => if p i then 2 ^ i.val else 0).sum

/-- The causes of a set as cause marks, GUARD at bit 0 to CHANGE_FAULT at bit 5 (Table A.6). -/
def causeNum (p : PerCause Bool) : Nat :=
  flag p.guard + 2 * flag p.overdue + 4 * flag p.compLost + 8 * flag p.link + 16 * flag p.permitMismatch +
    32 * flag p.changeFault

/-- Every run count fits the byte that READ_TIME gives it (R163). -/
def PortsSound (s : State) : Prop := ∀ l : Link, (s.ports.get l).runCount ≤ 255

/-- On an arm link the request is answered NOT_PERMITTED and does no more than every accepted frame (R164, R165). -/
def deniedToArms (i : Instr) (r : Request) (s : State) : Prop :=
  ∀ arm : Arm, onArm arm r s → exec i s = .next (answered r.link (Reply.zeros .notPermitted) (frameEnded r.link s))

/-! ### What a command leaves unchanged -/

/-- The parts of the state that a frame clause names. -/
inductive Block
  | time
  | resetInput
  | port (l : Link)
  | sensors
  | sequencer
  | tempSettings
  | model
  | lastPos (arm : Arm)
  | zoneTable
  | claim (arm : Arm)
  | guard (arm : Arm)
  /-- supervision state, present and recorded flags, report timer, permit command and settle window -/
  | supervisor (arm : Arm)
  | settings (arm : Arm)
  | sense (arm : Arm)
  | entries
  | limits
  | slots
  | change (arm : Arm)
  | changeTimeout
  | queue (arm : Arm)
  | touchSettings
  | cellMaster
  | faultSource
  | rackSource
  | modelSource
  | sensorSource
  | probeSource
  | touchSource
  | armMaster (arm : Arm)
  | permitSource (arm : Arm)
  | changeSource (arm : Arm)
  | claimSource (arm : Arm)
  | compSource (arm : Arm)
  | alarmMap
  /-- the link whose ARM_DISABLE took the arm out of another state at this cell time -/
  | disabledBy (arm : Arm)
  | waiting
  | freeValues
  deriving DecidableEq, Repr

/-- A block is the same in two states. -/
def Block.same (s t : State) : Block → Prop
  | .time => t.cellTime = s.cellTime
  | .resetInput => t.resetHeld = s.resetHeld
  | .port l => t.ports.get l = s.ports.get l
  | .sensors => t.temp.sensors = s.temp.sensors
  | .sequencer => t.temp.seq = s.temp.seq
  | .tempSettings => t.temp.hold = s.temp.hold ∧ t.temp.spreadLimit = s.temp.spreadLimit ∧ t.temp.deglitch = s.temp.deglitch
  | .model => t.model = s.model
  | .lastPos arm => t.lastPos.get arm = s.lastPos.get arm
  | .zoneTable => t.zones.table = s.zones.table
  | .claim arm => t.zones.claims.get arm = s.zones.claims.get arm
  | .guard arm => t.zones.guards.get arm = s.zones.guards.get arm
  | .supervisor arm =>
    (t.sup.get arm).state = (s.sup.get arm).state ∧ (t.sup.get arm).present = (s.sup.get arm).present ∧
      (t.sup.get arm).recorded = (s.sup.get arm).recorded ∧ (t.sup.get arm).reportTimer = (s.sup.get arm).reportTimer ∧
      (t.sup.get arm).command = (s.sup.get arm).command ∧ (t.sup.get arm).window = (s.sup.get arm).window
  | .settings arm => (t.sup.get arm).settings = (s.sup.get arm).settings
  | .sense arm => (t.sup.get arm).sense = (s.sup.get arm).sense
  | .entries => t.registry.entries = s.registry.entries
  | .limits => t.registry.useLimit = s.registry.useLimit ∧ t.registry.driftLimit = s.registry.driftLimit
  | .slots => t.rack.slots = s.rack.slots
  | .change arm => t.rack.changes.get arm = s.rack.changes.get arm
  | .changeTimeout => t.rack.changeTimeout = s.rack.changeTimeout
  | .queue arm => t.touch.queues.get arm = s.touch.queues.get arm
  | .touchSettings => t.touch.blankTime = s.touch.blankTime ∧ t.touch.fillLevel = s.touch.fillLevel
  | .cellMaster => t.attn.cell.master = s.attn.cell.master
  | .faultSource => t.attn.cell.fault = s.attn.cell.fault
  | .rackSource => t.attn.cell.rack = s.attn.cell.rack
  | .modelSource => t.attn.cell.model = s.attn.cell.model
  | .sensorSource => t.attn.cell.sensor = s.attn.cell.sensor
  | .probeSource => t.attn.cell.probe = s.attn.cell.probe
  | .touchSource => t.attn.cell.touch = s.attn.cell.touch
  | .armMaster arm => (t.attn.arms.get arm).master = (s.attn.arms.get arm).master
  | .permitSource arm => (t.attn.arms.get arm).permit = (s.attn.arms.get arm).permit
  | .changeSource arm => (t.attn.arms.get arm).change = (s.attn.arms.get arm).change
  | .claimSource arm => (t.attn.arms.get arm).claim = (s.attn.arms.get arm).claim
  | .compSource arm => (t.attn.arms.get arm).comp = (s.attn.arms.get arm).comp
  | .alarmMap => t.alarmMap = s.alarmMap
  | .disabledBy arm => t.disabledBy.get arm = s.disabledBy.get arm
  | .waiting => t.pending = s.pending
  | .freeValues => t.freeIndex = s.freeIndex

/-- Every block that the list does not name is the same in the two states. -/
def unchangedBut (changed : List Block) (s t : State) : Prop := ∀ b : Block, b ∉ changed → b.same s t

/-! ### Supervisors (R84, R85, R89, R96, R99) -/

/-- A supervisor is sound: the permit command is on in RUNNING alone; the report timer is stopped in DISABLED; a cause in
mode OFF is not recorded and every other present cause is; an arm with a recorded LATCHED cause is STOPPED or DISABLED;
no AUTO cause is present in RUNNING and one is in HELD. -/
structure SupervisorSound (v : Supervisor) : Prop where
  permit : v.command = decide (v.state = .running)
  timer : v.state = .disabled → v.reportTimer = none
  off : ∀ c ∈ allCauses, v.mode c = .off → v.recorded.get c = false
  kept : ∀ c ∈ allCauses, v.present.get c = true → v.mode c ≠ .off → v.recorded.get c = true
  latched : recordedIn .latched v = true → v.state = .stopped ∨ v.state = .disabled
  running : v.state = .running → presentIn .auto v = false
  held : v.state = .held → presentIn .auto v = true

/-- Both supervisors are sound. -/
def SupervisorsSound (s : State) : Prop := SupervisorSound s.sup.a ∧ SupervisorSound s.sup.b

/-! ### Touch queues (R138) -/

/-- A queue is sound: at most 32 records, whose sequences rise by exactly one from oldest to newest, the newest
carrying the counter, and each names one of five tips. -/
def QueueSound (q : TouchQueue) : Prop :=
  q.records.length ≤ 32 ∧ (∀ t ∈ q.records, t.tip ≤ 4) ∧
    q.records.map TouchRecord.sequence =
      (List.range q.records.length).map fun i => q.counter - BitVec.ofNat 32 (q.records.length - 1 - i)

/-- Both queues and their common settings are sound. -/
def QueuesSound (s : State) : Prop :=
  QueueSound s.touch.queues.a ∧ QueueSound s.touch.queues.b ∧ s.touch.blankTime ≤ 2000 ∧ 1 ≤ s.touch.fillLevel ∧
    s.touch.fillLevel ≤ 32

/-! ### Attention units (R151, R152, R155) -/

/-- A source is sound: a pending source has its enable on, and a source that is not pending has an empty detail. -/
def Source.sound {δ : Type} (empty : δ) (src : Source δ) : Prop :=
  (src.pending = true → src.enable = true) ∧ (src.pending = false → src.detail = empty)

/-- The sources of an arm link's unit are sound. -/
def ArmUnit.sound (u : ArmUnit) : Prop :=
  u.permit.sound none ∧ u.change.sound none ∧ u.claim.sound none ∧ u.comp.sound none

/-- The sources of the Cell link's unit are sound. -/
def CellUnit.sound (u : CellUnit) : Prop :=
  u.fault.sound 0 ∧ u.rack.sound 0 ∧ u.model.sound none ∧ u.sensor.sound 0 ∧ u.probe.sound 0 ∧ u.touch.sound 0

/-- Every attention unit is sound. -/
def AttentionSound (s : State) : Prop := s.attn.cell.sound ∧ s.attn.arms.a.sound ∧ s.attn.arms.b.sound

/-! ### Temperature unit (R1, R9, R14 to R19, R22) -/

/-- A sensor record is sound: OFF exactly in role UNUSED; Tf within −20,000 and +60,000 mK; runs at most 8; at most 6
failures in the history, 6 only in LOCKED_OUT, in falling order of age and each within the last 64 conversions; no
left-valid time in OFF, WAITING or VALID. -/
structure SensorSound (x : Sensor) : Prop where
  off : x.role = .unused ↔ x.state = .off
  low : minTemp ≤ x.tf
  high : x.tf ≤ maxTemp
  runs : x.nonGoodRun ≤ 8 ∧ x.goodRun ≤ 8
  history : x.history.length ≤ 6
  locked : x.history.length = 6 → x.state = .lockedOut
  recent : ∀ e ∈ x.history, (x.ordinal - e).toNat < 64
  order : x.history.Pairwise fun e f => (x.ordinal - f).toNat < (x.ordinal - e).toNat
  leftValid : x.state = .off ∨ x.state = .waiting ∨ x.state = .valid → x.leftValid = none

/-- The sensor table and the settings of the temperature unit are sound. -/
def SensorsSound (s : State) : Prop :=
  (∀ i : Fin 16, SensorSound (vget s.temp.sensors i)) ∧ s.temp.hold ≤ 600 ∧ s.temp.spreadLimit ≤ 10000 ∧
    1 ≤ s.temp.deglitch ∧ s.temp.deglitch ≤ 8

/-- The sequencer is sound: at most 24 entries and a position below 24; nothing in flight, pending or timed in STOPPED; a conversion in flight
and no round timer in SINGLE and STOPPING; a pending single conversion only behind one in flight. -/
structure SequencerSound (q : Sequencer) : Prop where
  list : q.list.length ≤ 24
  position : q.position < 24
  stopped : q.state = .stopped → q.inFlight = none ∧ q.inRound = false
  single : q.state = .single → q.inFlight.isSome = true ∧ q.pendingSingle = none ∧ q.inRound = false
  stopping : q.state = .stopping → q.inFlight.isSome = true
  timer : q.state ≠ .running → q.roundTimer = none ∧ q.expired = false
  pending : q.pendingSingle.isSome = true → q.inFlight.isSome = true

/-! ### Model store (R24, R25) -/

/-- The words of an image are within the ranges that bound a correction: coefficients at most 30,000 and nodes within
±32,767. -/
def WordsSound (im : Image) : Prop :=
  workpieceAlpha im ≤ 30000 ∧
    ∀ j : Fin 6, scaleAlpha im j ≤ 30000 ∧ ∀ i : Fin 33, -32767 ≤ nodeAt im j i ∧ nodeAt im j i ≤ 32767

/-- The model store is sound: STAGING within range, and ACTIVE, if there is one, within range, with every scale passing
NODES and SPAN and every sensor it names in role SCALE. -/
def ModelSound (s : State) : Prop :=
  WordsSound s.model.staging ∧
    ∀ im, s.model.active = some im →
      WordsSound im ∧ ∀ j : Fin 6, nodesPass im j = true ∧ spanPass im j = true ∧ assignPass s im j = true

/-! ### Zones and claims (R61, R64, R65) -/

/-- The zone table is sound: a defined zone is a proper interval within bounds, an undefined one holds its reset values;
defined zones are disjoint and at most one is the RACK zone. -/
structure TableSound (s : State) : Prop where
  bounds : ∀ z : Fin 16, (zoneAt s z).defined = true →
    -maxCount ≤ (zoneAt s z).lower ∧ (zoneAt s z).lower < (zoneAt s z).upper ∧ (zoneAt s z).upper ≤ maxCount
  undefined : ∀ z : Fin 16, (zoneAt s z).defined = false → zoneAt s z = Zone.reset
  disjoint : ∀ z w : Fin 16, z ≠ w → (zoneAt s z).defined = true → (zoneAt s w).defined = true →
    (zoneAt s z).upper ≤ (zoneAt s w).lower ∨ (zoneAt s w).upper ≤ (zoneAt s z).lower
  rack : ∀ z w : Fin 16, (zoneAt s z).defined = true → (zoneAt s w).defined = true →
    (zoneAt s z).kind = .rack → (zoneAt s w).kind = .rack → z = w

/-- The pending claims are sound: not of both arms; of an arm that is not DISABLED, over defined zones; and an arm is the
waiter of exactly the zones of its pending claim that it does not hold. -/
structure ClaimsSound (s : State) : Prop where
  one : s.zones.claims.a = none ∨ s.zones.claims.b = none
  range : ∀ arm : Arm, ∀ c : Claim, s.zones.claims.get arm = some c →
    (s.sup.get arm).state ≠ .disabled ∧ 1 ≤ c.count ∧ c.first + c.count ≤ 16 ∧
      ∀ z : Fin 16, c.covers z = true → (zoneAt s z).defined = true
  waiter : ∀ arm : Arm, ∀ z : Fin 16, (zoneAt s z).waiter = some arm ↔
    (s.zones.claims.get arm).any (fun c => c.covers z) = true ∧ (zoneAt s z).holder ≠ some arm

/-- Zones and claims are sound. -/
def ZonesSound (s : State) : Prop := TableSound s ∧ ClaimsSound s

/-! ### Changes, slots and probes (R103, R104, R118, R123, R124) -/

/-- A change context is sound: in IDLE its fields are absent and its timer is stopped; an open one has its timer running
and its arm holds the RACK zone; its put slot is not its take slot. -/
structure ChangeSound (s : State) (arm : Arm) : Prop where
  closed : (s.rack.changes.get arm).phase = .idle →
    s.rack.changes.get arm = closedContext (s.rack.changes.get arm).outcome
  timer : (s.rack.changes.get arm).phase ≠ .idle → (s.rack.changes.get arm).timer.isSome = true
  distinct : ∀ i : Fin 12, (s.rack.changes.get arm).putSlot = some i → (s.rack.changes.get arm).takeSlot ≠ some i
  zone : (s.rack.changes.get arm).phase ≠ .idle →
    ∃ z : Fin 16, (zoneAt s z).defined = true ∧ (zoneAt s z).kind = .rack ∧ (zoneAt s z).holder = some arm

/-- Both change contexts are sound. -/
def ChangesSound (s : State) : Prop := ChangeSound s .a ∧ ChangeSound s .b

/-- The change of an arm has released the slot: its put slot in DEPOSIT or its take slot in PICK. -/
def releasedFor (s : State) (arm : Arm) (i : Fin 12) : Prop :=
  ((s.rack.changes.get arm).phase = .deposit ∧ (s.rack.changes.get arm).putSlot = some i) ∨
    ((s.rack.changes.get arm).phase = .pick ∧ (s.rack.changes.get arm).takeSlot = some i)

/-- A probe is on the head of an arm. -/
def onHead (s : State) (arm : Arm) (e : Fin 14) : Prop := (entryAt s e).map Probe.location = some (.head arm)

/-- Slots, changes and the registry agree. -/
structure RackSound (s : State) : Prop where
  lock : ∀ i : Fin 12, (slotAt s i).lock = decide ((slotAt s i).state ≠ .released)
  held : ∀ (i : Fin 12) (e : Fin 14),
    (slotAt s i).probe = some e ↔ (entryAt s e).map Probe.location = some (.slot i)
  home : ∀ (i : Fin 12) (e : Fin 14), (slotAt s i).probe = some e → (entryAt s e).map Probe.home = some i
  empty : ∀ i : Fin 12, (slotAt s i).state = .vacant ∨ (slotAt s i).state = .unclaimed → (slotAt s i).probe = none
  stored : ∀ i : Fin 12, (slotAt s i).state = .stored → (slotAt s i).probe.isSome = true
  released : ∀ i : Fin 12, (slotAt s i).state = .released ↔ releasedFor s .a i ∨ releasedFor s .b i
  deposit : ∀ arm : Arm, (s.rack.changes.get arm).phase = .deposit →
    ∃ (h : Fin 12) (e : Fin 14), (s.rack.changes.get arm).putSlot = some h ∧ (slotAt s h).probe = none ∧
      onHead s arm e ∧ (entryAt s e).map Probe.home = some h
  pick : ∀ arm : Arm, (s.rack.changes.get arm).phase = .pick →
    ∃ t : Fin 12, (s.rack.changes.get arm).takeSlot = some t ∧ (slotAt s t).probe.isSome = true ∧
      ∀ e : Fin 14, ¬ onHead s arm e
  timeout : 1 ≤ s.rack.changeTimeout ∧ s.rack.changeTimeout ≤ 120
  oneHead : ∀ (arm : Arm) (e f : Fin 14), onHead s arm e → onHead s arm f → e = f

/-- A probe record is sound: an id from 1 on, at most five tips within ±10,000,000 counts, a use count of 16 bits, and
Tcal absent exactly in UNQUALIFIED. -/
structure ProbeSound (p : Probe) : Prop where
  id : p.id ≠ 0
  tips : p.tips.length ≤ 5
  offsets : ∀ t ∈ p.tips, tipInRange t = true
  count : p.useCount ≤ 65535
  tcal : p.tcal = none ↔ p.qual = .unqualified

/-- The registry is sound: every record is, and no two probes share an id. -/
structure RegistrySound (s : State) : Prop where
  probes : ∀ e : Fin 14, ∀ p : Probe, entryAt s e = some p → ProbeSound p
  ids : ∀ (e f : Fin 14) (p q : Probe), entryAt s e = some p → entryAt s f = some q → p.id = q.id → e = f
  limits : 1 ≤ s.registry.useLimit ∧ s.registry.useLimit ≤ 65535 ∧ s.registry.driftLimit ≤ 10000

end Sys2Proof.Machine
end

