-- ==== Sys2Proof/WellFormed.lean ====
section
/-! DEFINITION. What makes a command well-formed. The operands' types carry every other bound: arms, links, slots,
sensors, bytes and words. -/

namespace Sys2Proof

/-- The request code of an UNKNOWN_REQUEST names no request of Table A.3 (R164). -/
def namesNoRequest (code : Byte) : Bool := (requestOfCode code { link := .cell, sel := 0, d0 := 0, d1 := 0, d2 := 0 }).isNone

/-- A command is well-formed: an UNKNOWN_REQUEST has a request code that names no request. -/
def WellFormed : Instr → Bool
  | .unknownRequest code _ => namesNoRequest code
  | _ => true

end Sys2Proof
end

