-- ==== Sys2Proof/Certificates/Slice0/Obligations.lean ====
section
/-! DEFINITION. The statements for the provers: what each command does, what reset leaves, and what every step keeps.
Each docstring names the rules of spec/ it rests on; a log entry stands in notes/assumptions. -/

open Sys2Proof Sys2Proof.Machine

/-! ### The queue, cell time and reset -/

/-- The step takes the command at the front of the queue and is exec of it with the queue's rest. -/
def Obligations.StepRunsTheFrontCommand : Prop :=
  ∀ (c : Instr) (rest : List Instr) (s : State), s.pending = c :: rest → step s = exec c { s with pending := rest }

/-- MODEL'S CHOICE (log entries 2, 3 and 22): on an empty queue the block takes one of the events that are due, and
where none is due one millisecond of cell time passes, unless the part is held in reset; the disables taken at one
cell time are those that an enable falls together with, and the next cell time has none yet. A completion or an expiry
is due exactly when the elapsed cell time, modulo 2^32, has reached its duration and the part is not held in reset
(R6, R19, R30, R171, R172). The converter code of a completion is a free value. -/
def Obligations.TimePassesAndEventsFallDue : Prop :=
  (∀ s : State, s.pending = [] →
    (dueEvents s = [] → step s = .next (if s.resetHeld then s else
      { s with cellTime := s.cellTime + 1, disabledBy := ⟨none, none⟩ })) ∧
    (dueEvents s ≠ [] → ∃ e ∈ dueEvents s, step s = exec e { s with freeIndex := s.freeIndex + 1 })) ∧
  (∀ s : State,
    let elapsed (start : Word) (ms : Nat) : Prop := s.resetHeld = false ∧ ms ≤ (s.cellTime - start).toNat
    let out (timer : Option Timer) : Prop := ∃ t ∈ timer, elapsed t.start t.duration
    (∀ code : Half, Instr.conversionCompletion code ∈ dueEvents s ↔
      code = Config.converterCode s.freeIndex ∧ ∃ c ∈ s.temp.seq.inFlight, elapsed c.start 4) ∧
    (Instr.roundTimerExpiry ∈ dueEvents s ↔ out s.temp.seq.roundTimer) ∧
    (∀ i : Fin 16, Instr.leftValidTimeExpiry i ∈ dueEvents s ↔
      ∃ t ∈ (vget s.temp.sensors i).leftValid, elapsed t 600000) ∧
    (Instr.modelCheckCompletion ∈ dueEvents s ↔ ∃ c ∈ s.model.check, elapsed c.start 2) ∧
    (∀ arm : Arm, Instr.reportTimerExpiry arm ∈ dueEvents s ↔ out (s.sup.get arm).reportTimer) ∧
    (∀ arm : Arm, Instr.settleWindowExpiry arm ∈ dueEvents s ↔ out (s.sup.get arm).window) ∧
    (∀ i : Fin 12, Instr.presenceSettleExpiry i ∈ dueEvents s ↔ out (slotAt s i).settleTimer) ∧
    (∀ arm : Arm, Instr.changeTimerExpiry arm ∈ dueEvents s ↔ out (s.rack.changes.get arm).timer) ∧
    (∀ arm : Arm, Instr.blankTimerExpiry arm ∈ dueEvents s ↔ out (s.touch.queues.get arm).blankTimer))

/-- RESET_INPUT_ASSERTED puts every block in the device-reset state of its chapter (R2, R27, R61, R83, R103, R120,
R138, R157, R158, R168, R171); while a device reset is held it changes nothing. The levels of the input lines, the
waiting commands and the count of free values are not the part's and stay. RESET_INPUT_DEASSERTED: cell time begins to
count, the settle timer of every slot is started, and each permit sense is judged against the command, which is off in
the state that the device reset left (R100, R120, R171). An input that is not asserted cannot be deasserted (log entry
5). -/
def Obligations.ResetInputResetsAndStartsThePart : Prop :=
  (∀ s : State,
    (s.resetHeld = true → exec .resetInputAsserted s = .next s) ∧
    (s.resetHeld = false → ∃ t, exec .resetInputAsserted s = .next t ∧ t.resetHeld = true ∧ t.cellTime = 0 ∧
      (∀ i : Fin 16, vget t.temp.sensors i =
        { role := .unused, c0 := 0, k := 0, n := 3, state := .off, lastCode := 0, lastClass := .good, tf := 0,
          nonGoodRun := 0, goodRun := 0, ordinal := 0, history := [], leftValid := none }) ∧
      t.temp.seq = { state := .stopped, list := [], position := 0, period := 0, roundTimer := none, expired := false,
                     inFlight := none, pendingSingle := none, inRound := false } ∧
      t.temp.hold = 60 ∧ t.temp.spreadLimit = 1000 ∧ t.temp.deglitch = 3 ∧
      t.model.active = none ∧ (∀ i : Fin 230, vget t.model.staging i = 0) ∧ t.model.check = none ∧
      t.model.last = { result := .none, failingScale := none, expected := none, computed := none } ∧
      t.model.commitCount = 0 ∧ t.lastPos = ⟨none, none⟩ ∧
      (∀ z : Fin 16, zoneAt t z =
        { defined := false, lower := 0, upper := 0, kind := .body, holder := none, waiter := none }) ∧
      t.zones.claims = ⟨none, none⟩ ∧ t.zones.guards = ⟨none, none⟩ ∧
      (∀ arm : Arm, t.sup.get arm =
        { state := .disabled
          settings := { halfWidth := 3000000, freeReach := 0, margin := 500000, timeoutCode := 3, reportAny := false,
                        modes := { guard := .latched, overdue := .latched, compLost := .auto, link := .warn } }
          present := ⟨false, false, false, false, false, false⟩, recorded := ⟨false, false, false, false, false, false⟩
          reportTimer := none, command := false, window := none, sense := (s.sup.get arm).sense }) ∧
      (∀ e : Fin 14, entryAt t e = none) ∧ t.registry.useLimit = 2000 ∧ t.registry.driftLimit = 2000 ∧
      (∀ i : Fin 12, slotAt t i =
        { state := .vacant, probe := none, lock := true, raw := (slotAt s i).raw, settled := false,
          settleTimer := none }) ∧
      (∀ arm : Arm, t.rack.changes.get arm =
        { phase := .idle, putSlot := none, depositedId := none, takeSlot := none, takeId := 0, outcome := .none,
          timer := none }) ∧
      t.rack.changeTimeout = 30 ∧
      (∀ arm : Arm, t.touch.queues.get arm = { records := [], counter := 0, blankTimer := none }) ∧
      t.touch.blankTime = 250 ∧ t.touch.fillLevel = 1 ∧
      t.attn.cell = { master := false, fault := ⟨true, false, false, 0⟩, rack := ⟨false, false, false, 0⟩,
                      model := ⟨false, false, false, none⟩, sensor := ⟨false, false, false, 0⟩,
                      probe := ⟨false, false, false, 0⟩, touch := ⟨false, false, false, 0⟩ } ∧
      (∀ arm : Arm, t.attn.arms.get arm =
        { master := false, permit := ⟨false, false, false, none⟩, change := ⟨false, false, false, none⟩,
          claim := ⟨false, false, false, none⟩, comp := ⟨false, false, false, none⟩ }) ∧
      (∀ n : Fin 9, t.alarmMap.getLsbD n.val = decide (n.val ∈ [0, 1, 4, 5, 7, 8])) ∧
      (∀ l : Link, t.ports.get l =
        { phase := if (s.ports.get l).phase = .idle then .idle else .passedOver
          reply := { code := .none, d0 := 0, d1 := 0, d2 := 0 }, runCount := 0, resetBit := true }) ∧
      t.disabledBy = ⟨none, none⟩ ∧ t.pending = s.pending ∧ t.freeIndex = s.freeIndex ∧
      (∀ arm : Arm, permitOutput t arm = false) ∧ (∀ i : Fin 12, lockOutput t i = true) ∧
      (∀ l : Link, attentionLine t l = false) ∧ cellAlarm t = false)) ∧
  (∀ s : State,
    (s.resetHeld = false → exec .resetInputDeasserted s = .next s) ∧
    (s.resetHeld = true → (∀ arm : Arm, (s.sup.get arm).window = none) →
      ∃ t, exec .resetInputDeasserted s = .next t ∧ t.resetHeld = false ∧
        (∀ i : Fin 12, slotAt t i = { slotAt s i with settleTimer := some ⟨s.cellTime, 20⟩ }) ∧
        (∀ arm : Arm, (t.sup.get arm).present =
          { (s.sup.get arm).present with
            permitMismatch := decide ((s.sup.get arm).sense ≠ (s.sup.get arm).command) }) ∧
        (∀ arm : Arm, (s.sup.get arm).present.permitMismatch = false → (s.sup.get arm).sense = true →
          (s.sup.get arm).command = false → (t.sup.get arm).recorded.permitMismatch = true) ∧
        unchangedBut [.resetInput, .slots, .supervisor .a, .supervisor .b, .faultSource, .permitSource .a,
          .permitSource .b] s t))

/-- The values that the chapters give each block right after reset stand in State.reset; the levels of the input lines
are the MODEL'S CHOICE (log entry 1). Every invariant of the model holds right after reset. -/
def Obligations.ResetStateIsAsStatedAndSound : Prop :=
  (State.reset.cellTime = 0 ∧ State.reset.temp.seq.state = .stopped ∧ State.reset.temp.seq.list = [] ∧
    State.reset.temp.hold = 60 ∧ State.reset.temp.spreadLimit = 1000 ∧ State.reset.temp.deglitch = 3 ∧
    (∀ i : Fin 16, (vget State.reset.temp.sensors i).state = .off ∧ (vget State.reset.temp.sensors i).n = 3) ∧
    State.reset.model.active = none ∧ State.reset.model.last.result = .none ∧
    (∀ z : Fin 16, (zoneAt State.reset z).defined = false) ∧
    (∀ arm : Arm, (State.reset.sup.get arm).state = .disabled ∧ (State.reset.sup.get arm).command = false ∧
      (State.reset.sup.get arm).settings.halfWidth = 3000000) ∧
    (∀ e : Fin 14, entryAt State.reset e = none) ∧ State.reset.registry.useLimit = 2000 ∧
    (∀ i : Fin 12, (slotAt State.reset i).state = .vacant ∧ (slotAt State.reset i).lock = true ∧
      (slotAt State.reset i).settleTimer = some ⟨0, 20⟩) ∧
    State.reset.rack.changeTimeout = 30 ∧ State.reset.touch.blankTime = 250 ∧ State.reset.touch.fillLevel = 1 ∧
    State.reset.attn.cell.fault.enable = true ∧ State.reset.attn.cell.master = false ∧
    State.reset.alarmMap = 0b110110011#9 ∧
    (∀ l : Link, (State.reset.ports.get l).reply = ⟨.none, 0, 0, 0⟩ ∧ (State.reset.ports.get l).resetBit = true)) ∧
  (PortsSound State.reset ∧ SupervisorsSound State.reset ∧ QueuesSound State.reset ∧ AttentionSound State.reset ∧
    SensorsSound State.reset ∧ SequencerSound State.reset.temp.seq ∧ ModelSound State.reset ∧ ZonesSound State.reset ∧
    ChangesSound State.reset ∧ RackSound State.reset ∧ RegistrySound State.reset)

/-! ### Frames -/

/-- The frame that encodes a well-formed request, read back bit by bit, is that request on that link, with every
operand (Table A.1, R160, R161). One bit of an encoded frame read wrongly makes the frame a discarded one, whichever
bit it is (R161). -/
def Obligations.FramesDecodeBackAndShowEveryWrongBit : Prop :=
  (∀ (i : Instr) (link : Link) (bits : List Bool), WellFormed i = true → encodeFrame i = some (link, bits) →
    bits.length = 128 ∧ decodeFrame link bits = i) ∧
  (∀ (i : Instr) (link : Link) (bits : List Bool) (k : Fin 128), encodeFrame i = some (link, bits) →
    decodeFrame link (bits.set k.val (!bits.getD k.val false)) = .frameDiscard link)

/-- A frame is accepted exactly when 128 clocks were given, byte 15 is the CRC-8 of bytes 0 to 14 and byte 14 is zero;
the request code, the selector and the words play no part. The CRC-8 gives F4 over the characters 1 to 9, and a run of
bytes followed by its CRC-8 has CRC-8 zero (R161). -/
def Obligations.AcceptanceIsTheThreeChecks : Prop :=
  crc8 [0x31, 0x32, 0x33, 0x34, 0x35, 0x36, 0x37, 0x38, 0x39] = 0xF4#8 ∧
  (∀ bytes : List Byte, crc8 (bytes ++ [crc8 bytes]) = 0#8) ∧
  (∀ (reg b : Byte) (bytes : List Byte), crc8 (bytes ++ [b]) = Nat.repeat crc8Shift 8 (crc8 bytes ^^^ b) ∧
    crc8Shift reg = (reg <<< 1) ^^^ (if reg.getLsbD 7 then 0x07#8 else 0#8)) ∧
  ∀ (link : Link) (bits : List Bool),
    let bytes : List Byte := (List.range 16).map fun k =>
      BitVec.ofNat 8 ((List.range 8).foldl (fun acc j => 2 * acc + (bits.getD (8 * k + j) false).toNat) 0)
    decodeFrame link bits ≠ .frameDiscard link ↔
      bits.length = 128 ∧ bytes.getD 15 0#8 = crc8 (bytes.take 15) ∧ bytes.getD 14 0#8 = 0#8

/-- Frames written out from Tables A.1 and A.3, one of each family of requests, are the requests they spell; a code
that names no request is UNKNOWN_REQUEST, and a wrong CRC-8 or a byte 14 that is not zero is discarded. -/
def Obligations.WrittenOutFramesDecode : Prop :=
  (∀ l : Link, commandOfBytes l [0x01, 0, 0, 0, 0, 0, 0, 0, 0, 0, 0, 0, 0, 0, 0, 0xB5] = .nop ⟨l, 0, 0, 0, 0⟩) ∧
  (∀ l : Link, commandOfBytes l [0x20, 0, 0x40, 0x42, 0x0F, 0, 0, 0, 0, 0, 0xC0, 0xBD, 0xF0, 0xFF, 0, 0x81] =
    .position ⟨l, 0, 1000000, 0, 0xFFF0BDC0#32⟩) ∧
  (∀ l : Link, commandOfBytes l [0x40, 9, 1, 3, 0, 0, 0x10, 0x27, 0, 0, 0x80, 0x02, 0, 0, 0, 0x01] =
    .sensorSet ⟨l, 9, 0x00000301#32, 10000, 640⟩) ∧
  (∀ l : Link, commandOfBytes l [0x48, 229, 1, 0, 0, 0, 0xFF, 0xFF, 0xFF, 0xFF, 0, 0, 0, 0, 0, 0x21] =
    .modelLoad ⟨l, 229, 1, 0xFFFFFFFF#32, 0⟩) ∧
  (∀ l : Link, commandOfBytes l [0x50, 15, 0, 0x6C, 0xCA, 0x88, 0, 0x94, 0x35, 0x77, 1, 0, 0, 0, 0, 0x42] =
    .zoneDefine ⟨l, 15, 0x88CA6C00#32, 2000000000, 1⟩) ∧
  (∀ l : Link, commandOfBytes l [0x5A, 4, 0, 0, 0, 0, 0, 0, 0, 0, 0, 0, 0, 0, 0, 0xA1] = .probeTipWrite ⟨l, 4, 0, 0, 0⟩) ∧
  (∀ l : Link, commandOfBytes l [0x65, 0, 0xFF, 1, 0, 0, 0, 0, 0, 0, 0, 0, 0, 0, 0, 0xA1] = .alarmSet ⟨l, 0, 511, 0, 0⟩) ∧
  (∀ l : Link, commandOfBytes l [0x11, 0, 0, 0, 0, 0, 0, 0, 0, 0, 0, 0, 0, 0, 0, 0xD4] =
    .unknownRequest 0x11 ⟨l, 0, 0, 0, 0⟩) ∧
  (∀ l : Link, commandOfBytes l [0x01, 0, 0, 0, 0, 0, 0, 0, 0, 0, 0, 0, 0, 0, 0, 0xC0] = .frameDiscard l) ∧
  (∀ l : Link, commandOfBytes l [0x01, 0, 0, 0, 0, 0, 0, 0, 0, 0, 0, 0, 0, 0, 1, 0xB2] = .frameDiscard l)

/-- At the beginning of a frame the reply is fixed from the state as it stands: the status byte, the reply buffer, the
code of the eligible source of highest rank or 0, and the CRC-8 of these fifteen bytes (R160, R167). A frame that
begins while the part is held in reset is passed over (R168, R171); select that is asserted already cannot be asserted
(log entry 5). Bits go out byte by byte, most significant first, with zeros beyond the 128th clock. The eight bits of
the status byte of a link, as Table 10.3 sets them and Table A.2 places them (R166). -/
def Obligations.FrameBeginFixesTheReply : Prop :=
  (∀ (l : Link) (s : State),
    ((s.ports.get l).phase = .idle → s.resetHeld = false →
      ∃ reply : Vector Byte 16,
        exec (.frameBegin l) s = .next { s with ports := s.ports.set l { s.ports.get l with phase := .inFrame reply } } ∧
        (let b := s.ports.get l
         let head : List Byte := [statusByte s l, BitVec.ofNat 8 b.reply.code.num,
           b.reply.d0.extractLsb' 0 8, b.reply.d0.extractLsb' 8 8, b.reply.d0.extractLsb' 16 8,
           b.reply.d0.extractLsb' 24 8, b.reply.d1.extractLsb' 0 8, b.reply.d1.extractLsb' 8 8,
           b.reply.d1.extractLsb' 16 8, b.reply.d1.extractLsb' 24 8, b.reply.d2.extractLsb' 0 8,
           b.reply.d2.extractLsb' 8 8, b.reply.d2.extractLsb' 16 8, b.reply.d2.extractLsb' 24 8,
           BitVec.ofNat 8 ((eligibleCode s l).getD 0)]
         reply.toList = head ++ [crc8 head]) ∧
        ∀ n : Nat, (∀ k : Fin 8, ∀ h : n < 16, replyBit reply (8 * n + k.val) = (reply[n]'h).getLsbD (7 - k.val)) ∧
          replyBit reply (128 + n) = false) ∧
    ((s.ports.get l).phase = .idle → s.resetHeld = true →
      exec (.frameBegin l) s = .next { s with ports := s.ports.set l { s.ports.get l with phase := .passedOver } }) ∧
    ((s.ports.get l).phase ≠ .idle → exec (.frameBegin l) s = .next s)) ∧
  (∀ (s : State) (l : Link),
    let arms : List Arm := match l with | .armA => [.a] | .armB => [.b] | .cell => [.a, .b]
    let recordedAs (m : Mode) (arm : Arm) : Prop :=
      ∃ c : Cause, (s.sup.get arm).recorded.get c = true ∧ (s.sup.get arm).mode c = m
    ((statusByte s l).getLsbD 7 = (s.ports.get l).resetBit) ∧
    ((statusByte s l).getLsbD 6 = attentionLine s l) ∧
    ((statusByte s l).getLsbD 5 = true ↔ ∃ arm ∈ arms, recordedAs .latched arm) ∧
    ((statusByte s l).getLsbD 4 = true ↔ ∃ arm ∈ arms, recordedAs .warn arm) ∧
    ((statusByte s l).getLsbD 3 = true ↔ ∀ arm ∈ arms, (s.sup.get arm).command = true) ∧
    ((statusByte s l).getLsbD 2 = true ↔ s.model.active.isSome = true ∧
      (l ≠ .cell → ∀ arm ∈ arms, ∃ p ∈ s.lastPos.get arm, p.quality = ⟨.full, .full, .full⟩)) ∧
    ((statusByte s l).getLsbD 1 = true ↔ ∃ arm ∈ arms, (s.rack.changes.get arm).phase ≠ .idle) ∧
    ((statusByte s l).getLsbD 0 = true ↔ ∃ arm ∈ arms, (s.touch.queues.get arm).records ≠ []))

/-- A source is eligible when it is pending and above every source in service; the eligible source of highest rank is
the one shown and taken, and the line is asserted when the master enable is on and there is one (R150, R152). Source
codes are the ranks. The cell-alarm output is asserted exactly while some condition of Table 9.2 whose member is in
the alarm map exists (R159). -/
def Obligations.LinesFollowTheirConditions : Prop :=
  (∀ (s : State) (l : Link),
    let fs := unitFlags s l
    (fs.length = if l = .cell then 6 else 4) ∧
    (∀ code : Nat, eligibleCode s l = some code ↔
      ∃ k : Nat, code = k + 1 ∧ (∃ f ∈ fs[k]?, f.pending = true) ∧
        (∀ j ≤ k, ∀ f ∈ fs[j]?, f.inService = false) ∧ ∀ j < k, ∀ f ∈ fs[j]?, f.pending = false) ∧
    (attentionLine s l = true ↔ masterEnable s l = true ∧
      ∃ k : Nat, (∃ f ∈ fs[k]?, f.pending = true) ∧ ∀ j ≤ k, ∀ f ∈ fs[j]?, f.inService = false)) ∧
  (∀ s : State,
    let recorded (c : Cause) : Prop := ∃ arm : Arm, (s.sup.get arm).recorded.get c = true
    cellAlarm s = true ↔
      (s.alarmMap.getLsbD 0 = true ∧ recorded .guard) ∨ (s.alarmMap.getLsbD 1 = true ∧ recorded .overdue) ∨
      (s.alarmMap.getLsbD 2 = true ∧ recorded .compLost) ∨ (s.alarmMap.getLsbD 3 = true ∧ recorded .link) ∨
      (s.alarmMap.getLsbD 4 = true ∧ recorded .permitMismatch) ∨
      (s.alarmMap.getLsbD 5 = true ∧ recorded .changeFault) ∨
      (s.alarmMap.getLsbD 6 = true ∧ ∃ i : Fin 16, (vget s.temp.sensors i).state = .failed) ∨
      (s.alarmMap.getLsbD 7 = true ∧ ∃ i : Fin 16, (vget s.temp.sensors i).state = .lockedOut) ∨
      (s.alarmMap.getLsbD 8 = true ∧ ∃ i : Fin 12, (slotAt s i).state = .blocked))

/-- FRAME_DISCARD: FRAME_ERROR with three zero words replaces the answer, the run count rises by one up to 255, and on
an arm link a run of three or more makes LINK present, which is recorded unless its mode is OFF; the RESET bit stays
and nothing of the request is acted on (R87, R163). A frame whose select was held when the device reset was taken, or
that ends while the part is held in reset, is neither accepted nor discarded: whatever command its end is, select
alone is deasserted (R168, R171, log entry 5). -/
def Obligations.DiscardedAndPassedOverFrames : Prop :=
  (∀ (l : Link) (s : State), takesFrame l s = true → PortsSound s →
    ∃ t, exec (.frameDiscard l) s = .next t ∧
      t.ports.get l = { phase := .idle, reply := { code := .frameError, d0 := 0, d1 := 0, d2 := 0 }
                        runCount := if (s.ports.get l).runCount = 255 then 255 else (s.ports.get l).runCount + 1
                        resetBit := (s.ports.get l).resetBit } ∧
      (∀ arm : Arm, l = linkOf arm →
        let v := s.sup.get arm
        (t.sup.get arm).present = { v.present with link := v.present.link || decide (2 ≤ (s.ports.get l).runCount) } ∧
        ((t.sup.get arm).recorded.link = true ↔ v.recorded.link = true ∨
          (v.present.link = false ∧ 2 ≤ (s.ports.get l).runCount ∧ v.settings.modes.link ≠ .off)) ∧
        (t.sup.get arm).reportTimer = v.reportTimer) ∧
      unchangedBut (.port l :: match l with
        | .armA => [.supervisor .a, .permitSource .a, .faultSource]
        | .armB => [.supervisor .b, .permitSource .b, .faultSource]
        | .cell => []) s t) ∧
  (∀ (l : Link) (i : Instr) (s : State), takesFrame l s = false →
    i = .passedOverFrameEnd l ∨ i = .frameDiscard l ∨ (∃ c ∈ codeOf i, c.2.link = l) →
    exec i s = .next { s with ports := s.ports.set l { s.ports.get l with phase := .idle } })

/-- What every accepted frame does by itself on an arm link: LINK is no longer present, a running report timer is
restarted with report-any on, HELD ends when no AUTO cause is left present, no cause is recorded and nothing else
changes (R87, R89, R97, R162). On the Cell link it does nothing but to the port. NOP and READ_TIME on any link, and
UNKNOWN_REQUEST with any code: the answer, with the values as they stand after the frame's own acceptance, and nothing
else but what every accepted frame does (R164, R169). That UNKNOWN_REQUEST is answered UNKNOWN also with a code that
names a request is the MODEL'S CHOICE (log entry 14): no frame decodes to it. -/
def Obligations.AcceptedFramesNopAndReadTime : Prop :=
  (∀ s : State, SupervisorsSound s →
    (∀ arm : Arm,
      let v := s.sup.get arm
      let t := frameEnded (linkOf arm) s
      let w := t.sup.get arm
      w.present = { v.present with link := false } ∧ w.recorded = v.recorded ∧
      w.reportTimer = (if v.settings.reportAny = true ∧ v.reportTimer.isSome = true then
          some ⟨s.cellTime, [5, 10, 20, 50, 100, 200, 500, 1000].getD v.settings.timeoutCode.toNat 0⟩
        else v.reportTimer) ∧
      w.state = (if v.state = .held ∧ presentIn .auto w = false then .running else v.state) ∧
      (t.ports.get (linkOf arm)) = { s.ports.get (linkOf arm) with phase := .idle, runCount := 0, resetBit := false } ∧
      unchangedBut [.port (linkOf arm), .supervisor arm, .permitSource arm] s t) ∧
    frameEnded .cell s =
      { s with ports := { s.ports with cell := { s.ports.cell with phase := .idle, runCount := 0, resetBit := false } } }) ∧
  (∀ (code : Byte) (r : Request) (s : State), takesFrame r.link s = true →
    exec (.nop r) s = .next (answered r.link { code := .ok, d0 := 0, d1 := 0, d2 := 0 } (frameEnded r.link s)) ∧
    exec (.unknownRequest code r) s =
      .next (answered r.link { code := .unknown, d0 := 0, d1 := 0, d2 := 0 } (frameEnded r.link s)) ∧
    (PortsSound s →
      let runs (l : Link) : Nat := if l = r.link then 0 else (s.ports.get l).runCount
      let resets (l : Link) : Nat := if l ≠ r.link ∧ (s.ports.get l).resetBit = true then 1 else 0
      exec (.readTime r) s = .next (answered r.link
        { code := .ok, d0 := s.cellTime
          d1 := packed [(0, runs .armA), (8, runs .armB), (16, runs .cell)]
          d2 := packed [(0, resets .armA), (1, resets .armB), (2, resets .cell)] } (frameEnded r.link s))))

/-- A request that Table 10.1 does not permit on the link that carried it is answered NOT_PERMITTED with three zero
words and changes nothing beyond what every accepted frame does (R164, R165). -/
def Obligations.RequestsOnWrongLinksAreNotPermitted : Prop :=
  ∀ (r : Request) (s : State) (i : Instr), takesFrame r.link s = true →
    (r.link = .cell ∧ i ∈ [.position r, .touch r, .claim r, .claimWithdraw r, .release r, .changeOpen r, .changeClose r,
      .changeAbort r]) ∨
    (r.link ≠ .cell ∧ i ∈ [.sensorSet r, .seqListSet r, .seqStart r, .seqStop r, .convertOne r, .sensorUnlock r,
      .tempSet r, .modelLoad r, .modelRevert r, .modelCheck r, .zoneDefine r, .zoneFree r, .armSet r, .faultClear r,
      .probeSet r, .probeRegister r, .probeTipWrite r, .probeTipClear r, .probeQualify r, .probeReserve r,
      .probeUnreserve r, .probeRemove r, .rackSet r, .slotService r, .touchSet r, .touchHead r, .touchDrop r,
      .alarmSet r]) →
    exec i s = .next (answered r.link { code := .notPermitted, d0 := 0, d1 := 0, d2 := 0 } (frameEnded r.link s))

/-! ### The temperature unit -/

/-- SENSOR_SET: the checks of Table 1.3 in order, and the record started afresh, with SENSOR attention if the sensor
was FAILED or LOCKED_OUT (R3, R4). -/
def Obligations.SensorSetStartsTheSensorAfresh : Prop :=
  ∀ (r : Request) (s : State), deniedToArms (.sensorSet r) r s ∧ (onCell r s →
    (16 ≤ r.sel.toNat → exec (.sensorSet r) s = .next (refusedOnCell .badSelector s)) ∧
    ∀ i : Fin 16, i.val = r.sel.toNat →
      let role := r.d0.toNat % 256
      let n := r.d0.toNat / 256 % 256
      let before := (vget s.temp.sensors i).state
      let named : Bool := s.model.active.any fun im => decide (∃ j : Fin 6,
        (imageWord im (38 * j.val + 3)).toNat % 256 = i.val ∨ (imageWord im (38 * j.val + 3)).toNat / 256 % 256 = i.val)
      let refusal : Option ResultCode :=
        if s.temp.seq.state ≠ .stopped then some .busy
        else if 4 < role ∨ 65535 < r.d1.toNat ∨ r.d2.toNat < 1 ∨ 65535 < r.d2.toNat ∨ 7 < n then some .outOfRange
        else if role = 4 ∧ ∃ j : Fin 16, j ≠ i ∧ (vget s.temp.sensors j).role = .rack then some .outOfRange
        else if role ≠ 1 ∧ named = true then some .inUse
        else none
      (∀ code ∈ refusal, exec (.sensorSet r) s = .next (refusedOnCell code s)) ∧
      (refusal = none → ∀ x : Role, x.num = role →
        let t := s.setSensor i
          { role := x, c0 := r.d1.setWidth 16, k := r.d2.setWidth 16, n := BitVec.ofNat 3 n
            state := if x = .unused then .off else .waiting
            lastCode := 0, lastClass := .good, tf := 0, nonGoodRun := 0, goodRun := 0, ordinal := 0, history := []
            leftValid := none }
        exec (.sensorSet r) s = .next (answered .cell { code := .ok, d0 := 0, d1 := 0, d2 := 0 }
          (if before = .failed ∨ before = .lockedOut then raiseSensor i t else t))))

/-- SEQ_LIST_SET: the given entries are the bytes before the first 255; the list keeps its first p entries and takes
the given ones after them (R5). SENSOR_UNLOCK returns a LOCKED_OUT sensor to WAITING with its history emptied and
SENSOR attention, and is refused STATE for every other; TEMP_SET writes its three settings together or refuses all of
them (R18, R22). -/
def Obligations.ListUnlockAndSettingsAreWritten : Prop :=
  (∀ (r : Request) (s : State), deniedToArms (.seqListSet r) r s ∧ (onCell r s →
    let bytes := [r.d0, r.d1, r.d2].flatMap fun w =>
      [w.toNat % 256, w.toNat / 256 % 256, w.toNat / 65536 % 256, w.toNat / 16777216]
    let given := bytes.takeWhile fun b => b ≠ 255
    let p := r.sel.toNat
    exec (.seqListSet r) s = .next (
      if s.temp.seq.state ≠ .stopped then refusedOnCell .busy s
      else if s.temp.seq.list.length < p ∨ (∃ b ∈ given, 15 < b) ∨ 24 < p + given.length ∨ p + given.length = 0 then
        refusedOnCell .outOfRange s
      else answered .cell { code := .ok, d0 := 0, d1 := 0, d2 := 0 }
        (s.setSeq { s.temp.seq with list := s.temp.seq.list.take p ++ given.map (Fin.ofNat 16) })))) ∧
  (∀ (r : Request) (s : State), deniedToArms (.sensorUnlock r) r s ∧ deniedToArms (.tempSet r) r s ∧ (onCell r s →
    (16 ≤ r.sel.toNat → exec (.sensorUnlock r) s = .next (refusedOnCell .badSelector s)) ∧
    (∀ i : Fin 16, i.val = r.sel.toNat →
      let x := vget s.temp.sensors i
      exec (.sensorUnlock r) s = .next (
        if x.state ≠ .lockedOut then refusedOnCell .state s
        else answered .cell { code := .ok, d0 := 0, d1 := 0, d2 := 0 } (raiseSensor i (s.setSensor i
          { x with state := .waiting, history := [], nonGoodRun := 0, goodRun := 0, leftValid := none })))) ∧
    exec (.tempSet r) s = .next (
      if 600 < r.d0.toNat ∨ 10000 < r.d1.toNat ∨ r.d2.toNat < 1 ∨ 8 < r.d2.toNat then refusedOnCell .outOfRange s
      else answered .cell { code := .ok, d0 := 0, d1 := 0, d2 := 0 }
        { s with temp := { s.temp with hold := r.d0.toNat, spreadLimit := r.d1.toNat, deglitch := r.d2.toNat } })))

/-- SEQ_START: refused outside STOPPED, for a bad period and for a list without a convertible entry; when taken, the
first round starts at the first entry whose sensor is not UNUSED (R7, R8). SEQ_STOP is answered OK in every state:
between rounds the sequencer stops at once, with a conversion in flight it moves to STOPPING, and elsewhere nothing
changes (R10, the request). CONVERT_ONE by Table 1.5: started, queued behind the conversion in flight, or refused
(R11). -/
def Obligations.SequencerRequestsStartStopAndConvert : Prop :=
  (∀ (r : Request) (s : State), deniedToArms (.seqStart r) r s ∧ (onCell r s →
    let q := s.temp.seq
    let unused (i : Fin 16) : Prop := (vget s.temp.sensors i).role = .unused
    let refusal : Option ResultCode :=
      if q.state = .running then some .state
      else if q.state = .stopping ∨ q.state = .single then some .busy
      else if r.d0.toNat ≠ 0 ∧ (r.d0.toNat < 100 ∨ 10000 < r.d0.toNat) then some .outOfRange
      else if ∀ i ∈ q.list, unused i then some .notReady
      else none
    (∀ code ∈ refusal, exec (.seqStart r) s = .next (refusedOnCell code s)) ∧
    (refusal = none → ∀ n, (h : n < q.list.length) → ¬ unused q.list[n] → (∀ i ∈ q.list.take n, unused i) →
      exec (.seqStart r) s = .next (answered .cell { code := .ok, d0 := 0, d1 := 0, d2 := 0 } (s.setSeq
        { q with state := .running, period := r.d0.toNat, position := n, expired := false
                 roundTimer := if r.d0 = 0 then none else some ⟨s.cellTime, r.d0.toNat⟩
                 inFlight := some ⟨q.list[n], .list, s.cellTime⟩, inRound := true }))))) ∧
  (∀ (r : Request) (s : State), onCell r s →
    let q := s.temp.seq
    exec (.seqStop r) s = .next (answered .cell { code := .ok, d0 := 0, d1 := 0, d2 := 0 }
      (if q.state = .running then
        if q.inFlight = none then
          s.setSeq { q with state := .stopped, position := 0, roundTimer := none, expired := false, inRound := false }
        else s.setSeq { q with state := .stopping, roundTimer := none, expired := false }
      else s))) ∧
  (∀ (r : Request) (s : State), deniedToArms (.convertOne r) r s ∧ (onCell r s →
    (16 ≤ r.sel.toNat → exec (.convertOne r) s = .next (refusedOnCell .badSelector s)) ∧
    ∀ i : Fin 16, i.val = r.sel.toNat →
      let q := s.temp.seq
      let took (d0 : Word) (q1 : Sequencer) : State :=
        answered .cell { code := .ok, d0 := d0, d1 := 0, d2 := 0 } (s.setSeq q1)
      let started : Sequencer := { q with inFlight := some ⟨i, .single, s.cellTime⟩ }
      exec (.convertOne r) s = .next (
        if (vget s.temp.sensors i).role = .unused then refusedOnCell .state s
        else if q.state = .stopped then took 0 { started with state := .single }
        else if q.state = .running ∧ q.inFlight = none then took 0 started
        else if q.state = .running ∧ q.pendingSingle = none then took 1 { q with pendingSingle := some i }
        else refusedOnCell .busy s)))

/-- The class of a converter code and its computed T, by the rows of Table 1.6 in order; the quotient is the nearest
integer, halves away from zero (R13 and Conventions). The completion of a conversion judges the sample: the ordinal
rises, aged failures leave the history, the code and class are recorded, and the state, Tf, runs, history and
left-valid time move by the state before it (R13 to R18). The other sensors keep their records. -/
def Obligations.CompletionClassifiesAndJudgesTheSample : Prop :=
  ((∀ num den : Int, 0 < den →
    2 * (num - roundDiv num den * den).natAbs ≤ den.natAbs ∧
    (2 * (num - roundDiv num den * den).natAbs = den.natAbs → num.natAbs < (roundDiv num den * den).natAbs)) ∧
  ∀ c0 k code : Half,
    let t := roundDiv (((code.toNat : Int) - (c0.toNat : Int)) * (k.toNat : Int)) 256
    (classify c0 k code).1 = (if 65000 ≤ code.toNat then .openLead else if code.toNat ≤ 500 then .short
      else if t < -20000 ∨ 60000 < t then .range else .good) ∧
    ((classify c0 k code).1 = .good → (classify c0 k code).2 = t ∧ -20000 ≤ t ∧ t ≤ 60000)) ∧
  (∀ (code : Half) (s : State) (c : Conversion), s.temp.seq.inFlight = some c → s.resetHeld = false →
    4 ≤ (s.cellTime - c.start).toNat →
    let x := vget s.temp.sensors c.sensor
    x.state ≠ .off →
    let good := (classify x.c0 x.k code).1 = .good
    let t := (classify x.c0 x.k code).2
    let d := s.temp.deglitch
    let seen : Sensor :=
      { x with ordinal := x.ordinal + 1, lastCode := code, lastClass := (classify x.c0 x.k code).1
               history := x.history.dropWhile fun e => 64 ≤ (x.ordinal + 1 - e).toNat }
    let failed (leftValid : Option Word) : Sensor :=
      { seen with history := seen.history ++ [seen.ordinal], nonGoodRun := 0, goodRun := 0, leftValid := leftValid
                  state := if 5 ≤ seen.history.length then .lockedOut else .failed }
    let filtered := x.tf + roundDiv (t - x.tf) (2 ^ x.n.toNat)
    let judged : Sensor :=
      match x.state with
      | .off => seen
      | .waiting =>
        if good then { seen with tf := t, nonGoodRun := 0, state := .valid }
        else if d ≤ x.nonGoodRun + 1 then failed x.leftValid else { seen with nonGoodRun := x.nonGoodRun + 1 }
      | .valid =>
        if good then { seen with tf := filtered }
        else if d ≤ 1 then failed (some s.cellTime)
        else { seen with state := .suspect, nonGoodRun := 1, leftValid := some s.cellTime }
      | .suspect =>
        if good then { seen with tf := filtered, nonGoodRun := 0, leftValid := none, state := .valid }
        else if d ≤ x.nonGoodRun + 1 then failed x.leftValid else { seen with nonGoodRun := x.nonGoodRun + 1 }
      | .failed =>
        if good then
          if d ≤ x.goodRun + 1 then
            { seen with tf := t, goodRun := 0, nonGoodRun := 0, leftValid := none, state := .valid }
          else { seen with goodRun := x.goodRun + 1 }
        else { seen with goodRun := 0 }
      | .lockedOut => seen
    ∃ u, exec (.conversionCompletion code) s = .next u ∧ vget u.temp.sensors c.sensor = judged ∧
      (∀ i : Fin 16, i ≠ c.sensor → vget u.temp.sensors i = vget s.temp.sensors i) ∧
      u.attn.cell.sensor =
        (if c.kind = .single ∨ (x.state ≠ judged.state ∧
            (judged.state = .failed ∨ judged.state = .lockedOut ∨ x.state = .failed)) then
          s.attn.cell.sensor.raise (addMark · c.sensor.val) else s.attn.cell.sensor) ∧
      unchangedBut [.sensors, .sequencer, .sensorSource] s u)

/-- What the sequencer does at the completion of a conversion: a pending single conversion starts before anything
else, a list conversion moves the position on or ends the round, and with no single pending the list goes on, the next
round starts or the sequencer stops (R8, R9, R10, R12). The position during a single conversion is that of the next
convertible entry (log entry 9). ROUND_TIMER_EXPIRY: with a conversion in flight or pending it sets the expired mark;
between rounds it starts the next round at the first convertible entry (R9). LEFT_VALID_TIME_EXPIRY: after 600,000 ms
the left-valid time of the sensor becomes absent (R19). An expiry before its time changes nothing (log entry 5). -/
def Obligations.CompletionAndTimersMoveTheSequencer : Prop :=
  (∀ (code : Half) (s : State) (c : Conversion), s.temp.seq.inFlight = some c → s.resetHeld = false →
    4 ≤ (s.cellTime - c.start).toNat → SequencerSound s.temp.seq →
    let q := s.temp.seq
    let used (i : Fin 16) : Bool := decide ((vget s.temp.sensors i).role ≠ .unused)
    let next (n : Nat) : Option Nat := (List.range q.list.length).find? fun m => decide (n ≤ m) && (q.list[m]?).any used
    let passed : Sequencer :=
      if c.kind = .single then { q with inFlight := none }
      else match next (q.position + 1) with
        | some n => { q with position := n, inFlight := none }
        | none => { q with position := 0, inRound := false, inFlight := none }
    let convert (n : Nat) (p : Sequencer) : Sequencer :=
      { p with position := n, inFlight := (q.list[n]?).map fun i => ⟨i, .list, s.cellTime⟩ }
    ∃ u, exec (.conversionCompletion code) s = .next u ∧
      (∀ i ∈ q.pendingSingle,
        u.temp.seq = { passed with pendingSingle := none, inFlight := some ⟨i, .single, s.cellTime⟩ }) ∧
      (q.pendingSingle = none →
        (q.state = .single → u.temp.seq = { passed with state := .stopped }) ∧
        (q.state = .stopping → u.temp.seq = { passed with state := .stopped, position := 0, roundTimer := none, expired := false, inRound := false }) ∧
        (q.state = .running → passed.inRound = true → ∀ n ∈ next passed.position, u.temp.seq = convert n passed) ∧
        (q.state = .running → passed.inRound = false →
          (q.expired = false → q.period ≠ 0 → u.temp.seq = passed) ∧
          (q.expired = true ∨ q.period = 0 → ∀ n ∈ next passed.position, u.temp.seq = convert n
            { passed with expired := false, inRound := true
                          roundTimer := if q.period = 0 then none else some ⟨s.cellTime, q.period⟩ })))) ∧
  (∀ (s : State) (i : Fin 16),
    let q := s.temp.seq
    let used (j : Fin 16) : Bool := decide ((vget s.temp.sensors j).role ≠ .unused)
    let out : Prop := s.resetHeld = false ∧ ∃ t ∈ q.roundTimer, t.duration ≤ (s.cellTime - t.start).toNat
    (¬ out → exec .roundTimerExpiry s = .next s) ∧
    (out → (q.inFlight.isSome = true ∨ q.pendingSingle.isSome = true) →
      exec .roundTimerExpiry s = .next (s.setSeq { q with roundTimer := none, expired := true })) ∧
    (out → q.inFlight = none → q.pendingSingle = none →
      ∀ n ∈ (List.range q.list.length).find? fun m => decide (q.position ≤ m) && (q.list[m]?).any used,
        exec .roundTimerExpiry s = .next (s.setSeq
          { q with expired := false, inRound := true, position := n
                   roundTimer := if q.period = 0 then none else some ⟨s.cellTime, q.period⟩
                   inFlight := (q.list[n]?).map fun j => ⟨j, .list, s.cellTime⟩ })) ∧
    exec (.leftValidTimeExpiry i) s = .next (
      if s.resetHeld = false ∧ ∃ t ∈ (vget s.temp.sensors i).leftValid, 600000 ≤ (s.cellTime - t).toNat then
        s.setSensor i { vget s.temp.sensors i with leftValid := none }
      else s))

/-- The group values of Table 1.8, from the VALID sensors of a role (R21). -/
def Obligations.GroupValuesAreOfValidSensors : Prop :=
  ∀ s : State,
    let valid (role : Role) (i : Fin 16) : Bool :=
      decide ((vget s.temp.sensors i).role = role ∧ (vget s.temp.sensors i).state = .valid)
    let tf (i : Fin 16) : Int := (vget s.temp.sensors i).tf
    let count (role : Role) : Nat := (Finset.univ.filter fun i => valid role i = true).card
    let mean (role : Role) : Option Int :=
      if count role = 0 then none else some (roundDiv (∑ i ∈ Finset.univ.filter (fun i => valid role i = true), tf i) (count role))
    workpieceMean s = mean .workpiece ∧ airMean s = mean .air ∧ workpieceCount s = count .workpiece ∧
    (workpieceSpread s = none ↔ count .workpiece = 0) ∧
    (∀ i j : Fin 16, valid .workpiece i → valid .workpiece j →
      (∀ k : Fin 16, valid .workpiece k → tf j ≤ tf k ∧ tf k ≤ tf i) → workpieceSpread s = some (tf i - tf j)) ∧
    (∀ i : Fin 16, valid .rack i → (∀ j : Fin 16, (vget s.temp.sensors j).role = .rack → j = i) →
      rackReading s = (some (tf i), .sensor)) ∧
    (count .rack = 0 → rackReading s = (mean .air, if count .air = 0 then .none else .air))

/-- READ_TEMP and READ_GROUPS answer with the values of Table 1.9 in the places of Table A.7, on every link, and
change nothing but what every accepted frame does (R23, R173). The absent kind of a conversion reads 0 (log entry 12).
READ_MODEL answers with the parts of Table 2.5 in the places of Table A.7, on every link (R40, R173). An absent
failing scale is written 255 (log entry 8). -/
def Obligations.TemperatureAndModelReadsShowTheirUnits : Prop :=
  (∀ (r : Request) (s : State), takesFrame r.link s = true → SensorsSound s → SequencerSound s.temp.seq →
    let replies (i : Instr) (code : ResultCode) (d0 d1 d2 : Word) : Prop :=
      exec i s = .next (answered r.link { code := code, d0 := d0, d1 := d1, d2 := d2 } (frameEnded r.link s))
    let q := s.temp.seq
    let entry (n : Nat) : Nat := (q.list[n]?).elim 255 Fin.val
    let entries (n : Nat) : Word := packed [(0, entry n), (8, entry (n + 1)), (16, entry (n + 2)), (24, entry (n + 3))]
    let signed (x : Option Int) : Word := x.elim 0x80000000#32 (BitVec.ofInt 32)
    (16 ≤ r.sel.toNat ∨ 2 < r.d0.toNat → replies (.readTemp r) .badSelector 0 0 0) ∧
    (∀ i : Fin 16, i.val = r.sel.toNat →
      let x := vget s.temp.sensors i
      let age (n : Nat) : Nat := (x.history[n]?).elim 0 fun e => (x.ordinal - e).toNat
      (r.d0 = 0 → replies (.readTemp r) .ok
        (packed [(0, x.lastCode.toNat), (16, x.state.num), (24, x.role.num), (28, x.lastClass.num)])
        (BitVec.ofInt 32 x.tf) x.ordinal) ∧
      (r.d0 = 1 → replies (.readTemp r) .ok (packed [(0, x.c0.toNat), (16, x.k.toNat)])
        (packed [(0, x.n.toNat), (8, x.nonGoodRun), (16, x.goodRun), (24, flag x.leftValid.isSome)])
        (x.leftValid.getD 0)) ∧
      (r.d0 = 2 → replies (.readTemp r) .ok (packed [(0, x.history.length), (8, age 0), (16, age 1), (24, age 2)])
        (packed [(0, age 3), (8, age 4), (16, age 5)]) 0)) ∧
    (5 < r.sel.toNat → replies (.readGroups r) .badSelector 0 0 0) ∧
    (r.sel = 0 → replies (.readGroups r) .ok (signed (workpieceMean s)) (signed (workpieceSpread s))
      (packed [(0, workpieceCount s)])) ∧
    (r.sel = 1 → replies (.readGroups r) .ok (signed (airMean s)) (signed (rackReading s).1)
      (packed [(0, (rackReading s).2.num)])) ∧
    (r.sel = 2 → replies (.readGroups r) .ok (packed [(0, q.state.num), (8, q.list.length), (16, q.position)])
      (packed [(0, q.inFlight.elim 255 fun c => c.sensor.val), (8, q.inFlight.elim 0 fun c => c.kind.num),
        (16, q.pendingSingle.elim 255 Fin.val)]) (packed [(0, q.period)])) ∧
    (r.sel = 3 → replies (.readGroups r) .ok (packed [(0, s.temp.hold)]) (packed [(0, s.temp.spreadLimit)])
      (packed [(0, s.temp.deglitch)])) ∧
    (r.sel = 4 → replies (.readGroups r) .ok (entries 0) (entries 4) (entries 8)) ∧
    (r.sel = 5 → replies (.readGroups r) .ok (entries 12) (entries 16) (entries 20))) ∧
  (∀ (r : Request) (s : State), takesFrame r.link s = true →
    let replies (code : ResultCode) (d0 d1 d2 : Word) : Prop := exec (.readModel r) s =
      .next (answered r.link { code := code, d0 := d0, d1 := d1, d2 := d2 } (frameEnded r.link s))
    let m := s.model
    let activeWord (n : Nat) : Word := m.active.elim 0 fun im => imageWord im n
    let emptyMark : Nat := if m.active = none then 1 else 0
    (2 < r.sel.toNat → replies .badSelector 0 0 0) ∧
    (r.sel = 0 → replies .ok (activeWord 0) (packed [(0, flag m.check.isSome), (8, emptyMark)])
      (packed [(0, m.last.result.num), (8, m.last.failingScale.elim 255 Fin.val), (16, flag m.last.computed.isSome)])) ∧
    (r.sel = 1 → replies .ok (m.last.expected.getD 0) (m.last.computed.getD 0) m.commitCount) ∧
    (r.sel = 2 → 229 < r.d0.toNat → replies .outOfRange 0 0 0) ∧
    (r.sel = 2 → ∀ i : Fin 230, i.val = r.d0.toNat →
      replies .ok (vget m.staging i) (activeWord i.val) (packed [(0, emptyMark)])))

/-! ### The model store -/

/-- MODEL_LOAD by Table 2.3 with the ranges of Table 2.2, and MODEL_REVERT and MODEL_CHECK, refused BUSY while a check
is in flight (R28, R29, R30). -/
def Obligations.StagingIsWrittenThroughItsChecks : Prop :=
  ∀ (r : Request) (s : State), deniedToArms (.modelLoad r) r s ∧ deniedToArms (.modelRevert r) r s ∧ (onCell r s →
    let first := r.sel.toNat
    let count := r.d0.toNat
    let fits (n : Nat) (w : Word) : Bool := decide (
      n = 0 ∨ (n = 1 ∧ w.toNat ≤ 30000) ∨ ∃ j : Fin 6, ∃ k : Fin 38, n = 2 + 38 * j.val + k.val ∧
        ((k.val = 0 ∧ w.toNat ≤ 30000) ∨
         (k.val = 1 ∧ w.toNat % 256 ≤ 15 ∧ (w.toNat / 256 ≤ 15 ∨ w.toNat / 256 = 255)) ∨
         (k.val = 2 ∧ -2000000000 ≤ w.toInt ∧ w.toInt ≤ 2000000000) ∨
         (k.val = 3 ∧ 1 ≤ w.toNat ∧ w.toNat ≤ 100000000) ∨ (k.val = 4 ∧ 2 ≤ w.toNat ∧ w.toNat ≤ 33) ∨
         (5 ≤ k.val ∧ -32767 ≤ w.toInt ∧ w.toInt ≤ 32767)))
    let refusal : Option ResultCode :=
      if s.model.check.isSome then some .busy
      else if 229 < first ∨ (count = 2 ∧ 228 < first) then some .badSelector
      else if count ≠ 1 ∧ count ≠ 2 then some .outOfRange
      else if fits first r.d1 = false ∨ (count = 2 ∧ fits (first + 1) r.d2 = false) then some .outOfRange
      else none
    (∀ code ∈ refusal, exec (.modelLoad r) s = .next (refusedOnCell code s)) ∧
    (refusal = none → exec (.modelLoad r) s = .next (answered .cell { code := .ok, d0 := 0, d1 := 0, d2 := 0 }
      { s with model := { s.model with staging := Vector.ofFn fun i =>
          if i.val = first then r.d1 else if count = 2 ∧ i.val = first + 1 then r.d2 else vget s.model.staging i } })) ∧
    exec (.modelRevert r) s = .next (
      if s.model.check.isSome then refusedOnCell .busy s
      else answered .cell { code := .ok, d0 := 0, d1 := 0, d2 := 0 }
        { s with model := { s.model with staging := s.model.active.getD (Vector.replicate 230 0) } }) ∧
    exec (.modelCheck r) s = .next (
      if s.model.check.isSome then refusedOnCell .busy s
      else answered .cell { code := .ok, d0 := 0, d1 := 0, d2 := 0 }
        { s with model := { s.model with check := some ⟨r.d0, s.cellTime⟩ } }))

/-- The completion of a check makes the four tests in order, NODES, SPAN, ASSIGN and CRC, each at the scales in order;
a check that passes all copies STAGING into ACTIVE and counts a commit, one that fails changes neither, and either
raises MODEL attention with the result (R32 to R37, R39). The CRC-32 of the model check, byte by byte, and its value
over the characters 1 to 9 (R35). -/
def Obligations.ModelCheckCommitsOnlyAPassedImage : Prop :=
  (∀ (s : State) (c : RunningCheck), s.model.check = some c → s.resetHeld = false → 2 ≤ (s.cellTime - c.start).toNat →
    let im := s.model.staging
    let word (j : Fin 6) (k : Nat) : Word := imageWord im (2 + 38 * j.val + k)
    let nodes (j : Fin 6) : Prop := 2 ≤ (word j 4).toNat ∧ (word j 4).toNat ≤ 33 ∧
      ∀ i : Fin 33, (word j 4).toNat ≤ i.val → word j (5 + i.val) = 0
    let span (j : Fin 6) : Prop := 1 ≤ (word j 3).toNat ∧ (word j 3).toNat ≤ 100000000 ∧
      (word j 2).toInt + ((word j 4).toNat - 1 : Int) * (word j 3).toNat ≤ 2000000000
    let scaleSensor (n : Nat) : Prop := ∃ i : Fin 16, i.val = n ∧ (vget s.temp.sensors i).role = .scale
    let assign (j : Fin 6) : Prop := scaleSensor ((word j 1).toNat % 256) ∧
      ((word j 1).toNat / 256 % 256 = 255 ∨ scaleSensor ((word j 1).toNat / 256 % 256))
    let crc := crc32 (im.toList.flatMap fun w =>
      [w.extractLsb' 0 8, w.extractLsb' 8 8, w.extractLsb' 16 8, w.extractLsb' 24 8])
    let completed (m : ModelStore) (result : CheckResult) : Prop :=
      exec .modelCheckCompletion s = .next { s with
        model := m, attn := { s.attn with cell := { s.attn.cell with
          model := if s.attn.cell.model.enable then
              { s.attn.cell.model with pending := true, detail := some result } else s.attn.cell.model } } }
    let failedAt (result : CheckResult) (j : Fin 6) : Prop :=
      completed { s.model with check := none, last := ⟨result, some j, some c.expected, none⟩ } result
    (∀ j : Fin 6, ¬ nodes j → (∀ i < j, nodes i) → failedAt .nodes j) ∧
    ((∀ i, nodes i) → ∀ j : Fin 6, ¬ span j → (∀ i < j, span i) → failedAt .span j) ∧
    ((∀ i, nodes i) → (∀ i, span i) → ∀ j : Fin 6, ¬ assign j → (∀ i < j, assign i) → failedAt .assign j) ∧
    ((∀ i, nodes i) → (∀ i, span i) → (∀ i, assign i) → crc ≠ c.expected →
      completed { s.model with check := none, last := ⟨.crc, none, some c.expected, some crc⟩ } .crc) ∧
    ((∀ i, nodes i) → (∀ i, span i) → (∀ i, assign i) → crc = c.expected →
      completed { s.model with check := none, last := ⟨.passed, none, some c.expected, some crc⟩, active := some im
                               commitCount := s.model.commitCount + 1 } .passed)) ∧
  (crc32 [0x31, 0x32, 0x33, 0x34, 0x35, 0x36, 0x37, 0x38, 0x39] = 0xCBF43926#32 ∧
  (∀ (bytes : List Byte) (b : Byte), crc32 (bytes ++ [b]) ^^^ 0xFFFFFFFF#32 =
    Nat.repeat (fun reg : Word => (reg >>> 1) ^^^ (if reg.getLsbD 0 then 0xEDB88320#32 else 0#32)) 8
      ((crc32 bytes ^^^ 0xFFFFFFFF#32) ^^^ b.setWidth 32)) ∧
  crc32 [] = 0#32 ∧
  -- a single wrong bit is always seen
  ∀ (bytes : List Byte) (n : Nat) (k : Fin 8), (h : n < bytes.length) →
    crc32 (bytes.set n (bytes[n] ^^^ (1#8 <<< k.val))) ≠ crc32 bytes)

/-! ### Compensation -/

/-- The scale temperature by the steps of Table 3.2, with the hold test, and the workpiece temperature by those of
Table 3.3 (R43, R44, R45). -/
def Obligations.TemperatureChainsTakeTheFirstStep : Prop :=
  ∀ (s : State) (im : Image) (j : Fin 6) (i : Fin 16),
    i.val = (imageWord im (38 * j.val + 3)).toNat % 256 →
    let second := (imageWord im (38 * j.val + 3)).toNat / 256 % 256
    let x := vget s.temp.sensors i
    let holds : Prop := (x.state = .suspect ∨ x.state = .failed) ∧
      ∃ t ∈ x.leftValid, (s.cellTime - t).toNat < s.temp.hold * 1000
    (x.state = .valid → scaleTemperature s im j = ⟨some x.tf, .full⟩) ∧
    (holds → scaleTemperature s im j = ⟨some x.tf, .held⟩) ∧
    (x.state ≠ .valid → ¬ holds →
      (∀ k : Fin 16, k.val = second → (vget s.temp.sensors k).state = .valid →
        scaleTemperature s im j = ⟨some (vget s.temp.sensors k).tf, .substituted⟩) ∧
      ((∀ k : Fin 16, k.val = second → (vget s.temp.sensors k).state ≠ .valid) →
        scaleTemperature s im j =
          (airMean s).elim ⟨none, .none⟩ fun t => ⟨some t, .substituted⟩)) ∧
    workpieceTemperature s = (workpieceMean s).elim
      ((airMean s).elim ⟨none, .none⟩ fun t => ⟨some t, .substituted⟩) fun t => ⟨some t, .full⟩

/-- The geometric term: the end nodes beyond the mapped travel, and between two nodes the rounded interpolation (R50).
The corrected value, quality and SAT flag of one axis: the raw word clamped, the thermal term formed exactly and
rounded, the geometric term of the clamped word, and the sum saturated; while ACTIVE is EMPTY the clamped word with
quality NONE (R42, R46, R47, R48, R49, R51). -/
def Obligations.AxesAreCorrectedByTheModel : Prop :=
  (∀ (im : Image) (j : Fin 6) (p : Int),
    let x0 := (imageWord im (38 * j.val + 4)).toInt
    let d : Int := (imageWord im (38 * j.val + 5)).toNat
    let n := (imageWord im (38 * j.val + 6)).toNat
    let node (i : Nat) : Int := (imageWord im (38 * j.val + 7 + i)).toInt
    1 ≤ d → 2 ≤ n →
    (p < x0 → geometricTerm im j p = node 0) ∧
    (x0 + (n - 1) * d ≤ p → geometricTerm im j p = node (n - 1)) ∧
    (∀ (i : Nat) (f : Int), i + 1 < n → 0 ≤ f → f < d → p = x0 + i * d + f →
      geometricTerm im j p = node i + roundDiv ((node (i + 1) - node i) * f) d)) ∧
  (∀ (s : State) (j : Fin 6) (raw : Int),
    let bound (x : Int) : Int := max (-2000000000) (min 2000000000 x)
    let p := bound raw
    let tw := workpieceTemperature s
    (s.model.active = none → correctAxis s tw j raw = ⟨p, .none, decide (p ≠ raw)⟩) ∧
    (∀ im ∈ s.model.active,
      let ts := scaleTemperature s im j
      let alphaS : Int := (imageWord im (38 * j.val + 2)).toNat
      let alphaW : Int := (imageWord im 1).toNat
      let c : Int := match ts.value, tw.value with
        | some a, some b => roundDiv (p * (alphaS * (a - 20000) - alphaW * (b - 20000))) (10 ^ 12)
        | _, _ => 0
      let sum := p + c + geometricTerm im j p
      let got := correctAxis s tw j raw
      got.value = bound sum ∧ got.sat = decide (p ≠ raw ∨ bound sum ≠ sum) ∧
        (got.quality = ts.quality ∨ got.quality = tw.quality) ∧
        ts.quality.rank ≤ got.quality.rank ∧ tw.quality.rank ≤ got.quality.rank))

/-- The arithmetic keeps the bounds of the device: the thermal correction, the geometric correction and every
corrected coordinate (R52, with the ranges of R24). -/
def Obligations.CorrectionsKeepTheirBounds : Prop :=
  ∀ (s : State) (im : Image) (j : Fin 6) (raw : Int), ModelSound s → SensorsSound s → s.model.active = some im →
    let p := clampCount raw
    let c := thermalTerm (scaleAlpha im j) (workpieceAlpha im) p (scaleTemperature s im j).value
      (workpieceTemperature s).value
    10000 * c.natAbs ≤ 24 * p.natAbs + 5000 ∧ (geometricTerm im j p).natAbs ≤ 32767 ∧
      (correctAxis s (workpieceTemperature s) j raw).value.natAbs ≤ 2000000000

/-- POSITION on an arm link, in every state: the three axes compensated with the arm's scales, the last position
record written whole, COMP attention when the worst quality differs from that of the record replaced, the guard record
formed with its needed set and verdict, GUARD, COMP_LOST and OVERDUE brought up to date, the report timer restarted
unless the arm is DISABLED, and the corrected coordinates answered (R53 to R57, R76 to R79, R86, R97). -/
def Obligations.PositionIsReportedAndJudged : Prop :=
  ∀ (arm : Arm) (r : Request) (s : State), onArm arm r s →
    let l := linkOf arm
    let tw : Temperature := if s.model.active = none then ⟨none, .none⟩ else workpieceTemperature s
    let first : Nat := match arm with | .a => 0 | .b => 3
    let x := correctAxis s tw (Fin.ofNat 6 first) r.d0.toInt
    let y := correctAxis s tw (Fin.ofNat 6 (first + 1)) r.d1.toInt
    let z := correctAxis s tw (Fin.ofNat 6 (first + 2)) r.d2.toInt
    let lost : Bool := decide (x.quality = .none ∨ y.quality = .none ∨ z.quality = .none)
    let set := (s.sup.get arm).settings
    let tips := ((headRecord s arm).map Probe.tips).getD []
    let px : Int := (tips.map fun t => t.x.natAbs).foldl max 0
    let py : Int := (tips.map fun t => t.y).foldl max 0
    let margin : Int := if x.quality = .none ∨ y.quality = .none then set.margin else 0
    let lower := x.value - set.halfWidth - px - margin
    let upper := x.value + set.halfWidth + px + margin
    let intruding := decide (y.value + py + margin > set.freeReach)
    let needs (n : Fin 16) : Bool := decide ((zoneAt s n).defined = true ∧ (zoneAt s n).lower ≤ upper ∧
      lower < (zoneAt s n).upper ∧ (intruding = true ∨ (zoneAt s n).kind = .rack))
    let violated := decide (∃ n : Fin 16, needs n = true ∧ (zoneAt s n).holder ≠ some arm)
    ∃ t, exec (.position r) s = .next t ∧ ∃ worst : Quality,
      (worst = x.quality ∨ worst = y.quality ∨ worst = z.quality) ∧
      x.quality.rank ≤ worst.rank ∧ y.quality.rank ≤ worst.rank ∧ z.quality.rank ≤ worst.rank ∧
      t.lastPos.get arm = some
        { corrected := ⟨x.value, y.value, z.value⟩, quality := ⟨x.quality, y.quality, z.quality⟩
          sat := ⟨x.sat, y.sat, z.sat⟩, worst := worst, tw := tw.value, twQuality := tw.quality
          tag := s.model.active.map fun im => imageWord im 0, time := s.cellTime } ∧
      (∃ g ∈ t.zones.guards.get arm, g.lower = lower ∧ g.upper = upper ∧ g.intruding = intruding ∧
        g.margin = decide (x.quality = .none ∨ y.quality = .none) ∧ g.violated = violated ∧
        ∀ n : Fin 16, g.needed.getLsbD n.val = needs n) ∧
      (t.sup.get arm).present = { (s.sup.get arm).present with
        guard := violated, compLost := lost, overdue := false, link := false } ∧
      ((s.sup.get arm).state ≠ .disabled → (t.sup.get arm).reportTimer =
        some ⟨s.cellTime, [5, 10, 20, 50, 100, 200, 500, 1000].getD set.timeoutCode.toNat 0⟩) ∧
      (t.attn.arms.get arm).comp =
        (if (s.lastPos.get arm).map PosRecord.worst = some worst then (s.attn.arms.get arm).comp
         else (s.attn.arms.get arm).comp.raise fun _ => some worst) ∧
      t.ports.get l = answeredPort
        { code := .ok, d0 := BitVec.ofInt 32 x.value, d1 := BitVec.ofInt 32 y.value, d2 := BitVec.ofInt 32 z.value } ∧
      unchangedBut [.port l, .lastPos arm, .guard arm, .supervisor arm, .faultSource, .permitSource arm,
        .compSource arm] s t

/-! ### Zones and claims -/

/-- ZONE_DEFINE: the checks of Table 4.2 in order, the record written, and the needed set and verdict of each arm with
a guard record brought up to date from its stored envelope (R62, R63, R78, R79). -/
def Obligations.ZoneDefineWritesTheTable : Prop :=
  ∀ (r : Request) (s : State), deniedToArms (.zoneDefine r) r s ∧ (onCell r s →
    (16 ≤ r.sel.toNat → exec (.zoneDefine r) s = .next (refusedOnCell .badSelector s)) ∧
    ∀ z : Fin 16, z.val = r.sel.toNat →
      let lower := r.d0.toInt
      let upper := r.d1.toInt
      let refusal : Option ResultCode :=
        if s.sup.a.state ≠ .disabled ∨ s.sup.b.state ≠ .disabled then some .state
        else if ∃ i : Fin 16, (zoneAt s i).holder ≠ none then some .inUse
        else if 2 < r.d2.toNat then some .outOfRange
        else if r.d2 ≠ 0 ∧ (lower < -2000000000 ∨ 2000000000 < lower ∨ upper < -2000000000 ∨ 2000000000 < upper ∨
            upper ≤ lower) then some .outOfRange
        else if r.d2 ≠ 0 ∧ ∃ i : Fin 16, (i ≠ z ∧ (zoneAt s i).defined = true) ∧ lower < (zoneAt s i).upper ∧
            (zoneAt s i).lower < upper then some .outOfRange
        else if r.d2 = 2 ∧ ∃ i : Fin 16, (i ≠ z ∧ (zoneAt s i).defined = true) ∧ (zoneAt s i).kind = .rack then
          some .outOfRange
        else none
      (∀ code ∈ refusal, exec (.zoneDefine r) s = .next (refusedOnCell code s)) ∧
      (refusal = none → ∃ t, exec (.zoneDefine r) s = .next t ∧
        zoneAt t z = { zoneAt s z with
          defined := decide (r.d2 ≠ 0), lower := if r.d2 = 0 then 0 else lower
          upper := if r.d2 = 0 then 0 else upper, kind := if r.d2 = 2 then .rack else .body } ∧
        (∀ i : Fin 16, i ≠ z → zoneAt t i = zoneAt s i) ∧
        (∀ arm : Arm,
          (s.zones.guards.get arm = none → t.zones.guards.get arm = none ∧
            (t.sup.get arm).present = { (s.sup.get arm).present with guard := false }) ∧
          (∀ g ∈ s.zones.guards.get arm, ∃ h ∈ t.zones.guards.get arm,
            h = { g with needed := h.needed, violated := h.violated } ∧
            (∀ i : Fin 16, h.needed.getLsbD i.val = decide ((zoneAt t i).defined = true ∧
              (zoneAt t i).lower ≤ g.upper ∧ g.lower < (zoneAt t i).upper ∧
              (g.intruding = true ∨ (zoneAt t i).kind = .rack))) ∧
            (h.violated = true ↔ ∃ i : Fin 16, h.needed.getLsbD i.val = true ∧ (zoneAt t i).holder ≠ some arm) ∧
            (t.sup.get arm).present = { (s.sup.get arm).present with guard := h.violated })) ∧
        t.ports.get .cell = answeredPort { code := .ok, d0 := 0, d1 := 0, d2 := 0 } ∧
        unchangedBut [.port .cell, .zoneTable, .guard .a, .guard .b, .supervisor .a, .supervisor .b, .faultSource] s t))

/-- CLAIM: refused with the sets of R69, granted at once with the verdict judged again, refused CONFLICT behind the
other arm's pending claim, or left PENDING with its waiter marks (R66 to R69). A range that the claimant holds whole
is granted also where the other arm waits on a zone of it (DEDUCED, log entry 23). CLAIM_WITHDRAW, in every state: the
arm's pending claim is removed with all its waiter marks, and nothing is freed or granted (R65, R69, R71). -/
def Obligations.ClaimsAreGrantedWaitOrAreWithdrawn : Prop :=
  (∀ (arm : Arm) (r : Request) (s : State), onArm arm r s →
    let l := linkOf arm
    let first := r.sel.toNat
    let count := r.d0.toNat
    let inRange (z : Fin 16) : Prop := first ≤ z.val ∧ z.val < first + count
    let held (owner : Arm) (u : State) : Word := packed [(0, setNum fun z => decide ((zoneAt u z).holder = some owner))]
    let words (code : ResultCode) (u : State) : Reply :=
      { code := code, d0 := held arm u, d1 := held (otherArm arm) u, d2 := 0 }
    let refusal : Option ResultCode :=
      if (s.sup.get arm).state = .disabled then some .state
      else if count < 1 ∨ 16 < count ∨ 16 < first + count ∨
          ∃ z : Fin 16, (first ≤ z.val ∧ z.val < first + count) ∧ (zoneAt s z).defined = false then some .badSelector
      else if (s.zones.claims.get arm).isSome then some .busy
      else if (∃ z : Fin 16, (first ≤ z.val ∧ z.val < first + count) ∧ (zoneAt s z).holder ≠ some arm) ∧
          (∃ z : Fin 16, (first ≤ z.val ∧ z.val < first + count) ∧ ((zoneAt s z).holder = some (otherArm arm) ∨
            (zoneAt s z).waiter = some (otherArm arm))) ∧ (s.zones.claims.get (otherArm arm)).isSome then some .conflict
      else none
    let free : Prop := (∀ z : Fin 16, inRange z → (zoneAt s z).holder = some arm) ∨ ∀ z : Fin 16, inRange z →
      (zoneAt s z).holder ≠ some (otherArm arm) ∧ (zoneAt s z).waiter ≠ some (otherArm arm)
    (∀ code ∈ refusal, exec (.claim r) s = .next (answered l (words code s) (frameEnded l s))) ∧
    (refusal = none → free → ∃ t, exec (.claim r) s = .next t ∧ t.ports.get l = answeredPort (words .granted t) ∧
      (∀ z : Fin 16, (inRange z → zoneAt t z = { zoneAt s z with holder := some arm }) ∧
        (¬ inRange z → zoneAt t z = zoneAt s z)) ∧
      (s.zones.guards.get arm = none → t.zones.guards.get arm = none ∧
        (t.sup.get arm).present = { (s.sup.get arm).present with guard := false, link := false }) ∧
      (∀ g ∈ s.zones.guards.get arm, ∃ v : Bool, t.zones.guards.get arm = some { g with violated := v } ∧
        (v = true ↔ ∃ z : Fin 16, g.needed.getLsbD z.val = true ∧ (zoneAt t z).holder ≠ some arm) ∧
        (t.sup.get arm).present = { (s.sup.get arm).present with guard := v, link := false }) ∧
      unchangedBut [.port l, .zoneTable, .guard arm, .supervisor arm, .faultSource, .permitSource arm] s t) ∧
    (refusal = none → ¬ free → ∃ t, exec (.claim r) s = .next t ∧ t.ports.get l = answeredPort (words .pending s) ∧
      t.zones.claims.get arm = some ⟨first, count⟩ ∧
      (∀ z : Fin 16, (inRange z → (zoneAt s z).holder ≠ some arm →
          zoneAt t z = { zoneAt s z with waiter := some arm }) ∧
        (¬ inRange z ∨ (zoneAt s z).holder = some arm → zoneAt t z = zoneAt s z)) ∧
      t.sup.get arm = (frameEnded l s).sup.get arm ∧
      unchangedBut [.port l, .zoneTable, .claim arm, .supervisor arm, .permitSource arm] s t)) ∧
  (∀ (arm : Arm) (r : Request) (s : State), onArm arm r s →
    let l := linkOf arm
    let held (owner : Arm) : Word := packed [(0, setNum fun z => decide ((zoneAt s z).holder = some owner))]
    ∃ t, exec (.claimWithdraw r) s = .next t ∧
      t.ports.get l = answeredPort { code := .ok, d0 := held arm, d1 := held (otherArm arm), d2 := 0 } ∧
      t.zones.claims.get arm = none ∧
      (∀ z : Fin 16, zoneAt t z = if (s.zones.claims.get arm).isSome ∧ (zoneAt s z).waiter = some arm then
        { zoneAt s z with waiter := none } else zoneAt s z) ∧
      t.sup.get arm = (frameEnded l s).sup.get arm ∧
      unchangedBut [.port l, .zoneTable, .claim arm, .supervisor arm, .permitSource arm] s t)

/-- RELEASE: refused by its four checks, or every zone of the range freed, its own verdict unmoved, and the other
arm's pending claim granted whole if nothing stands in its way any more, with CLAIM attention (R69, R70, R73). -/
def Obligations.ReleaseFreesAndReevaluates : Prop :=
  ∀ (arm : Arm) (r : Request) (s : State), onArm arm r s → ZonesSound s →
    let l := linkOf arm
    let other := otherArm arm
    let first := r.sel.toNat
    let count := r.d0.toNat
    let held (owner : Arm) (u : State) : Word := packed [(0, setNum fun z => decide ((zoneAt u z).holder = some owner))]
    let words (code : ResultCode) (u : State) : Reply :=
      { code := code, d0 := held arm u, d1 := held other u, d2 := 0 }
    let refusal : Option ResultCode :=
      if count < 1 ∨ 16 < count ∨ 16 < first + count ∨
          ∃ z : Fin 16, (first ≤ z.val ∧ z.val < first + count) ∧ (zoneAt s z).defined = false then some .badSelector
      else if ∃ z : Fin 16, (first ≤ z.val ∧ z.val < first + count) ∧ (zoneAt s z).holder ≠ some arm then some .notHeld
      else if ∃ z : Fin 16, (first ≤ z.val ∧ z.val < first + count) ∧
          ∃ g ∈ s.zones.guards.get arm, g.needed.getLsbD z.val = true then some .inUse
      else if (s.rack.changes.get arm).phase ≠ .idle ∧
          ∃ z : Fin 16, (first ≤ z.val ∧ z.val < first + count) ∧ (zoneAt s z).kind = .rack then some .inUse
      else none
    let freed (z : Fin 16) : Option Arm := if first ≤ z.val ∧ z.val < first + count then none else (zoneAt s z).holder
    (∀ code ∈ refusal, exec (.release r) s = .next (answered l (words code s) (frameEnded l s))) ∧
    (refusal = none → ∃ t, exec (.release r) s = .next t ∧ t.ports.get l = answeredPort (words .ok t) ∧
      (s.zones.claims.get arm = none → t.sup.get arm = (frameEnded l s).sup.get arm) ∧
      (∀ c ∈ s.zones.claims.get other,
        ((∀ z : Fin 16, c.covers z = true → freed z ≠ some arm) →
          t.zones.claims.get other = none ∧
          (∀ z : Fin 16, (zoneAt t z).holder = (if c.covers z then some other else freed z) ∧
            (zoneAt t z).waiter = none) ∧
          (t.attn.arms.get other).claim = (s.attn.arms.get other).claim.raise (fun _ => some c) ∧
          (∀ g ∈ s.zones.guards.get other, ∃ v : Bool, t.zones.guards.get other = some { g with violated := v } ∧
            (v = true ↔ ∃ z : Fin 16, g.needed.getLsbD z.val = true ∧ (zoneAt t z).holder ≠ some other) ∧
            (t.sup.get other).present = { (s.sup.get other).present with guard := v })) ∧
        ((∃ z : Fin 16, c.covers z = true ∧ freed z = some arm) →
          t.zones.claims.get other = some c ∧ t.sup.get other = s.sup.get other ∧
          t.zones.guards.get other = s.zones.guards.get other ∧
          (t.attn.arms.get other).claim = (s.attn.arms.get other).claim ∧
          ∀ z : Fin 16, (zoneAt t z).holder = freed z ∧ (zoneAt t z).waiter = (zoneAt s z).waiter)) ∧
      (∀ c ∈ s.zones.claims.get arm, (∀ z : Fin 16, c.covers z = true → freed z ≠ some other) →
        t.zones.claims.get arm = none ∧ ∀ z : Fin 16, c.covers z = true → (zoneAt t z).holder = some arm) ∧
      (∀ c ∈ s.zones.claims.get arm, (∃ z : Fin 16, c.covers z = true ∧ freed z = some other) →
        t.zones.claims.get arm = some c ∧ ∀ z : Fin 16, (zoneAt t z).holder = freed z ∧
          (c.covers z = true → freed z ≠ some arm → (zoneAt t z).waiter = some arm)) ∧
      (s.zones.claims.get other = none → s.zones.claims.get arm = none →
        ∀ z : Fin 16, zoneAt t z = { zoneAt s z with holder := freed z }) ∧
      unchangedBut [.port l, .zoneTable, .claim .a, .claim .b, .guard .a, .guard .b, .supervisor .a, .supervisor .b,
        .faultSource, .permitSource .a, .permitSource .b, .claimSource .a, .claimSource .b] s t)

/-- ZONE_FREE frees every zone of a DISABLED arm whose change is closed, answers with the set freed, and judges the
freed arm's verdict against its empty holdings (R70, R74, R79). -/
def Obligations.ZoneFreeFreesADisabledArm : Prop :=
  ∀ (r : Request) (s : State), deniedToArms (.zoneFree r) r s ∧ (onCell r s → ZonesSound s →
    (2 ≤ r.sel.toNat → exec (.zoneFree r) s = .next (refusedOnCell .badSelector s)) ∧
    ∀ arm : Arm, armIndex arm = r.sel.toNat →
      ((s.sup.get arm).state ≠ .disabled → exec (.zoneFree r) s = .next (refusedOnCell .state s)) ∧
      ((s.sup.get arm).state = .disabled → (s.rack.changes.get arm).phase ≠ .idle →
        exec (.zoneFree r) s = .next (refusedOnCell .inUse s)) ∧
      ((s.sup.get arm).state = .disabled → (s.rack.changes.get arm).phase = .idle →
        ∃ t, exec (.zoneFree r) s = .next t ∧
          t.ports.get .cell = answeredPort
            { code := .ok, d0 := packed [(0, setNum fun z => decide ((zoneAt s z).holder = some arm))], d1 := 0, d2 := 0 } ∧
          (∀ z : Fin 16, (zoneAt t z).holder ≠ some arm) ∧
          (∀ z : Fin 16, (zoneAt s z).holder = some (otherArm arm) → (zoneAt t z).holder = some (otherArm arm)) ∧
          (∀ c ∈ s.zones.claims.get (otherArm arm), (∃ z : Fin 16, (zoneAt s z).holder = some arm) →
            t.zones.claims.get (otherArm arm) = none ∧
            (∀ z : Fin 16, c.covers z = true → (zoneAt t z).holder = some (otherArm arm)) ∧
            (t.attn.arms.get (otherArm arm)).claim =
              (s.attn.arms.get (otherArm arm)).claim.raise (fun _ => some c)) ∧
          (s.zones.claims.get (otherArm arm) = none →
            ∀ z : Fin 16, zoneAt t z = { zoneAt s z with
              holder := if (zoneAt s z).holder = some arm then none else (zoneAt s z).holder }) ∧
          (∀ g ∈ s.zones.guards.get arm, ∃ v : Bool, t.zones.guards.get arm = some { g with violated := v } ∧
            (v = true ↔ ∃ z : Fin 16, g.needed.getLsbD z.val = true) ∧
            (t.sup.get arm).present = { (s.sup.get arm).present with guard := v }) ∧
          unchangedBut [.port .cell, .zoneTable, .claim (otherArm arm), .guard .a, .guard .b, .supervisor .a,
            .supervisor .b, .faultSource, .permitSource (otherArm arm), .claimSource (otherArm arm)] s t))

/-- READ_ZONE answers with the zone records, the summary and the guard records in the places of Table A.7, on every
link (R80, R173). Both envelope bounds of an absent guard record read as an absent signed count; that its needed set
and its flags read 0 is DEDUCED (log entry 12). READ_ARM answers with the parts of Table 5.7 in the places of Table
A.7, on every link, as they stand after the frame that carries it (R102, R173). The report time, tag and qualities of
an absent record are free values (log entry 7). -/
def Obligations.ZoneAndArmReadsShowTheirRecords : Prop :=
  (∀ (r : Request) (s : State), takesFrame r.link s = true → ZonesSound s →
    let replies (d0 d1 d2 : Word) : Prop := exec (.readZone r) s =
      .next (answered r.link { code := .ok, d0 := d0, d1 := d1, d2 := d2 } (frameEnded r.link s))
    let arm01 (a : Option Arm) : Nat := match a with | none => 0 | some .a => 1 | some .b => 2
    let zset (p : Fin 16 → Bool) : Nat := setNum p
    let clamp (x : Int) : Word := BitVec.ofInt 32 (if x < -2147483648 then -2147483648 else if 2147483647 < x then 2147483647 else x)
    (18 < r.sel.toNat → exec (.readZone r) s = .next (answered r.link (Reply.zeros .badSelector) (frameEnded r.link s))) ∧
    (∀ z : Fin 16, z.val = r.sel.toNat →
      replies (packed [(0, flag (zoneAt s z).defined), (8, if (zoneAt s z).kind = .rack then 1 else 0),
          (16, arm01 (zoneAt s z).holder), (24, arm01 (zoneAt s z).waiter)])
        (BitVec.ofInt 32 (zoneAt s z).lower) (BitVec.ofInt 32 (zoneAt s z).upper)) ∧
    (r.sel.toNat = 16 →
      ∀ rack : Nat, (∀ z : Fin 16, (zoneAt s z).defined = true → (zoneAt s z).kind = .rack → rack = z.val) →
        ((∀ z : Fin 16, (zoneAt s z).defined = true → (zoneAt s z).kind = .body) → rack = 255) →
        replies (packed [(0, zset fun z => (zoneAt s z).defined), (16, rack)])
          (packed [(0, zset fun z => decide ((zoneAt s z).holder = some .a)),
            (16, zset fun z => decide ((zoneAt s z).holder = some .b))])
          (packed [(0, s.zones.claims.a.elim 255 Claim.first), (8, s.zones.claims.a.elim 0 Claim.count),
            (16, s.zones.claims.b.elim 255 Claim.first), (24, s.zones.claims.b.elim 0 Claim.count)])) ∧
    (∀ arm : Arm, r.sel.toNat = 17 + armIndex arm →
      (∀ g ∈ s.zones.guards.get arm, replies
        (packed [(0, g.needed.toNat), (16, 1), (24, flag g.violated), (25, flag g.intruding), (26, flag g.margin)])
        (clamp g.lower) (clamp g.upper)) ∧
      (s.zones.guards.get arm = none → replies 0 0x80000000#32 0x80000000#32))) ∧
  (∀ (r : Request) (s : State), takesFrame r.link s = true → ZonesSound s →
    let s1 := frameEnded r.link s
    let replies (d0 d1 d2 : Word) : Prop :=
      exec (.readArm r) s = .next (answered r.link { code := .ok, d0 := d0, d1 := d1, d2 := d2 } s1)
    let free (n : Nat) (reply : Reply) : Prop :=
      exec (.readArm r) s = .next { answered r.link reply s1 with freeIndex := s.freeIndex + n }
    (2 ≤ r.sel.toNat ∨ 5 < r.d0.toNat →
      exec (.readArm r) s = .next (answered r.link (Reply.zeros .badSelector) s1)) ∧
    ∀ arm : Arm, r.sel.toNat = armIndex arm →
      let v := s1.sup.get arm
      let left : Nat := v.reportTimer.elim 0 fun t => t.duration - (s.cellTime - t.start).toNat
      let mode (m : Mode) : Nat := match m with | .latched => 0 | .auto => 1 | .warn => 2 | .off => 3
      let claim : List (Nat × Nat) :=
        [(0, (s.zones.claims.get arm).elim 255 Claim.first), (8, (s.zones.claims.get arm).elim 0 Claim.count)]
      (r.d0 = 0 → replies
        (packed [(0, v.state.num), (8, flag v.command), (9, flag v.sense), (10, flag v.window.isSome),
          (11, flag v.reportTimer.isSome)])
        (packed [(0, causeNum v.present)]) (packed [(0, causeNum v.recorded)])) ∧
      (r.d0 = 1 → replies
        (packed [(0, mode v.settings.modes.guard), (4, mode v.settings.modes.overdue),
          (8, mode v.settings.modes.compLost), (12, mode v.settings.modes.link)])
        (packed [(0, v.settings.timeoutCode.toNat), (8, flag v.settings.reportAny)]) (packed [(0, left)])) ∧
      (r.d0 = 2 → replies (BitVec.ofInt 32 v.settings.halfWidth) (BitVec.ofInt 32 v.settings.freeReach)
        (BitVec.ofInt 32 v.settings.margin)) ∧
      (∀ p ∈ s.lastPos.get arm,
        (r.d0 = 3 → ∀ tag ∈ p.tag, replies (packed (claim ++ [(16, 1)])) p.time tag) ∧
        (r.d0 = 3 → p.tag = none → ∃ d2 : Word, free 1
          { code := .ok, d0 := packed (claim ++ [(16, 1), (24, 1)]), d1 := p.time, d2 := d2 }) ∧
        (r.d0 = 4 → replies (BitVec.ofInt 32 p.corrected.x) (BitVec.ofInt 32 p.corrected.y)
          (BitVec.ofInt 32 p.corrected.z)) ∧
        (r.d0 = 5 → replies
          (packed [(0, p.quality.x.rank), (8, p.quality.y.rank), (16, p.quality.z.rank), (24, p.worst.rank)])
          (packed [(0, flag p.sat.x), (1, flag p.sat.y), (2, flag p.sat.z), (8, p.twQuality.rank)])
          (p.tw.elim 0x80000000#32 (BitVec.ofInt 32)))) ∧
      (s.lastPos.get arm = none →
        (r.d0 = 3 → ∃ d1 d2 : Word, free 2 { code := .ok, d0 := packed claim, d1 := d1, d2 := d2 }) ∧
        (r.d0 = 4 → replies 0 0 0) ∧
        (r.d0 = 5 → ∃ d0 d1 : Word, (d1 &&& 0xFFFF00FF#32) = 0 ∧
          free 2 { code := .ok, d0 := d0, d1 := d1, d2 := 0x80000000#32 })))

/-- A zone gets a holder only by a grant and loses it only by release or freeing: no other command but the reset input
moves a holder (R61, R67, R70, R73, R74). -/
def Obligations.HoldersChangeOnlyByGrantReleaseOrFree : Prop :=
  ∀ (c : Instr) (s t : State) (z : Fin 16), exec c s = .next t → c ≠ .resetInputAsserted → ZonesSound s →
    (zoneAt t z).holder ≠ (zoneAt s z).holder →
    (∀ arm : Arm, (zoneAt t z).holder = some arm →
      (∃ r, c = .claim r ∧ onArm arm r s ∧ r.sel.toNat ≤ z.val ∧ z.val < r.sel.toNat + r.d0.toNat) ∨
      ((s.zones.claims.get arm).any (fun k => k.covers z) = true ∧ t.zones.claims.get arm = none ∧
        ∃ r, c = .release r ∨ c = .zoneFree r)) ∧
    (∀ arm : Arm, (zoneAt s z).holder = some arm →
      (∃ r, c = .release r ∧ onArm arm r s ∧ r.sel.toNat ≤ z.val ∧ z.val < r.sel.toNat + r.d0.toNat) ∨
      (∃ r, c = .zoneFree r ∧ onCell r s ∧ r.sel.toNat = armIndex arm ∧ (s.sup.get arm).state = .disabled))

/-! ### Arm supervision -/

/-- Table 5.6 over every command but ARM_ENABLE, ARM_DISABLE, ARM_RESET, FAULT_CLEAR and the assertion of the reset
input: the state after it follows from the state before it and the causes after it (R84, R89). The permit line follows
the state, in every command but the assertion of the reset input: the command is on in RUNNING alone, each change of
it starts the settle window of 2 ms afresh and nothing but its expiry ends a window, and PERMIT attention is raised
with the new command and state at each change of the command and at no other event (R99, R100, R101); ARM_RESET and
the ATTN requests of the arm's link act on the source themselves. -/
def Obligations.SupervisionFollowsTheCauses : Prop :=
  (∀ (c : Instr) (s t : State) (arm : Arm), SupervisorsSound s → exec c s = .next t →
    (∀ r, c ≠ .armEnable r ∧ c ≠ .armDisable r ∧ c ≠ .armReset r ∧ c ≠ .faultClear r) → c ≠ .resetInputAsserted →
    let v := t.sup.get arm
    let reported : Bool := match c with
      | .position r => decide (r.link = linkOf arm) && takesFrame (linkOf arm) s
      | _ => false
    let recorded (m : Mode) : Bool := decide (∃ k ∈ allCauses, v.recorded.get k = true ∧ v.mode k = m)
    let present (m : Mode) : Bool := decide (∃ k ∈ allCauses, v.present.get k = true ∧ v.mode k = m)
    v.state = match (s.sup.get arm).state with
      | .disabled => .disabled
      | .stopped => .stopped
      | .starting =>
        if recorded .latched then .stopped
        else if reported && !present .latched && !present .auto then .running else .starting
      | .running => if recorded .latched then .stopped else if present .auto then .held else .running
      | .held => if recorded .latched then .stopped else if present .auto then .held else .running) ∧
  (∀ (c : Instr) (s t : State) (arm : Arm), SupervisorsSound s → exec c s = .next t → c ≠ .resetInputAsserted →
    let v := s.sup.get arm
    let w := t.sup.get arm
    w.command = decide (w.state = .running) ∧
    (w.command ≠ v.command → w.window = some ⟨s.cellTime, 2⟩) ∧
    (w.command = v.command → c ≠ .settleWindowExpiry arm → w.window = v.window) ∧
    ((∀ r, c ≠ .armReset r ∧ (r.link = linkOf arm → c ≠ .attnTake r ∧ c ≠ .attnDone r ∧ c ≠ .attnEnable r)) →
      (t.attn.arms.get arm).permit = if w.command = v.command then (s.attn.arms.get arm).permit
        else (s.attn.arms.get arm).permit.raise (fun _ => some (w.command, w.state))))

/-- A cause that becomes present while its mode is not OFF is recorded, with FAULT attention on its arm, and a
recorded flag stays until FAULT_CLEAR, ARM_RESET, ARM_SET or the reset input clears it (R84, R85). A cause of an arm
is recorded at exactly three events besides ARM_RESET: it becomes present while its mode is not OFF, ARM_SET takes it
out of OFF while it is present, or a change of the arm ends in CHANGE_FAULT. At these and at no other event FAULT
attention is raised with the arm in the detail, so a cause that stays present raises it once and one in OFF never;
only the ATTN requests of the Cell link act on the source otherwise (R82, R84, R85, R88). -/
def Obligations.CausesAreRecordedAndKept : Prop :=
  (∀ (c : Instr) (s t : State) (arm : Arm) (k : Cause), exec c s = .next t →
    (∀ r, c ≠ .armReset r ∧ c ≠ .faultClear r ∧ c ≠ .armSet r) → c ≠ .resetInputAsserted →
    let v := s.sup.get arm
    let w := t.sup.get arm
    let became := v.present.get k = false ∧ w.present.get k = true ∧ v.mode k ≠ .off
    w.mode k = v.mode k ∧
    (v.recorded.get k = true ∨ became → w.recorded.get k = true) ∧
    (k ≠ .changeFault → w.recorded.get k = true → v.recorded.get k = true ∨ became) ∧
    (became → (∀ r, c ≠ .attnTake r ∧ c ≠ .attnEnable r) → s.attn.cell.fault.enable = true →
      t.attn.cell.fault.pending = true ∧ t.attn.cell.fault.detail.getLsbD (armIndex arm) = true)) ∧
  (∀ (c : Instr) (s t : State), exec c s = .next t → (∀ r, c ≠ .armReset r) → c ≠ .resetInputAsserted →
    let became (arm : Arm) (k : Cause) : Prop :=
      (s.sup.get arm).present.get k = false ∧ (t.sup.get arm).present.get k = true ∧ (s.sup.get arm).mode k ≠ .off
    let turnedOn (arm : Arm) (k : Cause) : Prop :=
      (s.sup.get arm).present.get k = true ∧ (s.sup.get arm).mode k = .off ∧ (t.sup.get arm).mode k ≠ .off
    let faulted (arm : Arm) : Prop :=
      let x := s.rack.changes.get arm
      (c = .changeTimerExpiry arm ∧ s.resetHeld = false ∧ ∃ u ∈ x.timer, u.duration ≤ (s.cellTime - u.start).toNat) ∨
        ∃ r, c = .changeClose r ∧ onArm arm r s ∧ x.phase = .finish ∧ r.d0.toNat ≤ 65535 ∧ r.d0.toNat ≠ x.takeId.toNat
    let records (arm : Arm) (k : Cause) : Prop := became arm k ∨ turnedOn arm k ∨ (k = .changeFault ∧ faulted arm)
    (∀ (arm : Arm) (k : Cause), records arm k → (t.sup.get arm).recorded.get k = true) ∧
    (∀ (arm : Arm) (k : Cause), (t.sup.get arm).recorded.get k = true →
      (s.sup.get arm).recorded.get k = true ∨ records arm k) ∧
    ((∀ r, r.link = .cell → c ≠ .attnTake r ∧ c ≠ .attnDone r ∧ c ≠ .attnEnable r) →
      ∀ a b : Bool, (a = true ↔ ∃ k : Cause, records .a k) → (b = true ↔ ∃ k : Cause, records .b k) →
        let named (on : Bool) (arm : Arm) (src : Source (BitVec 2)) : Source (BitVec 2) :=
          if on then src.raise (addMark · (armIndex arm)) else src
        t.attn.cell.fault = named b .b (named a .a s.attn.cell.fault)))

/-- ARM_ENABLE and ARM_DISABLE, on the arm's own link or from the Cell link by the selector: refused STATE or FAULTED,
or taken, each answered with the state, the recorded and the present set as they stand after the whole event (R90,
R91, R92, log entry 6). An enable from another link than the disable that has just taken the arm to DISABLED, at the
same cell time, is refused STATE (R92, log entry 22). ARM_DISABLE from one link and ARM_ENABLE from another fall
together, in both orders: on an arm in any other state than DISABLED the enable is refused STATE and the arm ends
DISABLED; on a DISABLED arm without a recorded LATCHED cause both are taken, and the later one decides (R92). That
they fall together when both are taken at one cell time is the MODEL'S CHOICE (log entry 22). -/
def Obligations.ArmEnableAndDisable : Prop :=
  (∀ (arm : Arm) (r : Request) (s : State), SupervisorsSound s →
    (onCell r s → 2 ≤ r.sel.toNat → exec (.armEnable r) s = .next (refusedOnCell .badSelector s) ∧
      exec (.armDisable r) s = .next (refusedOnCell .badSelector s)) ∧
    (onArm arm r s ∨ (onCell r s ∧ r.sel.toNat = armIndex arm) →
      let l := r.link
      let v := s.sup.get arm
      let s1 := frameEnded l s
      let words (code : ResultCode) (u : State) : Reply :=
        let w := u.sup.get arm
        { code := code, d0 := packed [(0, w.state.num)], d1 := packed [(0, causeNum w.recorded)]
          d2 := packed [(0, causeNum w.present)] }
      let latched : Prop := ∃ k : Cause, v.recorded.get k = true ∧ v.mode k = .latched
      let barred : Prop := ∃ k : Link, s.disabledBy.get arm = some k ∧ k ≠ l
      (v.state ≠ .disabled ∨ barred → exec (.armEnable r) s = .next (answered l (words .state s1) s1)) ∧
      (v.state = .disabled → ¬ barred → latched → exec (.armEnable r) s = .next (answered l (words .faulted s1) s1)) ∧
      (v.state = .disabled → ¬ barred → ¬ latched →
        let s2 := s1.setSup arm { s1.sup.get arm with
          state := .starting
          reportTimer := some ⟨s.cellTime, [5, 10, 20, 50, 100, 200, 500, 1000].getD v.settings.timeoutCode.toNat 0⟩ }
        exec (.armEnable r) s = .next (answered l (words .ok s2) s2)) ∧
      (v.state = .disabled → exec (.armDisable r) s = .next (answered l (words .ok s1) s1)) ∧
      (v.state ≠ .disabled → ∃ t, exec (.armDisable r) s = .next t ∧ t.ports.get l = answeredPort (words .ok t) ∧
        t.sup.get arm = { v with
          state := .disabled, reportTimer := none, command := false
          present := if l = linkOf arm then { v.present with link := false } else v.present
          window := if v.command then some ⟨s.cellTime, 2⟩ else v.window } ∧
        (t.attn.arms.get arm).permit = (if v.command then
          (s.attn.arms.get arm).permit.raise (fun _ => some (false, .disabled)) else (s.attn.arms.get arm).permit) ∧
        t.zones.claims.get arm = none ∧
        (∀ z : Fin 16, zoneAt t z = if (s.zones.claims.get arm).isSome ∧ (zoneAt s z).waiter = some arm then
          { zoneAt s z with waiter := none } else zoneAt s z) ∧
        t.disabledBy.get arm = some l ∧
        unchangedBut [.port l, .supervisor arm, .claim arm, .zoneTable, .permitSource arm, .disabledBy arm] s t))) ∧
  (∀ (arm : Arm) (d e : Request) (s : State), SupervisorsSound s → d.link ≠ e.link →
    (∀ r ∈ [d, e], onArm arm r s ∨ (onCell r s ∧ r.sel.toNat = armIndex arm)) →
    let v := s.sup.get arm
    let ends (first second : Instr) (code : ResultCode) (state : SupState) : Prop :=
      ∃ t, exec first s = .next t ∧ ∃ u, exec second t = .next u ∧ (u.ports.get d.link).reply.code = .ok ∧
        (u.ports.get e.link).reply.code = code ∧ (u.sup.get arm).state = state
    (v.state ≠ .disabled → ends (.armDisable d) (.armEnable e) .state .disabled ∧
      ends (.armEnable e) (.armDisable d) .state .disabled) ∧
    (v.state = .disabled → (∀ k : Cause, v.recorded.get k = true → v.mode k ≠ .latched) → s.disabledBy.get arm = none →
      ends (.armDisable d) (.armEnable e) .ok .starting ∧ ends (.armEnable e) (.armDisable d) .ok .disabled))

/-- ARM_RESET, in every state and all as one event: the supervisor back to DISABLED with no cause, its settings kept,
the position and guard records absent, the pending claim withdrawn and the held zones kept, an open change resolved
without fault, the blank timer stopped, the link's unit cleared with its enables, and then the permit sense judged
(R93, R133, R157). -/
def Obligations.ArmResetClearsTheArm : Prop :=
  ∀ (arm : Arm) (r : Request) (s : State),
    (onCell r s → 2 ≤ r.sel.toNat → exec (.armReset r) s = .next (refusedOnCell .badSelector s)) ∧
    (onArm arm r s ∨ (onCell r s ∧ r.sel.toNat = armIndex arm) →
      let v := s.sup.get arm
      let c := s.rack.changes.get arm
      let u := s.attn.arms.get arm
      let window : Option Timer := if v.command then some ⟨s.cellTime, 2⟩ else v.window
      let mismatch : Bool := decide (window = none) && v.sense
      let only : PerCause Bool := ⟨false, false, false, false, mismatch, false⟩
      ∃ t, exec (.armReset r) s = .next t ∧
        t.ports.get r.link = answeredPort
          { code := .ok, d0 := 0, d1 := packed [(0, causeNum only)], d2 := packed [(0, causeNum only)] } ∧
        t.sup.get arm = { v with
          state := .disabled, present := only, recorded := only, reportTimer := none, command := false
          window := window } ∧
        t.attn.cell.fault = (if mismatch then s.attn.cell.fault.raise (addMark · (armIndex arm)) else s.attn.cell.fault) ∧
        t.lastPos.get arm = none ∧ t.zones.guards.get arm = none ∧ t.zones.claims.get arm = none ∧
        (∀ z : Fin 16, zoneAt t z = if (s.zones.claims.get arm).isSome ∧ (zoneAt s z).waiter = some arm then
          { zoneAt s z with waiter := none } else zoneAt s z) ∧
        t.touch.queues.get arm = { s.touch.queues.get arm with blankTimer := none } ∧
        t.attn.arms.get arm =
          { master := u.master, permit := ⟨u.permit.enable, false, false, none⟩
            change := ⟨u.change.enable, false, false, none⟩, claim := ⟨u.claim.enable, false, false, none⟩
            comp := ⟨u.comp.enable, false, false, none⟩ } ∧
        (t.rack.changes.get arm = if c.phase = .idle then c else
          { phase := .idle, putSlot := none, depositedId := none, takeSlot := none, takeId := 0, outcome := .reset
            timer := none }) ∧
        (∀ i : Fin 12, slotAt t i =
          if c.phase = .deposit ∧ c.putSlot = some i then { slotAt s i with state := .vacant, probe := none, lock := true }
          else if c.phase = .pick ∧ c.takeSlot = some i then { slotAt s i with state := .stored, lock := true }
          else slotAt s i) ∧
        (let mounts (e : Fin 14) : Bool := decide (c.phase = .finish ∧ c.takeId ≠ 0 ∧ headProbe s arm = some e)
         let drifted (e : Fin 14) : Bool :=
           mounts e && (entryAt s e).any fun p => decide (p.qual = .qualified) && drifts s p
         (∀ e : Fin 14, entryAt t e = if mounts e then (entryAt s e).map fun p => { p with
             reservation := if p.reservation = some arm then none else p.reservation
             qual := if drifted e then .due else p.qual } else entryAt s e) ∧
         t.attn.cell.probe = ((List.finRange 14).find? drifted).elim s.attn.cell.probe fun e =>
           s.attn.cell.probe.raise (addMark · e.val)) ∧
        unchangedBut ([.port r.link, .supervisor arm, .faultSource, .lastPos arm, .guard arm, .claim arm, .zoneTable,
          .queue arm, .armMaster arm, .permitSource arm, .changeSource arm, .claimSource arm, .compSource arm,
          .change arm, .slots, .entries, .probeSource] : List Block) s t)

/-- FAULT_CLEAR clears each named recorded cause that is not present, answers CAUSE_PRESENT when one was left, and
takes a STOPPED arm with no recorded LATCHED cause to STARTING with its report timer restarted (R94). -/
def Obligations.FaultClearClearsAbsentCauses : Prop :=
  ∀ (r : Request) (s : State), deniedToArms (.faultClear r) r s ∧ (onCell r s → SupervisorsSound s →
    (2 ≤ r.sel.toNat → exec (.faultClear r) s = .next (refusedOnCell .badSelector s)) ∧
    ∀ arm : Arm, r.sel.toNat = armIndex arm →
      (64 ≤ r.d0.toNat → exec (.faultClear r) s = .next (refusedOnCell .outOfRange s)) ∧
      (r.d0.toNat < 64 →
        let v := s.sup.get arm
        let named (k : Cause) : Bool := match k with
          | .guard => r.d0.getLsbD 0 | .overdue => r.d0.getLsbD 1 | .compLost => r.d0.getLsbD 2
          | .link => r.d0.getLsbD 3 | .permitMismatch => r.d0.getLsbD 4 | .changeFault => r.d0.getLsbD 5
        let kept (k : Cause) : Bool := v.recorded.get k && !(named k && !v.present.get k)
        let recorded : PerCause Bool :=
          ⟨kept .guard, kept .overdue, kept .compLost, kept .link, kept .permitMismatch, kept .changeFault⟩
        let starts : Bool := decide (v.state = .stopped ∧
          ∀ k ∈ allCauses, kept k = true → v.mode k ≠ .latched)
        exec (.faultClear r) s = .next (answered .cell
          { code := if ∃ k ∈ allCauses, named k = true ∧ v.recorded.get k = true ∧ v.present.get k = true then
              .causePresent else .ok
            d0 := packed [(0, causeNum recorded)], d1 := packed [(0, causeNum v.present)], d2 := 0 }
          (s.setSup arm { v with
            recorded := recorded, state := if starts then .starting else v.state
            reportTimer := if starts then
                some ⟨s.cellTime, [5, 10, 20, 50, 100, 200, 500, 1000].getD v.settings.timeoutCode.toNat 0⟩
              else v.reportTimer }))))

/-- ARM_SET writes the settings of one part together, in DISABLED alone; a cause whose mode becomes OFF is no longer
recorded, and one that leaves OFF while present is recorded with FAULT attention (R81, R82, R174). -/
def Obligations.ArmSetWritesOnePart : Prop :=
  ∀ (r : Request) (s : State), deniedToArms (.armSet r) r s ∧ (onCell r s →
    (2 ≤ r.sel.toNat → exec (.armSet r) s = .next (refusedOnCell .badSelector s)) ∧
    ∀ arm : Arm, r.sel.toNat = armIndex arm →
      let v := s.sup.get arm
      let byte (w : Word) (k : Nat) : Nat := w.toNat / 2 ^ (8 * k) % 256
      let refusal : Option ResultCode :=
        if 2 < r.d0.toNat then some .badSelector
        else if v.state ≠ .disabled then some .state
        else if r.d0 = 0 ∧ (10000000 < r.d1.toNat ∨ r.d2.toInt < -2000000000 ∨ 2000000000 < r.d2.toInt) then
          some .outOfRange
        else if r.d0 = 1 ∧ (5000000 < r.d1.toNat ∨ 7 < byte r.d2 0 ∨ 1 < byte r.d2 1) then some .outOfRange
        else if r.d0 = 2 ∧ (3 < byte r.d1 0 ∨ 2 < byte r.d1 1 ∨ 3 < byte r.d1 2 ∨ 3 < byte r.d1 3) then some .outOfRange
        else none
      let wrote (w : Supervisor) (u : State) : State :=
        answered .cell { code := .ok, d0 := 0, d1 := 0, d2 := 0 } (u.setSup arm w)
      (∀ code ∈ refusal, exec (.armSet r) s = .next (refusedOnCell code s)) ∧
      (refusal = none → r.d0 = 0 → exec (.armSet r) s = .next (wrote
        { v with settings := { v.settings with halfWidth := r.d1.toNat, freeReach := r.d2.toInt } } s)) ∧
      (refusal = none → r.d0 = 1 → exec (.armSet r) s = .next (wrote
        { v with settings := { v.settings with
          margin := r.d1.toNat, timeoutCode := BitVec.ofNat 3 (byte r.d2 0)
          reportAny := decide (byte r.d2 1 = 1) } } s)) ∧
      (refusal = none → r.d0 = 2 → ∀ g o k l : Mode, g.num = byte r.d1 0 → o.num = byte r.d1 1 →
        k.num = byte r.d1 2 → l.num = byte r.d1 3 →
        let m := v.settings.modes
        let after (old new : Mode) (recorded present : Bool) : Bool :=
          if new = .off then recorded && decide (old = .off) else recorded || (decide (old = .off) && present)
        let fresh : Bool :=
          (decide (m.guard = .off ∧ g ≠ .off) && v.present.guard) ||
          (decide (m.overdue = .off ∧ o ≠ .off) && v.present.overdue) ||
          (decide (m.compLost = .off ∧ k ≠ .off) && v.present.compLost) ||
          (decide (m.link = .off ∧ l ≠ .off) && v.present.link)
        exec (.armSet r) s = .next (wrote
          { v with
            settings := { v.settings with modes := ⟨g, o, k, l⟩ }
            recorded := { v.recorded with
              guard := after m.guard g v.recorded.guard v.present.guard
              overdue := after m.overdue o v.recorded.overdue v.present.overdue
              compLost := after m.compLost k v.recorded.compLost v.present.compLost
              link := after m.link l v.recorded.link v.present.link } }
          (if fresh then raiseFault arm s else s))))

/-- REPORT_TIMER_EXPIRY, SETTLE_WINDOW_EXPIRY and PERMIT_SENSE_CHANGE: OVERDUE becomes present when the report timer
runs out; at the end of the window, and outside one at each change of the level, PERMIT_MISMATCH is present exactly if
sense and command differ (R98, R100). An expiry before its time changes nothing (log entry 5). -/
def Obligations.SupervisorEventsJudgeTheArm : Prop :=
  ∀ (arm : Arm) (level : Bool) (s : State),
    let v := s.sup.get arm
    let out (timer : Option Timer) : Prop :=
      s.resetHeld = false ∧ ∃ t ∈ timer, t.duration ≤ (s.cellTime - t.start).toNat
    (¬ out v.reportTimer → exec (.reportTimerExpiry arm) s = .next s) ∧
    (out v.reportTimer → ∃ t, exec (.reportTimerExpiry arm) s = .next t ∧
      (t.sup.get arm).present = { v.present with overdue := true } ∧
      (t.sup.get arm).reportTimer = none ∧
      unchangedBut [.supervisor arm, .faultSource, .permitSource arm] s t) ∧
    (¬ out v.window → exec (.settleWindowExpiry arm) s = .next s) ∧
    (out v.window → ∃ t, exec (.settleWindowExpiry arm) s = .next t ∧
      (t.sup.get arm).present = { v.present with permitMismatch := decide (v.sense ≠ v.command) } ∧
      (t.sup.get arm).reportTimer = v.reportTimer ∧
      ((t.sup.get arm).command = v.command → (t.sup.get arm).window = none) ∧
      unchangedBut [.supervisor arm, .faultSource, .permitSource arm] s t) ∧
    (v.sense = level → exec (.permitSenseChange arm level) s = .next s) ∧
    (v.sense ≠ level → s.resetHeld = true ∨ v.window.isSome = true →
      exec (.permitSenseChange arm level) s = .next (s.setSup arm { v with sense := level })) ∧
    (v.sense ≠ level → s.resetHeld = false → v.window = none →
      ∃ t, exec (.permitSenseChange arm level) s = .next t ∧ (t.sup.get arm).sense = level ∧
        (t.sup.get arm).present = { v.present with permitMismatch := decide (level ≠ v.command) } ∧
        (t.sup.get arm).reportTimer = v.reportTimer ∧
        unchangedBut [.supervisor arm, .sense arm, .faultSource, .permitSource arm] s t)

/-! ### The probe registry -/

/-- PROBE_REGISTER by Table 6.5: the lowest-numbered free entry receives the new record and the slot becomes STORED
with it (R107). -/
def Obligations.ProbeRegisterTakesTheLowestEntry : Prop :=
  ∀ (r : Request) (s : State), deniedToArms (.probeRegister r) r s ∧ (onCell r s →
    (12 ≤ r.sel.toNat → exec (.probeRegister r) s = .next (refusedOnCell .badSelector s)) ∧
    ∀ i : Fin 12, i.val = r.sel.toNat →
      let refusal : Option ResultCode :=
        if r.d0.toNat < 1 ∨ 65535 < r.d0.toNat then some .outOfRange
        else if ∃ e : Fin 14, ∃ p ∈ entryAt s e, p.id.toNat = r.d0.toNat then some .inUse
        else if (slotAt s i).state ≠ .unclaimed then some .state
        else if ∀ e : Fin 14, entryAt s e ≠ none then some .full
        else none
      (∀ code ∈ refusal, exec (.probeRegister r) s = .next (refusedOnCell code s)) ∧
      (refusal = none → ∀ e : Fin 14, entryAt s e = none → (∀ f < e, entryAt s f ≠ none) →
        let p : Probe := { id := r.d0.setWidth 16, home := i, tips := [], qual := .unqualified, tcal := none
                           useCount := 0, reservation := none, location := .slot i }
        exec (.probeRegister r) s = .next (answered .cell (probeWords .ok e p)
          ((s.setEntry e (some p)).setSlot i
            { slotAt s i with state := .stored, probe := some e, lock := true }))))

/-- PROBE_TIP_WRITE, PROBE_TIP_CLEAR and PROBE_QUALIFY: refused for an id that is not registered or a probe engaged in
a change and by their own checks, or taken, with the words of READ_PROBE part 0 (R104, R108, R109, R110, R174). -/
def Obligations.TipsAndQualification : Prop :=
  ∀ (r : Request) (s : State), onCell r s → RegistrySound s →
    let low (w : Word) : Int := if w.toNat % 2 ^ 25 < 2 ^ 24 then w.toNat % 2 ^ 25 else (w.toNat % 2 ^ 25 : Int) - 2 ^ 25
    let wrote : Axes Int := ⟨low r.d0, low r.d1, low r.d2⟩
    let wroteId := r.d0.toNat / 2 ^ 25 + 128 * (r.d1.toNat / 2 ^ 25) + 16384 * (r.d2.toNat / 2 ^ 25 % 4)
    let far (x : Int) : Prop := x < -10000000 ∨ 10000000 < x
    let took (i : Instr) (e : Fin 14) (p : Probe) : Prop :=
      exec i s = .next (answered .cell (probeWords .ok e p) (s.setEntry e (some p)))
    let no (i : Instr) (code : ResultCode) : Prop := exec i s = .next (refusedOnCell code s)
    (r.d2.toNat / 2 ^ 27 ≠ 0 → no (.probeTipWrite r) .outOfRange) ∧
    (r.d2.toNat / 2 ^ 27 = 0 → (∀ e : Fin 14, ∀ p ∈ entryAt s e, p.id.toNat ≠ wroteId) →
      no (.probeTipWrite r) .noProbe) ∧
    ((∀ e : Fin 14, ∀ p ∈ entryAt s e, p.id.toNat ≠ r.d0.toNat) →
      no (.probeTipClear r) .noProbe ∧ no (.probeQualify r) .noProbe) ∧
    ∀ (e : Fin 14), ∀ p ∈ entryAt s e,
      let busy : Prop := (∃ arm : Arm, p.location = .head arm ∧ (s.rack.changes.get arm).phase ≠ .idle) ∨
        ∃ i : Fin 12, p.location = .slot i ∧ (slotAt s i).state = .released
      let index := r.sel.toNat
      (r.d2.toNat / 2 ^ 27 = 0 → p.id.toNat = wroteId →
        (busy → no (.probeTipWrite r) .state) ∧
        (¬ busy → 4 < index ∨ p.tips.length < index → no (.probeTipWrite r) .badSelector) ∧
        (¬ busy → index ≤ 4 → index ≤ p.tips.length →
          (far wrote.x ∨ far wrote.y ∨ far wrote.z → no (.probeTipWrite r) .outOfRange) ∧
          (¬ far wrote.x → ¬ far wrote.y → ¬ far wrote.z → took (.probeTipWrite r) e
            { p with tips := p.tips.take index ++ wrote :: p.tips.drop (index + 1)
                     qual := .unqualified, tcal := none }))) ∧
      (p.id.toNat = r.d0.toNat →
        (busy → no (.probeTipClear r) .state ∧ no (.probeQualify r) .state) ∧
        (¬ busy → took (.probeTipClear r) e { p with tips := [], qual := .unqualified, tcal := none }) ∧
        (¬ busy → p.tips = [] → no (.probeQualify r) .notReady) ∧
        (¬ busy → p.tips ≠ [] → rackTemperature s = none → no (.probeQualify r) .noTemp) ∧
        (¬ busy → p.tips ≠ [] → ∀ t ∈ rackTemperature s,
          took (.probeQualify r) e { p with tcal := some t, useCount := 0, qual := .qualified }))

/-- PROBE_RESERVE, PROBE_UNRESERVE and PROBE_REMOVE: a reservation is set or cleared in every location of the probe; a
probe in a STORED slot or MISSING is removed, its slot left UNCLAIMED, and one on a head or in a RELEASED or BLOCKED
slot is refused IN_USE (R112, R113). -/
def Obligations.ReservationAndRemoval : Prop :=
  ∀ (r : Request) (s : State), onCell r s → RegistrySound s →
    let no (i : Instr) (code : ResultCode) : Prop := exec i s = .next (refusedOnCell code s)
    (2 ≤ r.sel.toNat → no (.probeReserve r) .badSelector) ∧
    ((∀ e : Fin 14, ∀ p ∈ entryAt s e, p.id.toNat ≠ r.d0.toNat) →
      (r.sel.toNat < 2 → no (.probeReserve r) .noProbe) ∧ no (.probeUnreserve r) .noProbe ∧
        no (.probeRemove r) .noProbe) ∧
    ∀ (e : Fin 14), ∀ p ∈ entryAt s e, p.id.toNat = r.d0.toNat →
      let took (i : Instr) (q : Probe) : Prop :=
        exec i s = .next (answered .cell (probeWords .ok e q) (s.setEntry e (some q)))
      let removed (u : State) : Prop := exec (.probeRemove r) s = .next (answered .cell
        { code := .ok, d0 := packed [(0, e.val)], d1 := 0, d2 := 0 } u)
      (∀ arm : Arm, r.sel.toNat = armIndex arm → took (.probeReserve r) { p with reservation := some arm }) ∧
      took (.probeUnreserve r) { p with reservation := none } ∧
      (∀ arm : Arm, p.location = .head arm → no (.probeRemove r) .inUse) ∧
      (p.location = .missing → removed (s.setEntry e none)) ∧
      (∀ i : Fin 12, p.location = .slot i →
        ((slotAt s i).state = .released ∨ (slotAt s i).state = .blocked → no (.probeRemove r) .inUse) ∧
        ((slotAt s i).state = .stored → removed ((s.setEntry e none).setSlot i
          { slotAt s i with state := .unclaimed, probe := none, lock := true })))

/-- READ_PROBE answers with the parts of Table 6.6 in the places of Table A.7, on every link (R117, R173). The home
slot, location, qualification, reservation, tip count and use count of a free entry are free values (log entry 7).
READ_SLOT and READ_CHANGE answer with the contents of Table 7.7 in the places of Table A.7, on every link (R137,
R173). The probe of an arm's head is the one located there, absent when there is none; the drift test compares the
rack temperature with Tcal (R104, R114). -/
def Obligations.ProbeAndRackReadsShowTheirRecords : Prop :=
  (∀ (r : Request) (s : State), takesFrame r.link s = true → RegistrySound s →
    let s1 := frameEnded r.link s
    let replies (d0 d1 d2 : Word) : Prop :=
      exec (.readProbe r) s = .next (answered r.link { code := .ok, d0 := d0, d1 := d1, d2 := d2 } s1)
    let head (arm : Arm) : Nat := (headProbe s arm).elim 255 Fin.val
    (14 < r.sel.toNat ∨ (r.sel = 14 ∧ r.d0 ≠ 0) ∨ 5 < r.d0.toNat →
      exec (.readProbe r) s = .next (answered r.link (Reply.zeros .badSelector) s1)) ∧
    (r.sel = 14 → r.d0 = 0 → replies
      (packed [(0, setNum fun e => (entryAt s e).isSome),
        (16, (Finset.univ.filter fun e => (entryAt s e).isSome = true).card)])
      (packed [(0, head .a), (8, head .b)]) (packed [(0, s.registry.useLimit), (16, s.registry.driftLimit)])) ∧
    ∀ e : Fin 14, e.val = r.sel.toNat →
      (∀ p ∈ entryAt s e, r.d0 = 0 → replies
        (packed [(0, p.id.toNat), (16, e.val), (25, p.qual.num), (27, p.reservation.elim 0 fun owner => 1 + armIndex owner)])
        (packed [(0, p.home.val), (4, p.tips.length),
          (8, match p.location with | .slot n => n.val | .head .a => 16 | .head .b => 17 | .missing => 18),
          (16, p.useCount)])
        (p.tcal.elim 0x80000000#32 (BitVec.ofInt 32))) ∧
      (entryAt s e = none → r.d0 = 0 → ∃ d0 d1 : Word, exec (.readProbe r) s = .next
        { answered r.link { code := .ok, d0 := d0, d1 := d1, d2 := 0x80000000#32 } s1 with
          freeIndex := s.freeIndex + 2 } ∧
        d0 &&& 0xE1FFFFFF#32 = packed [(16, e.val), (24, 1)]) ∧
      (∀ n : Nat, n < 5 → r.d0.toNat = n + 1 →
        (∀ t ∈ (entryAt s e).bind fun p => p.tips[n]?,
          replies (BitVec.ofInt 32 t.x) (BitVec.ofInt 32 t.y) (BitVec.ofInt 32 t.z)) ∧
        (((entryAt s e).bind fun p => p.tips[n]?) = none → replies 0 0 0))) ∧
  (∀ (r : Request) (s : State), takesFrame r.link s = true → RackSound s →
    let s1 := frameEnded r.link s
    let replies (i : Instr) (d0 d1 d2 : Word) : Prop :=
      exec i s = .next (answered r.link { code := .ok, d0 := d0, d1 := d1, d2 := d2 } s1)
    let sslots (p : Slot → Bool) : Nat := setNum fun i : Fin 12 => p (slotAt s i)
    let inState (st : SlotState) : Nat := sslots fun x => decide (x.state = st)
    (12 < r.sel.toNat → exec (.readSlot r) s = .next (answered r.link (Reply.zeros .badSelector) s1)) ∧
    (r.sel = 12 → replies (.readSlot r)
      (packed [(0, sslots Slot.settled), (16, sslots Slot.lock)])
      (packed [(0, inState .blocked), (16, inState .unclaimed)])
      (packed [(0, inState .vacant), (12, inState .released), (24, s.rack.changeTimeout)])) ∧
    (∀ i : Fin 12, i.val = r.sel.toNat →
      let x := slotAt s i
      replies (.readSlot r)
        (packed [(0, x.state.num), (8, x.probe.elim 255 Fin.val), (16, flag x.lock), (17, flag x.settled),
          (18, flag x.raw), (19, flag x.settleTimer.isSome)])
        (packed [(0, (x.probe.bind (entryAt s)).elim 0 fun p => p.id.toNat)]) 0) ∧
    (2 ≤ r.sel.toNat ∨ 1 < r.d0.toNat →
      exec (.readChange r) s = .next (answered r.link (Reply.zeros .badSelector) s1)) ∧
    ∀ arm : Arm, r.sel.toNat = armIndex arm →
      let c := s.rack.changes.get arm
      (r.d0 = 0 → replies (.readChange r)
        (packed [(0, c.phase.num), (8, c.outcome.num), (16, c.putSlot.elim 255 Fin.val), (24, c.takeSlot.elim 255 Fin.val)])
        (packed [(0, c.depositedId.elim 0 BitVec.toNat)]) (packed [(0, c.takeId.toNat)])) ∧
      (r.d0 = 1 → replies (.readChange r) (packed [(0, flag c.timer.isSome)])
        (packed [(0, c.timer.elim 0 fun t => t.duration - (s.cellTime - t.start).toNat)])
        (packed [(0, (headProbe s arm).elim 255 Fin.val)]))) ∧
  (∀ (s : State) (arm : Arm), RackSound s →
    (∀ e : Fin 14, headProbe s arm = some e ↔ ∃ p, entryAt s e = some p ∧ p.location = .head arm) ∧
    (∀ p : Probe, drifts s p = false ↔ ∃ t c : Int, rackTemperature s = some t ∧ p.tcal = some c ∧
      t - c ≤ s.registry.driftLimit ∧ c - t ≤ s.registry.driftLimit))

/-- PROBE_SET, RACK_SET, TOUCH_SET and ALARM_SET write their settings together and answer with them, or refuse
OUT_OF_RANGE and change none (R106, R124, R145, R158). -/
def Obligations.SettingsAreWrittenTogether : Prop :=
  ∀ (r : Request) (s : State),
    deniedToArms (.probeSet r) r s ∧ deniedToArms (.rackSet r) r s ∧ deniedToArms (.touchSet r) r s ∧
    deniedToArms (.alarmSet r) r s ∧ (onCell r s →
      let took (d1 : Word) (u : State) : State := answered .cell { code := .ok, d0 := r.d0, d1 := d1, d2 := 0 } u
      exec (.probeSet r) s = .next (
        if r.d0.toNat < 1 ∨ 65535 < r.d0.toNat ∨ 10000 < r.d1.toNat then refusedOnCell .outOfRange s
        else took r.d1 { s with registry := { s.registry with useLimit := r.d0.toNat, driftLimit := r.d1.toNat } }) ∧
      exec (.rackSet r) s = .next (
        if r.d0.toNat < 1 ∨ 120 < r.d0.toNat then refusedOnCell .outOfRange s
        else took 0 { s with rack := { s.rack with changeTimeout := r.d0.toNat } }) ∧
      exec (.touchSet r) s = .next (
        if 2000 < r.d0.toNat ∨ r.d1.toNat < 1 ∨ 32 < r.d1.toNat then refusedOnCell .outOfRange s
        else took r.d1 { s with touch := { s.touch with blankTime := r.d0.toNat, fillLevel := r.d1.toNat } }) ∧
      exec (.alarmSet r) s = .next (
        if 511 < r.d0.toNat then refusedOnCell .outOfRange s
        else took 0 { s with alarmMap := BitVec.ofNat 9 r.d0.toNat }))

/-! ### The rack and the change protocol -/

/-- PRESENCE_RAW_CHANGE: the line takes the level and the settle timer starts afresh; held in reset the line alone
changes, and a level that is the line's already is no change (R119, R171). PRESENCE_SETTLE_EXPIRY of a slot that no
change awaits: the settled level takes the raw level, the slot moves by Table 7.2 with RACK attention, and a STORED
slot that empties makes its probe MISSING; without a difference only the timer stops (R119, R121, R122). An expiry
before its time changes nothing (log entry 5). -/
def Obligations.PresenceSettlesAndMovesTheSlot : Prop :=
  (∀ (i : Fin 12) (level : Bool) (s : State),
    let x := slotAt s i
    exec (.presenceRawChange i level) s = .next (
      if x.raw = level then s
      else if s.resetHeld = true then s.setSlot i { x with raw := level }
      else s.setSlot i { x with raw := level, settleTimer := some ⟨s.cellTime, 20⟩ })) ∧
  (∀ (i : Fin 12) (s : State),
    let x := slotAt s i
    let out : Prop := s.resetHeld = false ∧ ∃ t ∈ x.settleTimer, t.duration ≤ (s.cellTime - t.start).toNat
    let settles (y : Slot) (u : State) : Prop := exec (.presenceSettleExpiry i) s = .next (raiseRack i
      (u.setSlot i { y with settled := x.raw, settleTimer := none }))
    (¬ out → exec (.presenceSettleExpiry i) s = .next s) ∧
    (out → x.raw = x.settled → exec (.presenceSettleExpiry i) s = .next (s.setSlot i { x with settleTimer := none })) ∧
    (out → x.raw ≠ x.settled →
      (x.state = .vacant → x.raw = true → settles { x with state := .unclaimed, probe := none, lock := true } s) ∧
      (x.state = .unclaimed → x.raw = false → settles { x with state := .vacant, probe := none, lock := true } s) ∧
      (x.state = .blocked → settles x s) ∧
      (x.state = .stored → x.raw = false → ∀ e ∈ x.probe, ∀ p ∈ entryAt s e,
        settles { x with state := .blocked, probe := none, lock := true }
          (s.setEntry e (some { p with location := .missing })))))

/-- PRESENCE_SETTLE_EXPIRY of a RELEASED slot, its level settled as its change awaits: seated in DEPOSIT completes the
deposit, and the change goes on to PICK, to FINISH, or to FINISH with TAKE_LOST; unseated in PICK completes the pick;
each with CHANGE attention (R127, R128, R134). At most one arm has a change open, since there is one RACK zone (R123).
-/
def Obligations.AwaitedPresenceAdvancesTheChange : Prop :=
  ∀ (arm : Arm) (i : Fin 12) (s : State), RackSound s → ChangesSound s → ZonesSound s → s.resetHeld = false →
    (∃ t ∈ (slotAt s i).settleTimer, t.duration ≤ (s.cellTime - t.start).toNat) →
    (slotAt s i).raw ≠ (slotAt s i).settled →
    let x := slotAt s i
    let c := s.rack.changes.get arm
    let advanced (t : State) (d : ChangeContext) : Prop :=
      t.rack.changes.get arm = d ∧
      (t.attn.arms.get arm).change = (s.attn.arms.get arm).change.raise (fun _ => some (d.phase, d.outcome)) ∧
      unchangedBut [.slots, .entries, .change arm, .changeSource arm] s t
    (c.phase = .deposit → c.putSlot = some i → x.raw = true → ∀ (q : Fin 14) (p : Probe), entryAt s q = some p →
      p.location = .head arm →
      let here (t : State) : Prop :=
        slotAt t i = { x with state := .stored, probe := some q, lock := true, settled := true, settleTimer := none } ∧
        entryAt t q = some { p with location := .slot i } ∧ ∀ f : Fin 14, f ≠ q → entryAt t f = entryAt s f
      let ready (u : Fin 12) (f : Fin 14) : Prop := c.takeSlot = some u ∧ (slotAt s u).state = .stored ∧
        ∃ k ∈ entryAt s f, k.id = c.takeId ∧ k.location = .slot u
      (c.takeId = 0 → ∃ t, exec (.presenceSettleExpiry i) s = .next t ∧ here t ∧
        (∀ j : Fin 12, j ≠ i → slotAt t j = slotAt s j) ∧
        advanced t { c with phase := .finish, outcome := .deposited }) ∧
      (RegistrySound s → c.takeId ≠ 0 → ∀ (u : Fin 12) (f : Fin 14), ready u f →
        ∃ t, exec (.presenceSettleExpiry i) s = .next t ∧ here t ∧
          slotAt t u = { slotAt s u with state := .released, probe := some f, lock := false } ∧
          (∀ j : Fin 12, j ≠ i → j ≠ u → slotAt t j = slotAt s j) ∧
          advanced t { c with phase := .pick, outcome := .deposited }) ∧
      (RegistrySound s → c.takeId ≠ 0 → (∀ (u : Fin 12) (f : Fin 14), ¬ ready u f) →
        ∃ t, exec (.presenceSettleExpiry i) s = .next t ∧ here t ∧
          (∀ j : Fin 12, j ≠ i → slotAt t j = slotAt s j) ∧
          advanced t { c with phase := .finish, outcome := .takeLost, takeId := 0, takeSlot := none })) ∧
    (c.phase = .pick → c.takeSlot = some i → x.raw = false → ∀ (q : Fin 14) (p : Probe), x.probe = some q →
      entryAt s q = some p → ∃ t, exec (.presenceSettleExpiry i) s = .next t ∧
        slotAt t i = { x with state := .vacant, probe := none, lock := true, settled := false, settleTimer := none } ∧
        (∀ j : Fin 12, j ≠ i → slotAt t j = slotAt s j) ∧
        entryAt t q = some { p with location := .head arm } ∧ (∀ f : Fin 14, f ≠ q → entryAt t f = entryAt s f) ∧
        advanced t { c with phase := .finish, outcome := .picked })

/-- CHANGE_OPEN: the checks of Table 7.4 in order, or the change opened in DEPOSIT with the home slot RELEASED empty,
or in PICK with the take slot RELEASED, its timer started and CHANGE attention raised (R125, R126). The first check
reads the supervision state before the judgement of the same frame: an arm HELD by LINK alone is refused STATE
(DEDUCED, log entry 6). -/
def Obligations.ChangeOpenReleasesASlot : Prop :=
  ∀ (arm : Arm) (r : Request) (s : State), onArm arm r s → RackSound s → RegistrySound s → ZonesSound s →
    let l := linkOf arm
    let n := r.d0.toNat
    let words (code : ResultCode) (u : State) : Reply :=
      let c := u.rack.changes.get arm
      { code := code
        d0 := packed [(0, c.phase.num), (8, c.outcome.num), (16, c.putSlot.elim 255 Fin.val), (24, c.takeSlot.elim 255 Fin.val)]
        d1 := packed [(0, c.depositedId.elim 0 BitVec.toNat)], d2 := packed [(0, c.takeId.toNat)] }
    let refusal : Option ResultCode :=
      if (s.sup.get arm).state ≠ .running then some .state
      else if ¬ ∃ z : Fin 16, (zoneAt s z).defined = true ∧ (zoneAt s z).kind = .rack then some .notReady
      else if ¬ ∃ z : Fin 16, (zoneAt s z).defined = true ∧ (zoneAt s z).kind = .rack ∧
          (zoneAt s z).holder = some arm then some .notHeld
      else if (s.rack.changes.get arm).phase ≠ .idle then some .busy
      else if 65535 < n then some .outOfRange
      else if n = 0 ∧ ¬ ∃ e : Fin 14, ∃ q ∈ entryAt s e, q.location = .head arm then some .outOfRange
      else if ∃ e : Fin 14, ∃ q ∈ entryAt s e, q.location = .head arm ∧ q.id.toNat = n then some .state
      else if n ≠ 0 ∧ ¬ ∃ e : Fin 14, ∃ q ∈ entryAt s e, q.id.toNat = n ∧
          ∃ u : Fin 12, q.location = .slot u ∧ (slotAt s u).state = .stored then some .noProbe
      else if ∃ e : Fin 14, ∃ q ∈ entryAt s e, q.id.toNat = n ∧ q.reservation = some (otherArm arm) then some .reserved
      else if ∃ e : Fin 14, ∃ q ∈ entryAt s e, q.location = .head arm ∧ (slotAt s q.home).state ≠ .vacant then
        some .slotBusy
      else none
    let opened (t : State) (d : ChangeContext) : Prop :=
      t.rack.changes.get arm = d ∧ t.ports.get l = answeredPort (words .ok t) ∧
      t.sup.get arm = (frameEnded l s).sup.get arm ∧
      (t.attn.arms.get arm).change = (s.attn.arms.get arm).change.raise (fun _ => some (d.phase, .opened)) ∧
      unchangedBut [.port l, .slots, .change arm, .changeSource arm, .supervisor arm, .permitSource arm] s t
    let timer : Option Timer := some ⟨s.cellTime, s.rack.changeTimeout * 1000⟩
    (∀ code ∈ refusal, exec (.changeOpen r) s = .next (answered l (words code s) (frameEnded l s))) ∧
    (refusal = none → ∀ take : Option (Fin 12 × Fin 14), (n = 0 → take = none) →
      (n ≠ 0 → ∃ k ∈ take, ∃ p ∈ entryAt s k.2, p.id.toNat = n ∧ p.location = .slot k.1) →
      (∀ (e : Fin 14) (q : Probe), entryAt s e = some q → q.location = .head arm →
        ∃ t, exec (.changeOpen r) s = .next t ∧
          slotAt t q.home = { slotAt s q.home with state := .released, probe := none, lock := false } ∧
          (∀ j : Fin 12, j ≠ q.home → slotAt t j = slotAt s j) ∧
          opened t { phase := .deposit, putSlot := some q.home, depositedId := some q.id, takeSlot := take.map Prod.fst
                     takeId := BitVec.ofNat 16 n, outcome := .opened, timer := timer }) ∧
      ((∀ (e : Fin 14) (q : Probe), entryAt s e = some q → q.location ≠ .head arm) → ∀ k ∈ take,
        ∃ t, exec (.changeOpen r) s = .next t ∧
          slotAt t k.1 = { slotAt s k.1 with state := .released, probe := some k.2, lock := false } ∧
          (∀ j : Fin 12, j ≠ k.1 → slotAt t j = slotAt s j) ∧
          opened t { phase := .pick, putSlot := none, depositedId := none, takeSlot := some k.1
                     takeId := BitVec.ofNat 16 n, outcome := .opened, timer := timer }))

/-- CHANGE_CLOSE: refused outside FINISH and for a head id above 65,535; with the take id it closes the change, mounts
the take probe with its mount check and starts the blank timer; with another id it ends in WRONG_PROBE, the take probe
MISSING and CHANGE_FAULT recorded (R88, R114, R129, R130, R144). -/
def Obligations.ChangeCloseMountsOrFaults : Prop :=
  ∀ (arm : Arm) (r : Request) (s : State), onArm arm r s → RackSound s →
    let l := linkOf arm
    let c := s.rack.changes.get arm
    let words (code : ResultCode) (u : State) : Reply :=
      let d := u.rack.changes.get arm
      { code := code
        d0 := packed [(0, d.phase.num), (8, d.outcome.num), (16, d.putSlot.elim 255 Fin.val), (24, d.takeSlot.elim 255 Fin.val)]
        d1 := packed [(0, d.depositedId.elim 0 BitVec.toNat)], d2 := packed [(0, d.takeId.toNat)] }
    let closed (outcome : ChangeOutcome) (t : State) : Prop :=
      t.rack.changes.get arm = { phase := .idle, putSlot := none, depositedId := none, takeSlot := none, takeId := 0
                                 outcome := outcome, timer := none } ∧
      t.ports.get l = answeredPort (words .ok t) ∧
      (t.attn.arms.get arm).change = (s.attn.arms.get arm).change.raise (fun _ => some (.idle, outcome))
    (c.phase ≠ .finish → exec (.changeClose r) s = .next (answered l (words .state s) (frameEnded l s))) ∧
    (c.phase = .finish → 65535 < r.d0.toNat →
      exec (.changeClose r) s = .next (answered l (words .outOfRange s) (frameEnded l s))) ∧
    (c.phase = .finish → r.d0.toNat = c.takeId.toNat → ∃ t, exec (.changeClose r) s = .next t ∧ closed .closed t ∧
      t.sup.get arm = (frameEnded l s).sup.get arm ∧
      (c.takeId = 0 → unchangedBut [.port l, .change arm, .changeSource arm, .supervisor arm, .permitSource arm] s t) ∧
      (c.takeId ≠ 0 → ∀ (e : Fin 14) (p : Probe), entryAt s e = some p → p.location = .head arm →
        let due := decide (p.qual = .qualified) && drifts s p
        entryAt t e = some { p with
          reservation := if p.reservation = some arm then none else p.reservation
          qual := if due then .due else p.qual } ∧
        (∀ f : Fin 14, f ≠ e → entryAt t f = entryAt s f) ∧
        t.attn.cell.probe = (if due then s.attn.cell.probe.raise (addMark · e.val) else s.attn.cell.probe) ∧
        t.touch.queues.get arm = { s.touch.queues.get arm with
          blankTimer := if s.touch.blankTime = 0 then none else some ⟨s.cellTime, s.touch.blankTime⟩ } ∧
        unchangedBut [.port l, .change arm, .changeSource arm, .entries, .probeSource, .queue arm, .supervisor arm,
          .permitSource arm] s t)) ∧
    (c.phase = .finish → r.d0.toNat ≤ 65535 → r.d0.toNat ≠ c.takeId.toNat →
      ∃ t, exec (.changeClose r) s = .next t ∧ closed .wrongProbe t ∧
        (t.sup.get arm).recorded = { (s.sup.get arm).recorded with changeFault := true } ∧
        (t.sup.get arm).present = { (s.sup.get arm).present with link := false } ∧
        t.attn.cell.fault = s.attn.cell.fault.raise (addMark · (armIndex arm)) ∧
        (∀ e : Fin 14, entryAt t e = (entryAt s e).map fun p =>
          if c.takeId ≠ 0 ∧ p.location = .head arm then { p with location := .missing } else p) ∧
        unchangedBut [.port l, .change arm, .changeSource arm, .entries, .supervisor arm, .permitSource arm,
          .faultSource] s t)

/-- CHANGE_ABORT gives the RELEASED slot back and leaves the head as it was; it is refused STATE in IDLE and in FINISH
(R131). -/
def Obligations.ChangeAbortGivesTheSlotBack : Prop :=
  ∀ (arm : Arm) (r : Request) (s : State), onArm arm r s →
    let l := linkOf arm
    let c := s.rack.changes.get arm
    let words (code : ResultCode) (u : State) : Reply :=
      let d := u.rack.changes.get arm
      { code := code
        d0 := packed [(0, d.phase.num), (8, d.outcome.num), (16, d.putSlot.elim 255 Fin.val), (24, d.takeSlot.elim 255 Fin.val)]
        d1 := packed [(0, d.depositedId.elim 0 BitVec.toNat)], d2 := packed [(0, d.takeId.toNat)] }
    (c.phase = .idle ∨ c.phase = .finish →
      exec (.changeAbort r) s = .next (answered l (words .state s) (frameEnded l s))) ∧
    (c.phase = .deposit ∨ c.phase = .pick → ∃ t, exec (.changeAbort r) s = .next t ∧
      t.rack.changes.get arm = { phase := .idle, putSlot := none, depositedId := none, takeSlot := none, takeId := 0
                                 outcome := .aborted, timer := none } ∧
      t.ports.get l = answeredPort (words .ok t) ∧
      (∀ i : Fin 12, slotAt t i =
        if c.phase = .deposit ∧ c.putSlot = some i then { slotAt s i with state := .vacant, probe := none, lock := true }
        else if c.phase = .pick ∧ c.takeSlot = some i then { slotAt s i with state := .stored, lock := true }
        else slotAt s i) ∧
      (t.attn.arms.get arm).change = (s.attn.arms.get arm).change.raise (fun _ => some (.idle, .aborted)) ∧
      t.sup.get arm = (frameEnded l s).sup.get arm ∧
      unchangedBut [.port l, .slots, .change arm, .changeSource arm, .supervisor arm, .permitSource arm] s t)

/-- CHANGE_TIMER_EXPIRY ends the change in fault: the RELEASED slot is BLOCKED with RACK attention, a take probe in
FINISH is mounted as by a close, and CHANGE_FAULT is recorded (R88, R122, R132). BLANK_TIMER_EXPIRY stops the blank
timer alone (R144). An expiry before its time changes nothing (log entry 5). -/
def Obligations.ChangeAndBlankTimersExpire : Prop :=
  ∀ (arm : Arm) (s : State),
    let c := s.rack.changes.get arm
    let q := s.touch.queues.get arm
    let out (timer : Option Timer) : Prop :=
      s.resetHeld = false ∧ ∃ t ∈ timer, t.duration ≤ (s.cellTime - t.start).toNat
    let blocks (i : Fin 12) : Bool := decide ((c.phase = .deposit ∧ c.putSlot = some i) ∨ (c.phase = .pick ∧ c.takeSlot = some i))
    let mounts : Prop := c.phase = .finish ∧ c.takeId ≠ 0
    (¬ out q.blankTimer → exec (.blankTimerExpiry arm) s = .next s) ∧
    (out q.blankTimer → exec (.blankTimerExpiry arm) s = .next (s.setQueue arm { q with blankTimer := none })) ∧
    (¬ out c.timer → exec (.changeTimerExpiry arm) s = .next s) ∧
    (out c.timer → RackSound s → ∃ t, exec (.changeTimerExpiry arm) s = .next t ∧
      t.rack.changes.get arm = { phase := .idle, putSlot := none, depositedId := none, takeSlot := none, takeId := 0
                                 outcome := .timedOut, timer := none } ∧
      (∀ i : Fin 12, slotAt t i = if blocks i then { slotAt s i with
          state := .blocked, probe := if c.phase = .deposit then none else (slotAt s i).probe, lock := true }
        else slotAt s i) ∧
      t.attn.cell.rack = ((List.finRange 12).find? blocks).elim s.attn.cell.rack (fun i =>
        s.attn.cell.rack.raise (addMark · i.val)) ∧
      (t.sup.get arm).recorded = { (s.sup.get arm).recorded with changeFault := true } ∧
      (t.sup.get arm).present = (s.sup.get arm).present ∧
      t.attn.cell.fault = s.attn.cell.fault.raise (addMark · (armIndex arm)) ∧
      (t.attn.arms.get arm).change = (s.attn.arms.get arm).change.raise (fun _ => some (.idle, .timedOut)) ∧
      (mounts → t.touch.queues.get arm = { q with
          blankTimer := if s.touch.blankTime = 0 then none else some ⟨s.cellTime, s.touch.blankTime⟩ } ∧
        ∀ (e : Fin 14) (p : Probe), entryAt s e = some p → p.location = .head arm →
          let due := decide (p.qual = .qualified) && drifts s p
          entryAt t e = some { p with
            reservation := if p.reservation = some arm then none else p.reservation
            qual := if due then .due else p.qual } ∧
          (∀ f : Fin 14, f ≠ e → entryAt t f = entryAt s f) ∧
          t.attn.cell.probe = (if due then s.attn.cell.probe.raise (addMark · e.val) else s.attn.cell.probe)) ∧
      (¬ mounts → unchangedBut [.slots, .change arm, .supervisor arm, .rackSource, .faultSource, .permitSource arm,
        .changeSource arm] s t) ∧
      (mounts → unchangedBut [.slots, .entries, .change arm, .queue arm, .supervisor arm, .rackSource, .faultSource,
        .probeSource, .permitSource arm, .changeSource arm] s t))

/-- SLOT_SERVICE reads the settled presence of a BLOCKED slot and sets it by Table 7.6; every other slot is refused
STATE (R136). The answer carries the words of READ_SLOT after it. -/
def Obligations.SlotServiceSetsABlockedSlot : Prop :=
  ∀ (r : Request) (s : State), deniedToArms (.slotService r) r s ∧ (onCell r s →
    (12 ≤ r.sel.toNat → exec (.slotService r) s = .next (refusedOnCell .badSelector s)) ∧
    ∀ i : Fin 12, i.val = r.sel.toNat →
      let x := slotAt s i
      let lost (f : Fin 14) : Prop := ∃ k ∈ entryAt s f, k.location = .missing ∧ k.home = i
      let became (st : SlotState) (probe : Option (Fin 14)) (u : State) : Prop :=
        let y : Slot := { x with state := st, probe := probe, lock := true }
        exec (.slotService r) s = .next (answered .cell
          { code := .ok
            d0 := packed [(0, st.num), (8, probe.elim 255 Fin.val), (16, 1), (17, flag x.settled), (18, flag x.raw),
              (19, flag x.settleTimer.isSome)]
            d1 := packed [(0, (probe.bind (entryAt s)).elim 0 fun k => k.id.toNat)], d2 := 0 } (u.setSlot i y))
      (x.state ≠ .blocked → exec (.slotService r) s = .next (refusedOnCell .state s)) ∧
      (x.state = .blocked → x.settled = true →
        (∀ e ∈ x.probe, became .stored (some e) s) ∧
        (x.probe = none → ∀ (f : Fin 14) (k : Probe), entryAt s f = some k → k.location = .missing → k.home = i →
          (∀ g < f, ¬ lost g) → became .stored (some f) (s.setEntry f (some { k with location := .slot i }))) ∧
        (x.probe = none → (∀ f, ¬ lost f) → became .unclaimed none s)) ∧
      (x.state = .blocked → x.settled = false →
        (∀ e ∈ x.probe, ∀ p ∈ entryAt s e, became .vacant none (s.setEntry e (some { p with location := .missing }))) ∧
        (x.probe = none → became .vacant none s)))

/-! ### Touch records and attention -/

/-- TOUCH: the checks of Table 8.2 in order, or a record with the next sequence, the tip centre compensated, offset
and saturated, and the flags of Table 8.3 as they stand before the touch is counted, appended at the newest end; the
use count rises and may make the probe DUE, and TOUCH attention is raised at the fill level (R115, R139 to R143). The
checks see the arm as it stood before the judgement of the same event (log entry 6). -/
def Obligations.TouchAppendsARecord : Prop :=
  ∀ (arm : Arm) (r : Request) (s : State), onArm arm r s → RackSound s →
    let l := linkOf arm
    let q := s.touch.queues.get arm
    let tip := r.sel.toNat
    let refusal : Option ResultCode :=
      if (s.sup.get arm).state ≠ .running then some .state
      else if (s.rack.changes.get arm).phase ≠ .idle then some .state
      else if ¬ ∃ e : Fin 14, ∃ p ∈ entryAt s e, p.location = .head arm then some .noProbe
      else if ¬ ∃ e : Fin 14, ∃ p ∈ entryAt s e, p.location = .head arm ∧ tip < p.tips.length then some .badSelector
      else if 32 ≤ q.records.length then some .queueFull
      else none
    (∀ code ∈ refusal, exec (.touch r) s = .next (answered l { code := code, d0 := 0, d1 := 0, d2 := 0 } (frameEnded l s))) ∧
    (refusal = none → ∀ (e : Fin 14) (p : Probe) (o : Axes Int), entryAt s e = some p → p.location = .head arm →
      p.tips[tip]? = some o →
      let c := compensate s arm ⟨r.d0.toInt, r.d1.toInt, r.d2.toInt⟩
      let bound (x : Int) : Int := max (-2000000000) (min 2000000000 x)
      let sum : Axes Int := ⟨c.x.value + o.x, c.y.value + o.y, c.z.value + o.z⟩
      let record : TouchRecord :=
        { sequence := q.counter + 1, probeId := p.id, tip := tip
          centre := ⟨bound sum.x, bound sum.y, bound sum.z⟩
          worst := (c.x.quality.worse c.y.quality).worse c.z.quality, time := s.cellTime
          due := decide (p.qual = .unqualified ∨ p.qual = .due), drift := drifts s p, blank := q.blankTimer.isSome
          unsoaked := decide (workpieceCount s < 2 ∨ ∃ d ∈ workpieceSpread s, (s.temp.spreadLimit : Int) < d)
          sat := c.x.sat || c.y.sat || c.z.sat || decide (bound sum.x ≠ sum.x ∨ bound sum.y ≠ sum.y ∨ bound sum.z ≠ sum.z) }
      let used := if p.useCount < 65535 then p.useCount + 1 else 65535
      let due := decide (p.qual = .qualified ∧ s.registry.useLimit ≤ used)
      ∃ t, exec (.touch r) s = .next t ∧
        t.touch.queues.get arm = { records := q.records ++ [record], counter := q.counter + 1, blankTimer := q.blankTimer } ∧
        entryAt t e = some { p with useCount := used, qual := if due then .due else p.qual } ∧
        (∀ f : Fin 14, f ≠ e → entryAt t f = entryAt s f) ∧
        t.attn.cell.probe = (if due then s.attn.cell.probe.raise (addMark · e.val) else s.attn.cell.probe) ∧
        t.attn.cell.touch = (if s.touch.fillLevel ≤ q.records.length + 1 then
          s.attn.cell.touch.raise (addMark · (armIndex arm)) else s.attn.cell.touch) ∧
        t.ports.get l = answeredPort { code := .ok, d0 := BitVec.ofInt 32 (bound sum.x)
                                       d1 := BitVec.ofInt 32 (bound sum.y), d2 := BitVec.ofInt 32 (bound sum.z) } ∧
        t.sup.get arm = (frameEnded l s).sup.get arm ∧
        unchangedBut [.port l, .queue arm, .entries, .probeSource, .touchSource, .supervisor arm, .permitSource arm] s t)

/-- TOUCH_HEAD reads the oldest record or the state of an arm's queue, and TOUCH_DROP removes the oldest record when
D0 carries its sequence (R146, R147, R173). -/
def Obligations.TouchHeadAndDrop : Prop :=
  ∀ (r : Request) (s : State), deniedToArms (.touchHead r) r s ∧ deniedToArms (.touchDrop r) r s ∧
    (onCell r s → QueuesSound s →
      let replies (d0 d1 d2 : Word) : Prop :=
        exec (.touchHead r) s = .next (answered .cell { code := .ok, d0 := d0, d1 := d1, d2 := d2 } s)
      (2 ≤ r.sel.toNat ∨ 2 < r.d0.toNat → exec (.touchHead r) s = .next (refusedOnCell .badSelector s)) ∧
      (2 ≤ r.sel.toNat → exec (.touchDrop r) s = .next (refusedOnCell .badSelector s)) ∧
      ∀ arm : Arm, r.sel.toNat = armIndex arm →
        let q := s.touch.queues.get arm
        (q.records = [] →
          (r.d0 = 0 ∨ r.d0 = 1 → exec (.touchHead r) s = .next (refusedOnCell .empty s)) ∧
          exec (.touchDrop r) s = .next (refusedOnCell .empty s)) ∧
        (r.d0 = 2 → replies (packed [(0, q.records.length)]) q.counter
          (packed [(0, q.blankTimer.elim 0 fun t => t.duration - (s.cellTime - t.start).toNat)])) ∧
        (∀ t ∈ q.records.head?,
          (r.d0 = 0 → replies t.sequence (packed [(0, t.probeId.toNat), (16, t.tip), (19, t.worst.rank), (24, flag t.due),
            (25, flag t.drift), (26, flag t.blank), (27, flag t.unsoaked), (28, flag t.sat)]) t.time) ∧
          (r.d0 = 1 → replies (BitVec.ofInt 32 t.centre.x) (BitVec.ofInt 32 t.centre.y) (BitVec.ofInt 32 t.centre.z)) ∧
          exec (.touchDrop r) s = .next (
            if t.sequence ≠ r.d0 then refusedOnCell .stale s
            else answered .cell
              { code := .ok, d0 := packed [(0, q.records.length - 1)]
                d1 := (q.records.tail.head?).elim 0 TouchRecord.sequence, d2 := 0 }
              (s.setQueue arm { q with records := q.records.tail }))))

/-- An event on a source whose enable is off is lost; on one whose enable is on it makes the source pending with its
member added or its value in place; the in-service flag takes no part (R151). ATTN_ENABLE writes the master and every
source enable of the link's unit together; a source left off loses its pending flag and detail and keeps its
in-service flag; the answer carries the pending and in-service sets (R155). On an arm link it is formed before the end
of LINK is judged (log entry 6). -/
def Obligations.EventsAndEnablesMoveTheSources : Prop :=
  ((∀ (δ : Type) (update : δ → δ) (src : Source δ),
    (src.enable = false → src.raise update = src) ∧
    (src.enable = true → (src.raise update).pending = true ∧ (src.raise update).detail = update src.detail ∧
      (src.raise update).enable = true ∧ (src.raise update).inService = src.inService)) ∧
  (∀ (n k : Nat) (set : BitVec n) (i : Nat), k < n →
    ((addMark set i).getLsbD k = true ↔ set.getLsbD k = true ∨ k = i)) ∧
  (∀ (arm : Arm) (s : State), raiseFault arm s = { s with attn := { s.attn with cell := { s.attn.cell with
    fault := s.attn.cell.fault.raise (addMark · (armIndex arm)) } } }) ∧
  (∀ (i : Fin 12) (s : State), raiseRack i s = { s with attn := { s.attn with cell := { s.attn.cell with
    rack := s.attn.cell.rack.raise (addMark · i.val) } } }) ∧
  (∀ (i : Fin 16) (s : State), raiseSensor i s = { s with attn := { s.attn with cell := { s.attn.cell with
    sensor := s.attn.cell.sensor.raise (addMark · i.val) } } })) ∧
  (∀ (r : Request) (s : State),
    let on (k : Nat) : Bool := r.d1.getLsbD k
    (∀ (δ : Type) (enable : Bool) (empty : δ) (src : Source δ), (src.enabled enable empty) =
      { enable := enable, pending := src.pending && enable, inService := src.inService
        detail := if enable then src.detail else empty }) ∧
    (onCell r s →
      let u := s.attn.cell
      let v : CellUnit :=
        { master := decide (r.d0 = 1), fault := u.fault.enabled (on 0) 0, rack := u.rack.enabled (on 1) 0
          model := u.model.enabled (on 2) none, sensor := u.sensor.enabled (on 3) 0, probe := u.probe.enabled (on 4) 0
          touch := u.touch.enabled (on 5) 0 }
      exec (.attnEnable r) s = .next (
        if 1 < r.d0.toNat ∨ 63 < r.d1.toNat then refusedOnCell .outOfRange s
        else answered .cell
          { code := .ok, d0 := r.d0, d1 := r.d1
            d2 := packed [(0, flag v.fault.pending), (1, flag v.rack.pending), (2, flag v.model.pending),
              (3, flag v.sensor.pending), (4, flag v.probe.pending), (5, flag v.touch.pending),
              (8, flag v.fault.inService), (9, flag v.rack.inService), (10, flag v.model.inService),
              (11, flag v.sensor.inService), (12, flag v.probe.inService), (13, flag v.touch.inService)] }
          { s with attn := { s.attn with cell := v } })) ∧
    (∀ arm : Arm, onArm arm r s →
      let l := linkOf arm
      let u := s.attn.arms.get arm
      let v : ArmUnit :=
        { master := decide (r.d0 = 1), permit := u.permit.enabled (on 0) none, change := u.change.enabled (on 1) none
          claim := u.claim.enabled (on 2) none, comp := u.comp.enabled (on 3) none }
      (1 < r.d0.toNat ∨ 15 < r.d1.toNat → exec (.attnEnable r) s =
        .next (answered l { code := .outOfRange, d0 := 0, d1 := 0, d2 := 0 } (frameEnded l s))) ∧
      (r.d0.toNat ≤ 1 → r.d1.toNat ≤ 15 → ∃ t, exec (.attnEnable r) s = .next t ∧
        t.ports.get l = answeredPort
          { code := .ok, d0 := r.d0, d1 := r.d1
            d2 := packed [(0, flag v.permit.pending), (1, flag v.change.pending), (2, flag v.claim.pending),
              (3, flag v.comp.pending), (8, flag v.permit.inService), (9, flag v.change.inService),
              (10, flag v.claim.inService), (11, flag v.comp.inService)] } ∧
        t.sup.get arm = (frameEnded l s).sup.get arm ∧
        t.attn.arms.get arm = { v with
          permit := if (t.sup.get arm).command = (s.sup.get arm).command then v.permit
            else v.permit.raise fun _ => some ((t.sup.get arm).command, (t.sup.get arm).state) } ∧
        unchangedBut [.port l, .supervisor arm, .armMaster arm, .permitSource arm, .changeSource arm, .claimSource arm,
          .compSource arm] s t)))

/-- ATTN_TAKE and ATTN_DONE on the Cell link: the eligible source of highest rank goes into service with its pending
flag and detail cleared and its detail answered; the source of highest rank in service leaves it; NONE with three zero
words when there is none (R153, R154). ATTN_TAKE and ATTN_DONE on an arm link, which act before the end of LINK is
judged (R87, R153, R154, log entry 6). -/
def Obligations.SourcesAreTakenAndDone : Prop :=
  (∀ (r : Request) (s : State), onCell r s →
    let u := s.attn.cell
    let took (code : Nat) (d1 d2 : Word) (v : CellUnit) : Prop := exec (.attnTake r) s = .next (answered .cell
      { code := .ok, d0 := packed [(0, code)], d1 := d1, d2 := d2 } { s with attn := { s.attn with cell := v } })
    let finished (code : Nat) (v : CellUnit) : Prop := exec (.attnDone r) s = .next (answered .cell
      { code := .ok, d0 := packed [(0, code)], d1 := 0, d2 := 0 } { s with attn := { s.attn with cell := v } })
    (eligibleCode s .cell = none → exec (.attnTake r) s = .next (refusedOnCell .none s)) ∧
    (eligibleCode s .cell = some 1 → took 1 (packed [(0, u.fault.detail.toNat)]) 0
      { u with fault := ⟨u.fault.enable, false, true, 0⟩ }) ∧
    (eligibleCode s .cell = some 2 → took 2 (packed [(0, u.rack.detail.toNat)]) 0
      { u with rack := ⟨u.rack.enable, false, true, 0⟩ }) ∧
    (eligibleCode s .cell = some 3 → took 3 (packed [(0, u.model.detail.elim 0 CheckResult.num)]) 0
      { u with model := ⟨u.model.enable, false, true, none⟩ }) ∧
    (eligibleCode s .cell = some 4 → took 4 (packed [(0, u.sensor.detail.toNat)]) 0
      { u with sensor := ⟨u.sensor.enable, false, true, 0⟩ }) ∧
    (eligibleCode s .cell = some 5 → took 5 (packed [(0, u.probe.detail.toNat)]) 0
      { u with probe := ⟨u.probe.enable, false, true, 0⟩ }) ∧
    (eligibleCode s .cell = some 6 → took 6 (packed [(0, u.touch.detail.toNat)]) 0
      { u with touch := ⟨u.touch.enable, false, true, 0⟩ }) ∧
    (if u.fault.inService then finished 1 { u with fault := { u.fault with inService := false } }
     else if u.rack.inService then finished 2 { u with rack := { u.rack with inService := false } }
     else if u.model.inService then finished 3 { u with model := { u.model with inService := false } }
     else if u.sensor.inService then finished 4 { u with sensor := { u.sensor with inService := false } }
     else if u.probe.inService then finished 5 { u with probe := { u.probe with inService := false } }
     else if u.touch.inService then finished 6 { u with touch := { u.touch with inService := false } }
     else exec (.attnDone r) s = .next (refusedOnCell .none s))) ∧
  (∀ (arm : Arm) (r : Request) (s : State), onArm arm r s →
    let l := linkOf arm
    let u := s.attn.arms.get arm
    let ended (i : Instr) (reply : Reply) (v : ArmUnit) : Prop := ∃ t, exec i s = .next t ∧
      t.ports.get l = answeredPort reply ∧ t.sup.get arm = (frameEnded l s).sup.get arm ∧
      t.attn.arms.get arm = { v with
        permit := if (t.sup.get arm).command = (s.sup.get arm).command then v.permit
          else v.permit.raise fun _ => some ((t.sup.get arm).command, (t.sup.get arm).state) } ∧
      unchangedBut [.port l, .supervisor arm, .permitSource arm, .changeSource arm, .claimSource arm, .compSource arm] s t
    let none3 : Reply := { code := .none, d0 := 0, d1 := 0, d2 := 0 }
    let done (code : Nat) : Reply := { code := .ok, d0 := packed [(0, code)], d1 := 0, d2 := 0 }
    (eligibleCode s l = none → exec (.attnTake r) s = .next (answered l none3 (frameEnded l s))) ∧
    (eligibleCode s l = some 1 → ended (.attnTake r)
      { code := .ok, d0 := 1, d1 := u.permit.detail.elim 0 fun d => packed [(0, flag d.1), (8, d.2.num)], d2 := 0 }
      { u with permit := ⟨u.permit.enable, false, true, none⟩ }) ∧
    (eligibleCode s l = some 2 → ended (.attnTake r)
      { code := .ok, d0 := 2, d1 := u.change.detail.elim 0 fun d => packed [(0, d.1.num), (8, d.2.num)], d2 := 0 }
      { u with change := ⟨u.change.enable, false, true, none⟩ }) ∧
    (eligibleCode s l = some 3 → ended (.attnTake r)
      { code := .ok, d0 := 3, d1 := packed [(0, u.claim.detail.elim 0 Claim.first)]
        d2 := packed [(0, u.claim.detail.elim 0 Claim.count)] }
      { u with claim := ⟨u.claim.enable, false, true, none⟩ }) ∧
    (eligibleCode s l = some 4 → ended (.attnTake r)
      { code := .ok, d0 := 4, d1 := packed [(0, u.comp.detail.elim 0 Quality.rank)], d2 := 0 }
      { u with comp := ⟨u.comp.enable, false, true, none⟩ }) ∧
    (if u.permit.inService then ended (.attnDone r) (done 1) { u with permit := { u.permit with inService := false } }
     else if u.change.inService then ended (.attnDone r) (done 2) { u with change := { u.change with inService := false } }
     else if u.claim.inService then ended (.attnDone r) (done 3) { u with claim := { u.claim with inService := false } }
     else if u.comp.inService then ended (.attnDone r) (done 4) { u with comp := { u.comp with inService := false } }
     else exec (.attnDone r) s = .next (answered l none3 (frameEnded l s))))

/-! ### What every step keeps -/

/-- Every step keeps the supervisors sound: the permit is commanded in RUNNING alone, a recorded LATCHED cause holds
its arm in STOPPED or DISABLED, a cause in mode OFF is never recorded and every other present cause is, and RUNNING
and HELD agree with the AUTO causes present (R84, R85, R89, R96, R99). -/
def Obligations.EveryStepKeepsTheSupervisorsSound : Prop :=
  ∀ s t : State, SupervisorsSound s → step s = .next t → SupervisorsSound t

/-- Every step keeps the registry and the touch queues sound: records within their ranges, ids unlike, at most 32
touch records whose sequences rise by exactly one and end at the counter (R103, R138 and Table 6.1). -/
def Obligations.EveryStepKeepsProbesAndTouchesSound : Prop :=
  ∀ s t : State, RegistrySound s ∧ QueuesSound s → step s = .next t → RegistrySound t ∧ QueuesSound t

/-- Every step keeps the zones and claims sound: defined zones disjoint, at most one RACK zone, never two pending
claims, and each waiter mark that of a pending claim (R61, R64, R65). -/
def Obligations.EveryStepKeepsZonesAndClaimsSound : Prop :=
  ∀ s t : State, ZonesSound s → step s = .next t → ZonesSound t

/-- Every step keeps the attention units and the ports sound: a pending source has its enable on, an idle one an empty
detail, and a run count stays within 255 (R152, R155, R163). -/
def Obligations.EveryStepKeepsAttentionAndPortsSound : Prop :=
  ∀ s t : State, AttentionSound s ∧ PortsSound s → step s = .next t → AttentionSound t ∧ PortsSound t

/-- Every step keeps the temperature unit sound: OFF exactly in role UNUSED, every filtered temperature within −20,000
and +60,000 mK, at most six failures within the last 64 conversions, six only in LOCKED_OUT, and at most one
conversion in flight with the sequencer's state (R1, R6, R9, R14, R15, R16). Every step keeps the model store sound:
ACTIVE is EMPTY or an image that passes NODES and SPAN, whose sensors all still have role SCALE (R24, R25). -/
def Obligations.EveryStepKeepsTemperatureAndModelSound : Prop :=
  (∀ s t : State, SensorsSound s ∧ SequencerSound s.temp.seq → step s = .next t →
    SensorsSound t ∧ SequencerSound t.temp.seq) ∧
  (∀ s t : State, ModelSound s → step s = .next t → ModelSound t)

/-- Every step keeps the rack sound: a slot's lock is released in RELEASED alone, a slot holds a probe exactly when
the probe is located there, a slot is RELEASED exactly for an open change, an arm with an open change holds the RACK
zone, and a head carries at most one probe (R104, R118, R119, R123). -/
def Obligations.EveryStepKeepsTheRackSound : Prop :=
  ∀ s t : State, RackSound s ∧ ChangesSound s ∧ ZonesSound s ∧ RegistrySound s → step s = .next t →
    RackSound t ∧ ChangesSound t
end

