-- ==== Sys2Proof/Laws/Tables.lean ====
section
/-! SUPPORT. Reading a table, an arm, a link or a cause after a write of it: the place written gives the value written,
every other place what it gave before. -/

namespace Sys2Proof.Machine

/-! ### Arms -/

@[simp] theorem PerArm.get_set {α : Type} (p : PerArm α) (arm other : Arm) (v : α) :
    (p.set arm v).get other = if other = arm then v else p.get other := by
  cases arm <;> cases other <;> rfl

theorem PerArm.get_set_same {α : Type} (p : PerArm α) (arm : Arm) (v : α) : (p.set arm v).get arm = v := by simp

theorem PerArm.get_set_other {α : Type} (p : PerArm α) {arm other : Arm} (h : other ≠ arm) (v : α) :
    (p.set arm v).get other = p.get other := by simp [h]

@[simp] theorem PerArm.set_get {α : Type} (p : PerArm α) (arm : Arm) : p.set arm (p.get arm) = p := by
  cases arm <;> rfl

@[simp] theorem PerArm.set_set {α : Type} (p : PerArm α) (arm : Arm) (v w : α) : (p.set arm v).set arm w = p.set arm w := by
  cases arm <;> rfl

/-- Two pairs with the same value for each arm are the same. -/
theorem PerArm.ext_get {α : Type} {p q : PerArm α} (h : ∀ arm, p.get arm = q.get arm) : p = q := by
  cases p; cases q; have ha := h .a; have hb := h .b; simp_all [PerArm.get]

@[simp] theorem armOf_linkOf (arm : Arm) : armOf (linkOf arm) = some arm := by cases arm <;> rfl

@[simp] theorem linkOf_ne_cell (arm : Arm) : linkOf arm ≠ .cell := by cases arm <;> decide

@[simp] theorem linkOf_inj {arm other : Arm} : linkOf arm = linkOf other ↔ arm = other := by
  cases arm <;> cases other <;> decide

@[simp] theorem otherArm_ne (arm : Arm) : otherArm arm ≠ arm := by cases arm <;> decide

@[simp] theorem otherArm_otherArm (arm : Arm) : otherArm (otherArm arm) = arm := by cases arm <;> rfl

theorem eq_other_of_ne {arm other : Arm} (h : other ≠ arm) : other = otherArm arm := by
  cases arm <;> cases other <;> first | rfl | exact absurd rfl h

/-! ### Links -/

@[simp] theorem PerLink.get_set {α : Type} (p : PerLink α) (l k : Link) (v : α) :
    (p.set l v).get k = if k = l then v else p.get k := by
  cases l <;> cases k <;> rfl

@[simp] theorem PerLink.set_get {α : Type} (p : PerLink α) (l : Link) : p.set l (p.get l) = p := by cases l <;> rfl

@[simp] theorem PerLink.set_set {α : Type} (p : PerLink α) (l : Link) (v w : α) : (p.set l v).set l w = p.set l w := by
  cases l <;> rfl

/-! ### Causes -/

@[simp] theorem PerCause.get_set {α : Type} (p : PerCause α) (c k : Cause) (v : α) :
    (p.set c v).get k = if k = c then v else p.get k := by
  cases c <;> cases k <;> rfl

@[simp] theorem PerCause.set_get {α : Type} (p : PerCause α) (c : Cause) : p.set c (p.get c) = p := by cases c <;> rfl

@[simp] theorem mem_allCauses (c : Cause) : c ∈ allCauses := by cases c <;> decide

/-- Two sets of causes with the same mark for each cause are the same. -/
theorem PerCause.ext_get {α : Type} {p q : PerCause α} (h : ∀ c, p.get c = q.get c) : p = q := by
  cases p; cases q
  have h1 := h .guard; have h2 := h .overdue; have h3 := h .compLost
  have h4 := h .link; have h5 := h .permitMismatch; have h6 := h .changeFault
  simp_all [PerCause.get]

/-! ### Tables -/

@[simp] theorem vget_vput {α : Type} {n : Nat} (v : Vector α n) (i j : Fin n) (x : α) :
    vget (vput v i x) j = if j = i then x else vget v j := by
  simp only [vget, vput, Vector.getElem_set, Fin.ext_iff, eq_comm]

@[simp] theorem vput_vget {α : Type} {n : Nat} (v : Vector α n) (i : Fin n) : vput v i (vget v i) = v := by
  simp [vget, vput]

@[simp] theorem vget_replicate {α : Type} {n : Nat} (x : α) (i : Fin n) : vget (Vector.replicate n x) i = x := by
  simp [vget]

@[simp] theorem vget_ofFn {α : Type} {n : Nat} (f : Fin n → α) (i : Fin n) : vget (Vector.ofFn f) i = f i := by
  simp [vget]

@[simp] theorem vget_vmap {α : Type} {n : Nat} (f : Fin n → α → α) (v : Vector α n) (i : Fin n) :
    vget (vmap f v) i = f i (vget v i) := by
  simp [vmap]

/-- Two tables with the same entries are the same. -/
theorem vext {α : Type} {n : Nat} {v w : Vector α n} (h : ∀ i, vget v i = vget w i) : v = w := by
  ext i hi; exact h ⟨i, hi⟩

/-! ### Marks -/

/-- Adding a mark sets that mark and no other. -/
@[simp] theorem addMark_getLsbD {n : Nat} (set : BitVec n) (i : Nat) {k : Nat} (hk : k < n) :
    (addMark set i).getLsbD k = (set.getLsbD k || decide (k = i)) := by
  have h1 : 0 < n := by omega
  rw [addMark, BitVec.getLsbD_or, BitVec.getLsbD_shiftLeft, BitVec.getLsbD_one]
  by_cases h : k = i
  · subst h; simp [hk, h1]
  · have : k < i ∨ k - i ≠ 0 := by omega
    rcases this with h2 | h2 <;> simp [h, h2]

end Sys2Proof.Machine
end

