-- ==== Sys2Proof/Laws/State.lean ====
section
/-! SUPPORT. What each named update of the state leaves in each field of the state: one lemma per field per update. -/

namespace Sys2Proof.Machine

/-! `State.setPort` -/

@[simp] theorem State.setPort_cellTime (s : State) (l : Link) (p : Port) :
    (s.setPort l p).cellTime = s.cellTime := rfl
@[simp] theorem State.setPort_resetHeld (s : State) (l : Link) (p : Port) :
    (s.setPort l p).resetHeld = s.resetHeld := rfl
@[simp] theorem State.setPort_ports (s : State) (l : Link) (p : Port) : (s.setPort l p).ports = s.ports.set l p := rfl
@[simp] theorem State.setPort_temp (s : State) (l : Link) (p : Port) : (s.setPort l p).temp = s.temp := rfl
@[simp] theorem State.setPort_model (s : State) (l : Link) (p : Port) : (s.setPort l p).model = s.model := rfl
@[simp] theorem State.setPort_lastPos (s : State) (l : Link) (p : Port) : (s.setPort l p).lastPos = s.lastPos := rfl
@[simp] theorem State.setPort_zones (s : State) (l : Link) (p : Port) : (s.setPort l p).zones = s.zones := rfl
@[simp] theorem State.setPort_sup (s : State) (l : Link) (p : Port) : (s.setPort l p).sup = s.sup := rfl
@[simp] theorem State.setPort_registry (s : State) (l : Link) (p : Port) :
    (s.setPort l p).registry = s.registry := rfl
@[simp] theorem State.setPort_rack (s : State) (l : Link) (p : Port) : (s.setPort l p).rack = s.rack := rfl
@[simp] theorem State.setPort_touch (s : State) (l : Link) (p : Port) : (s.setPort l p).touch = s.touch := rfl
@[simp] theorem State.setPort_attn (s : State) (l : Link) (p : Port) : (s.setPort l p).attn = s.attn := rfl
@[simp] theorem State.setPort_alarmMap (s : State) (l : Link) (p : Port) :
    (s.setPort l p).alarmMap = s.alarmMap := rfl
@[simp] theorem State.setPort_disabledBy (s : State) (l : Link) (p : Port) :
    (s.setPort l p).disabledBy = s.disabledBy := rfl
@[simp] theorem State.setPort_pending (s : State) (l : Link) (p : Port) : (s.setPort l p).pending = s.pending := rfl
@[simp] theorem State.setPort_freeIndex (s : State) (l : Link) (p : Port) :
    (s.setPort l p).freeIndex = s.freeIndex := rfl

/-! `State.modPort` -/

@[simp] theorem State.modPort_cellTime (s : State) (l : Link) (f : Port → Port) :
    (s.modPort l f).cellTime = s.cellTime := rfl
@[simp] theorem State.modPort_resetHeld (s : State) (l : Link) (f : Port → Port) :
    (s.modPort l f).resetHeld = s.resetHeld := rfl
@[simp] theorem State.modPort_ports (s : State) (l : Link) (f : Port → Port) :
    (s.modPort l f).ports = s.ports.set l (f (s.ports.get l)) := rfl
@[simp] theorem State.modPort_temp (s : State) (l : Link) (f : Port → Port) : (s.modPort l f).temp = s.temp := rfl
@[simp] theorem State.modPort_model (s : State) (l : Link) (f : Port → Port) : (s.modPort l f).model = s.model := rfl
@[simp] theorem State.modPort_lastPos (s : State) (l : Link) (f : Port → Port) :
    (s.modPort l f).lastPos = s.lastPos := rfl
@[simp] theorem State.modPort_zones (s : State) (l : Link) (f : Port → Port) : (s.modPort l f).zones = s.zones := rfl
@[simp] theorem State.modPort_sup (s : State) (l : Link) (f : Port → Port) : (s.modPort l f).sup = s.sup := rfl
@[simp] theorem State.modPort_registry (s : State) (l : Link) (f : Port → Port) :
    (s.modPort l f).registry = s.registry := rfl
@[simp] theorem State.modPort_rack (s : State) (l : Link) (f : Port → Port) : (s.modPort l f).rack = s.rack := rfl
@[simp] theorem State.modPort_touch (s : State) (l : Link) (f : Port → Port) : (s.modPort l f).touch = s.touch := rfl
@[simp] theorem State.modPort_attn (s : State) (l : Link) (f : Port → Port) : (s.modPort l f).attn = s.attn := rfl
@[simp] theorem State.modPort_alarmMap (s : State) (l : Link) (f : Port → Port) :
    (s.modPort l f).alarmMap = s.alarmMap := rfl
@[simp] theorem State.modPort_disabledBy (s : State) (l : Link) (f : Port → Port) :
    (s.modPort l f).disabledBy = s.disabledBy := rfl
@[simp] theorem State.modPort_pending (s : State) (l : Link) (f : Port → Port) :
    (s.modPort l f).pending = s.pending := rfl
@[simp] theorem State.modPort_freeIndex (s : State) (l : Link) (f : Port → Port) :
    (s.modPort l f).freeIndex = s.freeIndex := rfl

/-! `State.setSup` -/

@[simp] theorem State.setSup_cellTime (s : State) (arm : Arm) (v : Supervisor) :
    (s.setSup arm v).cellTime = s.cellTime := rfl
@[simp] theorem State.setSup_resetHeld (s : State) (arm : Arm) (v : Supervisor) :
    (s.setSup arm v).resetHeld = s.resetHeld := rfl
@[simp] theorem State.setSup_ports (s : State) (arm : Arm) (v : Supervisor) : (s.setSup arm v).ports = s.ports := rfl
@[simp] theorem State.setSup_temp (s : State) (arm : Arm) (v : Supervisor) : (s.setSup arm v).temp = s.temp := rfl
@[simp] theorem State.setSup_model (s : State) (arm : Arm) (v : Supervisor) : (s.setSup arm v).model = s.model := rfl
@[simp] theorem State.setSup_lastPos (s : State) (arm : Arm) (v : Supervisor) :
    (s.setSup arm v).lastPos = s.lastPos := rfl
@[simp] theorem State.setSup_zones (s : State) (arm : Arm) (v : Supervisor) : (s.setSup arm v).zones = s.zones := rfl
@[simp] theorem State.setSup_sup (s : State) (arm : Arm) (v : Supervisor) :
    (s.setSup arm v).sup = s.sup.set arm v := rfl
@[simp] theorem State.setSup_registry (s : State) (arm : Arm) (v : Supervisor) :
    (s.setSup arm v).registry = s.registry := rfl
@[simp] theorem State.setSup_rack (s : State) (arm : Arm) (v : Supervisor) : (s.setSup arm v).rack = s.rack := rfl
@[simp] theorem State.setSup_touch (s : State) (arm : Arm) (v : Supervisor) : (s.setSup arm v).touch = s.touch := rfl
@[simp] theorem State.setSup_attn (s : State) (arm : Arm) (v : Supervisor) : (s.setSup arm v).attn = s.attn := rfl
@[simp] theorem State.setSup_alarmMap (s : State) (arm : Arm) (v : Supervisor) :
    (s.setSup arm v).alarmMap = s.alarmMap := rfl
@[simp] theorem State.setSup_disabledBy (s : State) (arm : Arm) (v : Supervisor) :
    (s.setSup arm v).disabledBy = s.disabledBy := rfl
@[simp] theorem State.setSup_pending (s : State) (arm : Arm) (v : Supervisor) :
    (s.setSup arm v).pending = s.pending := rfl
@[simp] theorem State.setSup_freeIndex (s : State) (arm : Arm) (v : Supervisor) :
    (s.setSup arm v).freeIndex = s.freeIndex := rfl

/-! `State.modSup` -/

@[simp] theorem State.modSup_cellTime (s : State) (arm : Arm) (f : Supervisor → Supervisor) :
    (s.modSup arm f).cellTime = s.cellTime := rfl
@[simp] theorem State.modSup_resetHeld (s : State) (arm : Arm) (f : Supervisor → Supervisor) :
    (s.modSup arm f).resetHeld = s.resetHeld := rfl
@[simp] theorem State.modSup_ports (s : State) (arm : Arm) (f : Supervisor → Supervisor) :
    (s.modSup arm f).ports = s.ports := rfl
@[simp] theorem State.modSup_temp (s : State) (arm : Arm) (f : Supervisor → Supervisor) :
    (s.modSup arm f).temp = s.temp := rfl
@[simp] theorem State.modSup_model (s : State) (arm : Arm) (f : Supervisor → Supervisor) :
    (s.modSup arm f).model = s.model := rfl
@[simp] theorem State.modSup_lastPos (s : State) (arm : Arm) (f : Supervisor → Supervisor) :
    (s.modSup arm f).lastPos = s.lastPos := rfl
@[simp] theorem State.modSup_zones (s : State) (arm : Arm) (f : Supervisor → Supervisor) :
    (s.modSup arm f).zones = s.zones := rfl
@[simp] theorem State.modSup_sup (s : State) (arm : Arm) (f : Supervisor → Supervisor) :
    (s.modSup arm f).sup = s.sup.set arm (f (s.sup.get arm)) := rfl
@[simp] theorem State.modSup_registry (s : State) (arm : Arm) (f : Supervisor → Supervisor) :
    (s.modSup arm f).registry = s.registry := rfl
@[simp] theorem State.modSup_rack (s : State) (arm : Arm) (f : Supervisor → Supervisor) :
    (s.modSup arm f).rack = s.rack := rfl
@[simp] theorem State.modSup_touch (s : State) (arm : Arm) (f : Supervisor → Supervisor) :
    (s.modSup arm f).touch = s.touch := rfl
@[simp] theorem State.modSup_attn (s : State) (arm : Arm) (f : Supervisor → Supervisor) :
    (s.modSup arm f).attn = s.attn := rfl
@[simp] theorem State.modSup_alarmMap (s : State) (arm : Arm) (f : Supervisor → Supervisor) :
    (s.modSup arm f).alarmMap = s.alarmMap := rfl
@[simp] theorem State.modSup_disabledBy (s : State) (arm : Arm) (f : Supervisor → Supervisor) :
    (s.modSup arm f).disabledBy = s.disabledBy := rfl
@[simp] theorem State.modSup_pending (s : State) (arm : Arm) (f : Supervisor → Supervisor) :
    (s.modSup arm f).pending = s.pending := rfl
@[simp] theorem State.modSup_freeIndex (s : State) (arm : Arm) (f : Supervisor → Supervisor) :
    (s.modSup arm f).freeIndex = s.freeIndex := rfl

/-! `State.setLastPos` -/

@[simp] theorem State.setLastPos_cellTime (s : State) (arm : Arm) (p : Option PosRecord) :
    (s.setLastPos arm p).cellTime = s.cellTime := rfl
@[simp] theorem State.setLastPos_resetHeld (s : State) (arm : Arm) (p : Option PosRecord) :
    (s.setLastPos arm p).resetHeld = s.resetHeld := rfl
@[simp] theorem State.setLastPos_ports (s : State) (arm : Arm) (p : Option PosRecord) :
    (s.setLastPos arm p).ports = s.ports := rfl
@[simp] theorem State.setLastPos_temp (s : State) (arm : Arm) (p : Option PosRecord) :
    (s.setLastPos arm p).temp = s.temp := rfl
@[simp] theorem State.setLastPos_model (s : State) (arm : Arm) (p : Option PosRecord) :
    (s.setLastPos arm p).model = s.model := rfl
@[simp] theorem State.setLastPos_lastPos (s : State) (arm : Arm) (p : Option PosRecord) :
    (s.setLastPos arm p).lastPos = s.lastPos.set arm p := rfl
@[simp] theorem State.setLastPos_zones (s : State) (arm : Arm) (p : Option PosRecord) :
    (s.setLastPos arm p).zones = s.zones := rfl
@[simp] theorem State.setLastPos_sup (s : State) (arm : Arm) (p : Option PosRecord) :
    (s.setLastPos arm p).sup = s.sup := rfl
@[simp] theorem State.setLastPos_registry (s : State) (arm : Arm) (p : Option PosRecord) :
    (s.setLastPos arm p).registry = s.registry := rfl
@[simp] theorem State.setLastPos_rack (s : State) (arm : Arm) (p : Option PosRecord) :
    (s.setLastPos arm p).rack = s.rack := rfl
@[simp] theorem State.setLastPos_touch (s : State) (arm : Arm) (p : Option PosRecord) :
    (s.setLastPos arm p).touch = s.touch := rfl
@[simp] theorem State.setLastPos_attn (s : State) (arm : Arm) (p : Option PosRecord) :
    (s.setLastPos arm p).attn = s.attn := rfl
@[simp] theorem State.setLastPos_alarmMap (s : State) (arm : Arm) (p : Option PosRecord) :
    (s.setLastPos arm p).alarmMap = s.alarmMap := rfl
@[simp] theorem State.setLastPos_disabledBy (s : State) (arm : Arm) (p : Option PosRecord) :
    (s.setLastPos arm p).disabledBy = s.disabledBy := rfl
@[simp] theorem State.setLastPos_pending (s : State) (arm : Arm) (p : Option PosRecord) :
    (s.setLastPos arm p).pending = s.pending := rfl
@[simp] theorem State.setLastPos_freeIndex (s : State) (arm : Arm) (p : Option PosRecord) :
    (s.setLastPos arm p).freeIndex = s.freeIndex := rfl

/-! `State.setSensor` -/

@[simp] theorem State.setSensor_cellTime (s : State) (i : Fin 16) (x : Sensor) :
    (s.setSensor i x).cellTime = s.cellTime := rfl
@[simp] theorem State.setSensor_resetHeld (s : State) (i : Fin 16) (x : Sensor) :
    (s.setSensor i x).resetHeld = s.resetHeld := rfl
@[simp] theorem State.setSensor_ports (s : State) (i : Fin 16) (x : Sensor) : (s.setSensor i x).ports = s.ports := rfl
@[simp] theorem State.setSensor_temp (s : State) (i : Fin 16) (x : Sensor) :
    (s.setSensor i x).temp = { s.temp with sensors := vput s.temp.sensors i x } := rfl
@[simp] theorem State.setSensor_model (s : State) (i : Fin 16) (x : Sensor) : (s.setSensor i x).model = s.model := rfl
@[simp] theorem State.setSensor_lastPos (s : State) (i : Fin 16) (x : Sensor) :
    (s.setSensor i x).lastPos = s.lastPos := rfl
@[simp] theorem State.setSensor_zones (s : State) (i : Fin 16) (x : Sensor) : (s.setSensor i x).zones = s.zones := rfl
@[simp] theorem State.setSensor_sup (s : State) (i : Fin 16) (x : Sensor) : (s.setSensor i x).sup = s.sup := rfl
@[simp] theorem State.setSensor_registry (s : State) (i : Fin 16) (x : Sensor) :
    (s.setSensor i x).registry = s.registry := rfl
@[simp] theorem State.setSensor_rack (s : State) (i : Fin 16) (x : Sensor) : (s.setSensor i x).rack = s.rack := rfl
@[simp] theorem State.setSensor_touch (s : State) (i : Fin 16) (x : Sensor) : (s.setSensor i x).touch = s.touch := rfl
@[simp] theorem State.setSensor_attn (s : State) (i : Fin 16) (x : Sensor) : (s.setSensor i x).attn = s.attn := rfl
@[simp] theorem State.setSensor_alarmMap (s : State) (i : Fin 16) (x : Sensor) :
    (s.setSensor i x).alarmMap = s.alarmMap := rfl
@[simp] theorem State.setSensor_disabledBy (s : State) (i : Fin 16) (x : Sensor) :
    (s.setSensor i x).disabledBy = s.disabledBy := rfl
@[simp] theorem State.setSensor_pending (s : State) (i : Fin 16) (x : Sensor) :
    (s.setSensor i x).pending = s.pending := rfl
@[simp] theorem State.setSensor_freeIndex (s : State) (i : Fin 16) (x : Sensor) :
    (s.setSensor i x).freeIndex = s.freeIndex := rfl

/-! `State.setSeq` -/

@[simp] theorem State.setSeq_cellTime (s : State) (q : Sequencer) : (s.setSeq q).cellTime = s.cellTime := rfl
@[simp] theorem State.setSeq_resetHeld (s : State) (q : Sequencer) : (s.setSeq q).resetHeld = s.resetHeld := rfl
@[simp] theorem State.setSeq_ports (s : State) (q : Sequencer) : (s.setSeq q).ports = s.ports := rfl
@[simp] theorem State.setSeq_temp (s : State) (q : Sequencer) : (s.setSeq q).temp = { s.temp with seq := q } := rfl
@[simp] theorem State.setSeq_model (s : State) (q : Sequencer) : (s.setSeq q).model = s.model := rfl
@[simp] theorem State.setSeq_lastPos (s : State) (q : Sequencer) : (s.setSeq q).lastPos = s.lastPos := rfl
@[simp] theorem State.setSeq_zones (s : State) (q : Sequencer) : (s.setSeq q).zones = s.zones := rfl
@[simp] theorem State.setSeq_sup (s : State) (q : Sequencer) : (s.setSeq q).sup = s.sup := rfl
@[simp] theorem State.setSeq_registry (s : State) (q : Sequencer) : (s.setSeq q).registry = s.registry := rfl
@[simp] theorem State.setSeq_rack (s : State) (q : Sequencer) : (s.setSeq q).rack = s.rack := rfl
@[simp] theorem State.setSeq_touch (s : State) (q : Sequencer) : (s.setSeq q).touch = s.touch := rfl
@[simp] theorem State.setSeq_attn (s : State) (q : Sequencer) : (s.setSeq q).attn = s.attn := rfl
@[simp] theorem State.setSeq_alarmMap (s : State) (q : Sequencer) : (s.setSeq q).alarmMap = s.alarmMap := rfl
@[simp] theorem State.setSeq_disabledBy (s : State) (q : Sequencer) : (s.setSeq q).disabledBy = s.disabledBy := rfl
@[simp] theorem State.setSeq_pending (s : State) (q : Sequencer) : (s.setSeq q).pending = s.pending := rfl
@[simp] theorem State.setSeq_freeIndex (s : State) (q : Sequencer) : (s.setSeq q).freeIndex = s.freeIndex := rfl

/-! `State.setZoneTable` -/

@[simp] theorem State.setZoneTable_cellTime (s : State) (t : Vector Zone 16) :
    (s.setZoneTable t).cellTime = s.cellTime := rfl
@[simp] theorem State.setZoneTable_resetHeld (s : State) (t : Vector Zone 16) :
    (s.setZoneTable t).resetHeld = s.resetHeld := rfl
@[simp] theorem State.setZoneTable_ports (s : State) (t : Vector Zone 16) : (s.setZoneTable t).ports = s.ports := rfl
@[simp] theorem State.setZoneTable_temp (s : State) (t : Vector Zone 16) : (s.setZoneTable t).temp = s.temp := rfl
@[simp] theorem State.setZoneTable_model (s : State) (t : Vector Zone 16) : (s.setZoneTable t).model = s.model := rfl
@[simp] theorem State.setZoneTable_lastPos (s : State) (t : Vector Zone 16) :
    (s.setZoneTable t).lastPos = s.lastPos := rfl
@[simp] theorem State.setZoneTable_zones (s : State) (t : Vector Zone 16) :
    (s.setZoneTable t).zones = { s.zones with table := t } := rfl
@[simp] theorem State.setZoneTable_sup (s : State) (t : Vector Zone 16) : (s.setZoneTable t).sup = s.sup := rfl
@[simp] theorem State.setZoneTable_registry (s : State) (t : Vector Zone 16) :
    (s.setZoneTable t).registry = s.registry := rfl
@[simp] theorem State.setZoneTable_rack (s : State) (t : Vector Zone 16) : (s.setZoneTable t).rack = s.rack := rfl
@[simp] theorem State.setZoneTable_touch (s : State) (t : Vector Zone 16) : (s.setZoneTable t).touch = s.touch := rfl
@[simp] theorem State.setZoneTable_attn (s : State) (t : Vector Zone 16) : (s.setZoneTable t).attn = s.attn := rfl
@[simp] theorem State.setZoneTable_alarmMap (s : State) (t : Vector Zone 16) :
    (s.setZoneTable t).alarmMap = s.alarmMap := rfl
@[simp] theorem State.setZoneTable_disabledBy (s : State) (t : Vector Zone 16) :
    (s.setZoneTable t).disabledBy = s.disabledBy := rfl
@[simp] theorem State.setZoneTable_pending (s : State) (t : Vector Zone 16) :
    (s.setZoneTable t).pending = s.pending := rfl
@[simp] theorem State.setZoneTable_freeIndex (s : State) (t : Vector Zone 16) :
    (s.setZoneTable t).freeIndex = s.freeIndex := rfl

/-! `State.setClaim` -/

@[simp] theorem State.setClaim_cellTime (s : State) (arm : Arm) (c : Option Claim) :
    (s.setClaim arm c).cellTime = s.cellTime := rfl
@[simp] theorem State.setClaim_resetHeld (s : State) (arm : Arm) (c : Option Claim) :
    (s.setClaim arm c).resetHeld = s.resetHeld := rfl
@[simp] theorem State.setClaim_ports (s : State) (arm : Arm) (c : Option Claim) :
    (s.setClaim arm c).ports = s.ports := rfl
@[simp] theorem State.setClaim_temp (s : State) (arm : Arm) (c : Option Claim) :
    (s.setClaim arm c).temp = s.temp := rfl
@[simp] theorem State.setClaim_model (s : State) (arm : Arm) (c : Option Claim) :
    (s.setClaim arm c).model = s.model := rfl
@[simp] theorem State.setClaim_lastPos (s : State) (arm : Arm) (c : Option Claim) :
    (s.setClaim arm c).lastPos = s.lastPos := rfl
@[simp] theorem State.setClaim_zones (s : State) (arm : Arm) (c : Option Claim) :
    (s.setClaim arm c).zones = { s.zones with claims := s.zones.claims.set arm c } := rfl
@[simp] theorem State.setClaim_sup (s : State) (arm : Arm) (c : Option Claim) : (s.setClaim arm c).sup = s.sup := rfl
@[simp] theorem State.setClaim_registry (s : State) (arm : Arm) (c : Option Claim) :
    (s.setClaim arm c).registry = s.registry := rfl
@[simp] theorem State.setClaim_rack (s : State) (arm : Arm) (c : Option Claim) :
    (s.setClaim arm c).rack = s.rack := rfl
@[simp] theorem State.setClaim_touch (s : State) (arm : Arm) (c : Option Claim) :
    (s.setClaim arm c).touch = s.touch := rfl
@[simp] theorem State.setClaim_attn (s : State) (arm : Arm) (c : Option Claim) :
    (s.setClaim arm c).attn = s.attn := rfl
@[simp] theorem State.setClaim_alarmMap (s : State) (arm : Arm) (c : Option Claim) :
    (s.setClaim arm c).alarmMap = s.alarmMap := rfl
@[simp] theorem State.setClaim_disabledBy (s : State) (arm : Arm) (c : Option Claim) :
    (s.setClaim arm c).disabledBy = s.disabledBy := rfl
@[simp] theorem State.setClaim_pending (s : State) (arm : Arm) (c : Option Claim) :
    (s.setClaim arm c).pending = s.pending := rfl
@[simp] theorem State.setClaim_freeIndex (s : State) (arm : Arm) (c : Option Claim) :
    (s.setClaim arm c).freeIndex = s.freeIndex := rfl

/-! `State.setGuard` -/

@[simp] theorem State.setGuard_cellTime (s : State) (arm : Arm) (g : Option GuardRecord) :
    (s.setGuard arm g).cellTime = s.cellTime := rfl
@[simp] theorem State.setGuard_resetHeld (s : State) (arm : Arm) (g : Option GuardRecord) :
    (s.setGuard arm g).resetHeld = s.resetHeld := rfl
@[simp] theorem State.setGuard_ports (s : State) (arm : Arm) (g : Option GuardRecord) :
    (s.setGuard arm g).ports = s.ports := rfl
@[simp] theorem State.setGuard_temp (s : State) (arm : Arm) (g : Option GuardRecord) :
    (s.setGuard arm g).temp = s.temp := rfl
@[simp] theorem State.setGuard_model (s : State) (arm : Arm) (g : Option GuardRecord) :
    (s.setGuard arm g).model = s.model := rfl
@[simp] theorem State.setGuard_lastPos (s : State) (arm : Arm) (g : Option GuardRecord) :
    (s.setGuard arm g).lastPos = s.lastPos := rfl
@[simp] theorem State.setGuard_zones (s : State) (arm : Arm) (g : Option GuardRecord) :
    (s.setGuard arm g).zones = { s.zones with guards := s.zones.guards.set arm g } := rfl
@[simp] theorem State.setGuard_sup (s : State) (arm : Arm) (g : Option GuardRecord) :
    (s.setGuard arm g).sup = s.sup := rfl
@[simp] theorem State.setGuard_registry (s : State) (arm : Arm) (g : Option GuardRecord) :
    (s.setGuard arm g).registry = s.registry := rfl
@[simp] theorem State.setGuard_rack (s : State) (arm : Arm) (g : Option GuardRecord) :
    (s.setGuard arm g).rack = s.rack := rfl
@[simp] theorem State.setGuard_touch (s : State) (arm : Arm) (g : Option GuardRecord) :
    (s.setGuard arm g).touch = s.touch := rfl
@[simp] theorem State.setGuard_attn (s : State) (arm : Arm) (g : Option GuardRecord) :
    (s.setGuard arm g).attn = s.attn := rfl
@[simp] theorem State.setGuard_alarmMap (s : State) (arm : Arm) (g : Option GuardRecord) :
    (s.setGuard arm g).alarmMap = s.alarmMap := rfl
@[simp] theorem State.setGuard_disabledBy (s : State) (arm : Arm) (g : Option GuardRecord) :
    (s.setGuard arm g).disabledBy = s.disabledBy := rfl
@[simp] theorem State.setGuard_pending (s : State) (arm : Arm) (g : Option GuardRecord) :
    (s.setGuard arm g).pending = s.pending := rfl
@[simp] theorem State.setGuard_freeIndex (s : State) (arm : Arm) (g : Option GuardRecord) :
    (s.setGuard arm g).freeIndex = s.freeIndex := rfl

/-! `State.setEntry` -/

@[simp] theorem State.setEntry_cellTime (s : State) (e : Fin 14) (p : Option Probe) :
    (s.setEntry e p).cellTime = s.cellTime := rfl
@[simp] theorem State.setEntry_resetHeld (s : State) (e : Fin 14) (p : Option Probe) :
    (s.setEntry e p).resetHeld = s.resetHeld := rfl
@[simp] theorem State.setEntry_ports (s : State) (e : Fin 14) (p : Option Probe) :
    (s.setEntry e p).ports = s.ports := rfl
@[simp] theorem State.setEntry_temp (s : State) (e : Fin 14) (p : Option Probe) :
    (s.setEntry e p).temp = s.temp := rfl
@[simp] theorem State.setEntry_model (s : State) (e : Fin 14) (p : Option Probe) :
    (s.setEntry e p).model = s.model := rfl
@[simp] theorem State.setEntry_lastPos (s : State) (e : Fin 14) (p : Option Probe) :
    (s.setEntry e p).lastPos = s.lastPos := rfl
@[simp] theorem State.setEntry_zones (s : State) (e : Fin 14) (p : Option Probe) :
    (s.setEntry e p).zones = s.zones := rfl
@[simp] theorem State.setEntry_sup (s : State) (e : Fin 14) (p : Option Probe) : (s.setEntry e p).sup = s.sup := rfl
@[simp] theorem State.setEntry_registry (s : State) (e : Fin 14) (p : Option Probe) :
    (s.setEntry e p).registry = { s.registry with entries := vput s.registry.entries e p } := rfl
@[simp] theorem State.setEntry_rack (s : State) (e : Fin 14) (p : Option Probe) :
    (s.setEntry e p).rack = s.rack := rfl
@[simp] theorem State.setEntry_touch (s : State) (e : Fin 14) (p : Option Probe) :
    (s.setEntry e p).touch = s.touch := rfl
@[simp] theorem State.setEntry_attn (s : State) (e : Fin 14) (p : Option Probe) :
    (s.setEntry e p).attn = s.attn := rfl
@[simp] theorem State.setEntry_alarmMap (s : State) (e : Fin 14) (p : Option Probe) :
    (s.setEntry e p).alarmMap = s.alarmMap := rfl
@[simp] theorem State.setEntry_disabledBy (s : State) (e : Fin 14) (p : Option Probe) :
    (s.setEntry e p).disabledBy = s.disabledBy := rfl
@[simp] theorem State.setEntry_pending (s : State) (e : Fin 14) (p : Option Probe) :
    (s.setEntry e p).pending = s.pending := rfl
@[simp] theorem State.setEntry_freeIndex (s : State) (e : Fin 14) (p : Option Probe) :
    (s.setEntry e p).freeIndex = s.freeIndex := rfl

/-! `State.setSlot` -/

@[simp] theorem State.setSlot_cellTime (s : State) (i : Fin 12) (x : Slot) :
    (s.setSlot i x).cellTime = s.cellTime := rfl
@[simp] theorem State.setSlot_resetHeld (s : State) (i : Fin 12) (x : Slot) :
    (s.setSlot i x).resetHeld = s.resetHeld := rfl
@[simp] theorem State.setSlot_ports (s : State) (i : Fin 12) (x : Slot) : (s.setSlot i x).ports = s.ports := rfl
@[simp] theorem State.setSlot_temp (s : State) (i : Fin 12) (x : Slot) : (s.setSlot i x).temp = s.temp := rfl
@[simp] theorem State.setSlot_model (s : State) (i : Fin 12) (x : Slot) : (s.setSlot i x).model = s.model := rfl
@[simp] theorem State.setSlot_lastPos (s : State) (i : Fin 12) (x : Slot) : (s.setSlot i x).lastPos = s.lastPos := rfl
@[simp] theorem State.setSlot_zones (s : State) (i : Fin 12) (x : Slot) : (s.setSlot i x).zones = s.zones := rfl
@[simp] theorem State.setSlot_sup (s : State) (i : Fin 12) (x : Slot) : (s.setSlot i x).sup = s.sup := rfl
@[simp] theorem State.setSlot_registry (s : State) (i : Fin 12) (x : Slot) :
    (s.setSlot i x).registry = s.registry := rfl
@[simp] theorem State.setSlot_rack (s : State) (i : Fin 12) (x : Slot) :
    (s.setSlot i x).rack = { s.rack with slots := vput s.rack.slots i x } := rfl
@[simp] theorem State.setSlot_touch (s : State) (i : Fin 12) (x : Slot) : (s.setSlot i x).touch = s.touch := rfl
@[simp] theorem State.setSlot_attn (s : State) (i : Fin 12) (x : Slot) : (s.setSlot i x).attn = s.attn := rfl
@[simp] theorem State.setSlot_alarmMap (s : State) (i : Fin 12) (x : Slot) :
    (s.setSlot i x).alarmMap = s.alarmMap := rfl
@[simp] theorem State.setSlot_disabledBy (s : State) (i : Fin 12) (x : Slot) :
    (s.setSlot i x).disabledBy = s.disabledBy := rfl
@[simp] theorem State.setSlot_pending (s : State) (i : Fin 12) (x : Slot) : (s.setSlot i x).pending = s.pending := rfl
@[simp] theorem State.setSlot_freeIndex (s : State) (i : Fin 12) (x : Slot) :
    (s.setSlot i x).freeIndex = s.freeIndex := rfl

/-! `State.modSlot` -/

@[simp] theorem State.modSlot_cellTime (s : State) (i : Fin 12) (f : Slot → Slot) :
    (s.modSlot i f).cellTime = s.cellTime := rfl
@[simp] theorem State.modSlot_resetHeld (s : State) (i : Fin 12) (f : Slot → Slot) :
    (s.modSlot i f).resetHeld = s.resetHeld := rfl
@[simp] theorem State.modSlot_ports (s : State) (i : Fin 12) (f : Slot → Slot) :
    (s.modSlot i f).ports = s.ports := rfl
@[simp] theorem State.modSlot_temp (s : State) (i : Fin 12) (f : Slot → Slot) : (s.modSlot i f).temp = s.temp := rfl
@[simp] theorem State.modSlot_model (s : State) (i : Fin 12) (f : Slot → Slot) :
    (s.modSlot i f).model = s.model := rfl
@[simp] theorem State.modSlot_lastPos (s : State) (i : Fin 12) (f : Slot → Slot) :
    (s.modSlot i f).lastPos = s.lastPos := rfl
@[simp] theorem State.modSlot_zones (s : State) (i : Fin 12) (f : Slot → Slot) :
    (s.modSlot i f).zones = s.zones := rfl
@[simp] theorem State.modSlot_sup (s : State) (i : Fin 12) (f : Slot → Slot) : (s.modSlot i f).sup = s.sup := rfl
@[simp] theorem State.modSlot_registry (s : State) (i : Fin 12) (f : Slot → Slot) :
    (s.modSlot i f).registry = s.registry := rfl
@[simp] theorem State.modSlot_rack (s : State) (i : Fin 12) (f : Slot → Slot) :
    (s.modSlot i f).rack = { s.rack with slots := vput s.rack.slots i (f (vget s.rack.slots i)) } := rfl
@[simp] theorem State.modSlot_touch (s : State) (i : Fin 12) (f : Slot → Slot) :
    (s.modSlot i f).touch = s.touch := rfl
@[simp] theorem State.modSlot_attn (s : State) (i : Fin 12) (f : Slot → Slot) : (s.modSlot i f).attn = s.attn := rfl
@[simp] theorem State.modSlot_alarmMap (s : State) (i : Fin 12) (f : Slot → Slot) :
    (s.modSlot i f).alarmMap = s.alarmMap := rfl
@[simp] theorem State.modSlot_disabledBy (s : State) (i : Fin 12) (f : Slot → Slot) :
    (s.modSlot i f).disabledBy = s.disabledBy := rfl
@[simp] theorem State.modSlot_pending (s : State) (i : Fin 12) (f : Slot → Slot) :
    (s.modSlot i f).pending = s.pending := rfl
@[simp] theorem State.modSlot_freeIndex (s : State) (i : Fin 12) (f : Slot → Slot) :
    (s.modSlot i f).freeIndex = s.freeIndex := rfl

/-! `State.setChange` -/

@[simp] theorem State.setChange_cellTime (s : State) (arm : Arm) (c : ChangeContext) :
    (s.setChange arm c).cellTime = s.cellTime := rfl
@[simp] theorem State.setChange_resetHeld (s : State) (arm : Arm) (c : ChangeContext) :
    (s.setChange arm c).resetHeld = s.resetHeld := rfl
@[simp] theorem State.setChange_ports (s : State) (arm : Arm) (c : ChangeContext) :
    (s.setChange arm c).ports = s.ports := rfl
@[simp] theorem State.setChange_temp (s : State) (arm : Arm) (c : ChangeContext) :
    (s.setChange arm c).temp = s.temp := rfl
@[simp] theorem State.setChange_model (s : State) (arm : Arm) (c : ChangeContext) :
    (s.setChange arm c).model = s.model := rfl
@[simp] theorem State.setChange_lastPos (s : State) (arm : Arm) (c : ChangeContext) :
    (s.setChange arm c).lastPos = s.lastPos := rfl
@[simp] theorem State.setChange_zones (s : State) (arm : Arm) (c : ChangeContext) :
    (s.setChange arm c).zones = s.zones := rfl
@[simp] theorem State.setChange_sup (s : State) (arm : Arm) (c : ChangeContext) :
    (s.setChange arm c).sup = s.sup := rfl
@[simp] theorem State.setChange_registry (s : State) (arm : Arm) (c : ChangeContext) :
    (s.setChange arm c).registry = s.registry := rfl
@[simp] theorem State.setChange_rack (s : State) (arm : Arm) (c : ChangeContext) :
    (s.setChange arm c).rack = { s.rack with changes := s.rack.changes.set arm c } := rfl
@[simp] theorem State.setChange_touch (s : State) (arm : Arm) (c : ChangeContext) :
    (s.setChange arm c).touch = s.touch := rfl
@[simp] theorem State.setChange_attn (s : State) (arm : Arm) (c : ChangeContext) :
    (s.setChange arm c).attn = s.attn := rfl
@[simp] theorem State.setChange_alarmMap (s : State) (arm : Arm) (c : ChangeContext) :
    (s.setChange arm c).alarmMap = s.alarmMap := rfl
@[simp] theorem State.setChange_disabledBy (s : State) (arm : Arm) (c : ChangeContext) :
    (s.setChange arm c).disabledBy = s.disabledBy := rfl
@[simp] theorem State.setChange_pending (s : State) (arm : Arm) (c : ChangeContext) :
    (s.setChange arm c).pending = s.pending := rfl
@[simp] theorem State.setChange_freeIndex (s : State) (arm : Arm) (c : ChangeContext) :
    (s.setChange arm c).freeIndex = s.freeIndex := rfl

/-! `State.setQueue` -/

@[simp] theorem State.setQueue_cellTime (s : State) (arm : Arm) (q : TouchQueue) :
    (s.setQueue arm q).cellTime = s.cellTime := rfl
@[simp] theorem State.setQueue_resetHeld (s : State) (arm : Arm) (q : TouchQueue) :
    (s.setQueue arm q).resetHeld = s.resetHeld := rfl
@[simp] theorem State.setQueue_ports (s : State) (arm : Arm) (q : TouchQueue) :
    (s.setQueue arm q).ports = s.ports := rfl
@[simp] theorem State.setQueue_temp (s : State) (arm : Arm) (q : TouchQueue) : (s.setQueue arm q).temp = s.temp := rfl
@[simp] theorem State.setQueue_model (s : State) (arm : Arm) (q : TouchQueue) :
    (s.setQueue arm q).model = s.model := rfl
@[simp] theorem State.setQueue_lastPos (s : State) (arm : Arm) (q : TouchQueue) :
    (s.setQueue arm q).lastPos = s.lastPos := rfl
@[simp] theorem State.setQueue_zones (s : State) (arm : Arm) (q : TouchQueue) :
    (s.setQueue arm q).zones = s.zones := rfl
@[simp] theorem State.setQueue_sup (s : State) (arm : Arm) (q : TouchQueue) : (s.setQueue arm q).sup = s.sup := rfl
@[simp] theorem State.setQueue_registry (s : State) (arm : Arm) (q : TouchQueue) :
    (s.setQueue arm q).registry = s.registry := rfl
@[simp] theorem State.setQueue_rack (s : State) (arm : Arm) (q : TouchQueue) : (s.setQueue arm q).rack = s.rack := rfl
@[simp] theorem State.setQueue_touch (s : State) (arm : Arm) (q : TouchQueue) :
    (s.setQueue arm q).touch = { s.touch with queues := s.touch.queues.set arm q } := rfl
@[simp] theorem State.setQueue_attn (s : State) (arm : Arm) (q : TouchQueue) : (s.setQueue arm q).attn = s.attn := rfl
@[simp] theorem State.setQueue_alarmMap (s : State) (arm : Arm) (q : TouchQueue) :
    (s.setQueue arm q).alarmMap = s.alarmMap := rfl
@[simp] theorem State.setQueue_disabledBy (s : State) (arm : Arm) (q : TouchQueue) :
    (s.setQueue arm q).disabledBy = s.disabledBy := rfl
@[simp] theorem State.setQueue_pending (s : State) (arm : Arm) (q : TouchQueue) :
    (s.setQueue arm q).pending = s.pending := rfl
@[simp] theorem State.setQueue_freeIndex (s : State) (arm : Arm) (q : TouchQueue) :
    (s.setQueue arm q).freeIndex = s.freeIndex := rfl

/-! `State.modCellUnit` -/

@[simp] theorem State.modCellUnit_cellTime (s : State) (f : CellUnit → CellUnit) :
    (s.modCellUnit f).cellTime = s.cellTime := rfl
@[simp] theorem State.modCellUnit_resetHeld (s : State) (f : CellUnit → CellUnit) :
    (s.modCellUnit f).resetHeld = s.resetHeld := rfl
@[simp] theorem State.modCellUnit_ports (s : State) (f : CellUnit → CellUnit) :
    (s.modCellUnit f).ports = s.ports := rfl
@[simp] theorem State.modCellUnit_temp (s : State) (f : CellUnit → CellUnit) : (s.modCellUnit f).temp = s.temp := rfl
@[simp] theorem State.modCellUnit_model (s : State) (f : CellUnit → CellUnit) :
    (s.modCellUnit f).model = s.model := rfl
@[simp] theorem State.modCellUnit_lastPos (s : State) (f : CellUnit → CellUnit) :
    (s.modCellUnit f).lastPos = s.lastPos := rfl
@[simp] theorem State.modCellUnit_zones (s : State) (f : CellUnit → CellUnit) :
    (s.modCellUnit f).zones = s.zones := rfl
@[simp] theorem State.modCellUnit_sup (s : State) (f : CellUnit → CellUnit) : (s.modCellUnit f).sup = s.sup := rfl
@[simp] theorem State.modCellUnit_registry (s : State) (f : CellUnit → CellUnit) :
    (s.modCellUnit f).registry = s.registry := rfl
@[simp] theorem State.modCellUnit_rack (s : State) (f : CellUnit → CellUnit) : (s.modCellUnit f).rack = s.rack := rfl
@[simp] theorem State.modCellUnit_touch (s : State) (f : CellUnit → CellUnit) :
    (s.modCellUnit f).touch = s.touch := rfl
@[simp] theorem State.modCellUnit_attn (s : State) (f : CellUnit → CellUnit) :
    (s.modCellUnit f).attn = { s.attn with cell := f s.attn.cell } := rfl
@[simp] theorem State.modCellUnit_alarmMap (s : State) (f : CellUnit → CellUnit) :
    (s.modCellUnit f).alarmMap = s.alarmMap := rfl
@[simp] theorem State.modCellUnit_disabledBy (s : State) (f : CellUnit → CellUnit) :
    (s.modCellUnit f).disabledBy = s.disabledBy := rfl
@[simp] theorem State.modCellUnit_pending (s : State) (f : CellUnit → CellUnit) :
    (s.modCellUnit f).pending = s.pending := rfl
@[simp] theorem State.modCellUnit_freeIndex (s : State) (f : CellUnit → CellUnit) :
    (s.modCellUnit f).freeIndex = s.freeIndex := rfl

/-! `State.setArmUnit` -/

@[simp] theorem State.setArmUnit_cellTime (s : State) (arm : Arm) (u : ArmUnit) :
    (s.setArmUnit arm u).cellTime = s.cellTime := rfl
@[simp] theorem State.setArmUnit_resetHeld (s : State) (arm : Arm) (u : ArmUnit) :
    (s.setArmUnit arm u).resetHeld = s.resetHeld := rfl
@[simp] theorem State.setArmUnit_ports (s : State) (arm : Arm) (u : ArmUnit) :
    (s.setArmUnit arm u).ports = s.ports := rfl
@[simp] theorem State.setArmUnit_temp (s : State) (arm : Arm) (u : ArmUnit) :
    (s.setArmUnit arm u).temp = s.temp := rfl
@[simp] theorem State.setArmUnit_model (s : State) (arm : Arm) (u : ArmUnit) :
    (s.setArmUnit arm u).model = s.model := rfl
@[simp] theorem State.setArmUnit_lastPos (s : State) (arm : Arm) (u : ArmUnit) :
    (s.setArmUnit arm u).lastPos = s.lastPos := rfl
@[simp] theorem State.setArmUnit_zones (s : State) (arm : Arm) (u : ArmUnit) :
    (s.setArmUnit arm u).zones = s.zones := rfl
@[simp] theorem State.setArmUnit_sup (s : State) (arm : Arm) (u : ArmUnit) : (s.setArmUnit arm u).sup = s.sup := rfl
@[simp] theorem State.setArmUnit_registry (s : State) (arm : Arm) (u : ArmUnit) :
    (s.setArmUnit arm u).registry = s.registry := rfl
@[simp] theorem State.setArmUnit_rack (s : State) (arm : Arm) (u : ArmUnit) :
    (s.setArmUnit arm u).rack = s.rack := rfl
@[simp] theorem State.setArmUnit_touch (s : State) (arm : Arm) (u : ArmUnit) :
    (s.setArmUnit arm u).touch = s.touch := rfl
@[simp] theorem State.setArmUnit_attn (s : State) (arm : Arm) (u : ArmUnit) :
    (s.setArmUnit arm u).attn = { s.attn with arms := s.attn.arms.set arm u } := rfl
@[simp] theorem State.setArmUnit_alarmMap (s : State) (arm : Arm) (u : ArmUnit) :
    (s.setArmUnit arm u).alarmMap = s.alarmMap := rfl
@[simp] theorem State.setArmUnit_disabledBy (s : State) (arm : Arm) (u : ArmUnit) :
    (s.setArmUnit arm u).disabledBy = s.disabledBy := rfl
@[simp] theorem State.setArmUnit_pending (s : State) (arm : Arm) (u : ArmUnit) :
    (s.setArmUnit arm u).pending = s.pending := rfl
@[simp] theorem State.setArmUnit_freeIndex (s : State) (arm : Arm) (u : ArmUnit) :
    (s.setArmUnit arm u).freeIndex = s.freeIndex := rfl

/-! `State.modArmUnit` -/

@[simp] theorem State.modArmUnit_cellTime (s : State) (arm : Arm) (f : ArmUnit → ArmUnit) :
    (s.modArmUnit arm f).cellTime = s.cellTime := rfl
@[simp] theorem State.modArmUnit_resetHeld (s : State) (arm : Arm) (f : ArmUnit → ArmUnit) :
    (s.modArmUnit arm f).resetHeld = s.resetHeld := rfl
@[simp] theorem State.modArmUnit_ports (s : State) (arm : Arm) (f : ArmUnit → ArmUnit) :
    (s.modArmUnit arm f).ports = s.ports := rfl
@[simp] theorem State.modArmUnit_temp (s : State) (arm : Arm) (f : ArmUnit → ArmUnit) :
    (s.modArmUnit arm f).temp = s.temp := rfl
@[simp] theorem State.modArmUnit_model (s : State) (arm : Arm) (f : ArmUnit → ArmUnit) :
    (s.modArmUnit arm f).model = s.model := rfl
@[simp] theorem State.modArmUnit_lastPos (s : State) (arm : Arm) (f : ArmUnit → ArmUnit) :
    (s.modArmUnit arm f).lastPos = s.lastPos := rfl
@[simp] theorem State.modArmUnit_zones (s : State) (arm : Arm) (f : ArmUnit → ArmUnit) :
    (s.modArmUnit arm f).zones = s.zones := rfl
@[simp] theorem State.modArmUnit_sup (s : State) (arm : Arm) (f : ArmUnit → ArmUnit) :
    (s.modArmUnit arm f).sup = s.sup := rfl
@[simp] theorem State.modArmUnit_registry (s : State) (arm : Arm) (f : ArmUnit → ArmUnit) :
    (s.modArmUnit arm f).registry = s.registry := rfl
@[simp] theorem State.modArmUnit_rack (s : State) (arm : Arm) (f : ArmUnit → ArmUnit) :
    (s.modArmUnit arm f).rack = s.rack := rfl
@[simp] theorem State.modArmUnit_touch (s : State) (arm : Arm) (f : ArmUnit → ArmUnit) :
    (s.modArmUnit arm f).touch = s.touch := rfl
@[simp] theorem State.modArmUnit_attn (s : State) (arm : Arm) (f : ArmUnit → ArmUnit) :
    (s.modArmUnit arm f).attn = { s.attn with arms := s.attn.arms.set arm (f (s.attn.arms.get arm)) } := rfl
@[simp] theorem State.modArmUnit_alarmMap (s : State) (arm : Arm) (f : ArmUnit → ArmUnit) :
    (s.modArmUnit arm f).alarmMap = s.alarmMap := rfl
@[simp] theorem State.modArmUnit_disabledBy (s : State) (arm : Arm) (f : ArmUnit → ArmUnit) :
    (s.modArmUnit arm f).disabledBy = s.disabledBy := rfl
@[simp] theorem State.modArmUnit_pending (s : State) (arm : Arm) (f : ArmUnit → ArmUnit) :
    (s.modArmUnit arm f).pending = s.pending := rfl
@[simp] theorem State.modArmUnit_freeIndex (s : State) (arm : Arm) (f : ArmUnit → ArmUnit) :
    (s.modArmUnit arm f).freeIndex = s.freeIndex := rfl

/-! `State.setStaging` -/

@[simp] theorem State.setStaging_cellTime (s : State) (im : Image) : (s.setStaging im).cellTime = s.cellTime := rfl
@[simp] theorem State.setStaging_resetHeld (s : State) (im : Image) : (s.setStaging im).resetHeld = s.resetHeld := rfl
@[simp] theorem State.setStaging_ports (s : State) (im : Image) : (s.setStaging im).ports = s.ports := rfl
@[simp] theorem State.setStaging_temp (s : State) (im : Image) : (s.setStaging im).temp = s.temp := rfl
@[simp] theorem State.setStaging_model (s : State) (im : Image) :
    (s.setStaging im).model = { s.model with staging := im } := rfl
@[simp] theorem State.setStaging_lastPos (s : State) (im : Image) : (s.setStaging im).lastPos = s.lastPos := rfl
@[simp] theorem State.setStaging_zones (s : State) (im : Image) : (s.setStaging im).zones = s.zones := rfl
@[simp] theorem State.setStaging_sup (s : State) (im : Image) : (s.setStaging im).sup = s.sup := rfl
@[simp] theorem State.setStaging_registry (s : State) (im : Image) : (s.setStaging im).registry = s.registry := rfl
@[simp] theorem State.setStaging_rack (s : State) (im : Image) : (s.setStaging im).rack = s.rack := rfl
@[simp] theorem State.setStaging_touch (s : State) (im : Image) : (s.setStaging im).touch = s.touch := rfl
@[simp] theorem State.setStaging_attn (s : State) (im : Image) : (s.setStaging im).attn = s.attn := rfl
@[simp] theorem State.setStaging_alarmMap (s : State) (im : Image) : (s.setStaging im).alarmMap = s.alarmMap := rfl
@[simp] theorem State.setStaging_disabledBy (s : State) (im : Image) : (s.setStaging im).disabledBy = s.disabledBy := rfl
@[simp] theorem State.setStaging_pending (s : State) (im : Image) : (s.setStaging im).pending = s.pending := rfl
@[simp] theorem State.setStaging_freeIndex (s : State) (im : Image) : (s.setStaging im).freeIndex = s.freeIndex := rfl

/-! `State.setSettings` -/

@[simp] theorem State.setSettings_cellTime (s : State) (arm : Arm) (x : ArmSettings) :
    (s.setSettings arm x).cellTime = s.cellTime := rfl
@[simp] theorem State.setSettings_resetHeld (s : State) (arm : Arm) (x : ArmSettings) :
    (s.setSettings arm x).resetHeld = s.resetHeld := rfl
@[simp] theorem State.setSettings_ports (s : State) (arm : Arm) (x : ArmSettings) :
    (s.setSettings arm x).ports = s.ports := rfl
@[simp] theorem State.setSettings_temp (s : State) (arm : Arm) (x : ArmSettings) :
    (s.setSettings arm x).temp = s.temp := rfl
@[simp] theorem State.setSettings_model (s : State) (arm : Arm) (x : ArmSettings) :
    (s.setSettings arm x).model = s.model := rfl
@[simp] theorem State.setSettings_lastPos (s : State) (arm : Arm) (x : ArmSettings) :
    (s.setSettings arm x).lastPos = s.lastPos := rfl
@[simp] theorem State.setSettings_zones (s : State) (arm : Arm) (x : ArmSettings) :
    (s.setSettings arm x).zones = s.zones := rfl
@[simp] theorem State.setSettings_sup (s : State) (arm : Arm) (x : ArmSettings) :
    (s.setSettings arm x).sup = s.sup.set arm { s.sup.get arm with settings := x } := rfl
@[simp] theorem State.setSettings_registry (s : State) (arm : Arm) (x : ArmSettings) :
    (s.setSettings arm x).registry = s.registry := rfl
@[simp] theorem State.setSettings_rack (s : State) (arm : Arm) (x : ArmSettings) :
    (s.setSettings arm x).rack = s.rack := rfl
@[simp] theorem State.setSettings_touch (s : State) (arm : Arm) (x : ArmSettings) :
    (s.setSettings arm x).touch = s.touch := rfl
@[simp] theorem State.setSettings_attn (s : State) (arm : Arm) (x : ArmSettings) :
    (s.setSettings arm x).attn = s.attn := rfl
@[simp] theorem State.setSettings_alarmMap (s : State) (arm : Arm) (x : ArmSettings) :
    (s.setSettings arm x).alarmMap = s.alarmMap := rfl
@[simp] theorem State.setSettings_disabledBy (s : State) (arm : Arm) (x : ArmSettings) :
    (s.setSettings arm x).disabledBy = s.disabledBy := rfl
@[simp] theorem State.setSettings_pending (s : State) (arm : Arm) (x : ArmSettings) :
    (s.setSettings arm x).pending = s.pending := rfl
@[simp] theorem State.setSettings_freeIndex (s : State) (arm : Arm) (x : ArmSettings) :
    (s.setSettings arm x).freeIndex = s.freeIndex := rfl
/-! Reading one record after an update of it -/

@[simp] theorem zoneAt_setZoneTable (s : State) (t : Vector Zone 16) (z : Fin 16) :
    zoneAt (s.setZoneTable t) z = vget t z := rfl

@[simp] theorem entryAt_setEntry (s : State) (e f : Fin 14) (p : Option Probe) :
    entryAt (s.setEntry e p) f = if f = e then p else entryAt s f := vget_vput ..

@[simp] theorem slotAt_setSlot (s : State) (i j : Fin 12) (x : Slot) :
    slotAt (s.setSlot i x) j = if j = i then x else slotAt s j := vget_vput ..

@[simp] theorem slotAt_modSlot (s : State) (i j : Fin 12) (f : Slot → Slot) :
    slotAt (s.modSlot i f) j = if j = i then f (slotAt s i) else slotAt s j := vget_vput ..

end Sys2Proof.Machine
end

