-- ==== Sys2Proof/Laws/Attention.lean ====
section
/-! SUPPORT. What raising attention leaves: every field of the state but the unit of the link, and in that unit every
source but the one raised. -/

namespace Sys2Proof.Machine

@[simp] theorem Source.raise_enable {δ : Type} (f : δ → δ) (src : Source δ) : (src.raise f).enable = src.enable := by
  unfold Source.raise; split <;> simp_all

@[simp] theorem Source.raise_inService {δ : Type} (f : δ → δ) (src : Source δ) :
    (src.raise f).inService = src.inService := by
  unfold Source.raise; split <;> rfl

@[simp] theorem Source.raise_pending {δ : Type} (f : δ → δ) (src : Source δ) :
    (src.raise f).pending = (src.pending || src.enable) := by
  unfold Source.raise; split <;> simp_all

theorem Source.raise_detail {δ : Type} (f : δ → δ) (src : Source δ) :
    (src.raise f).detail = if src.enable then f src.detail else src.detail := by
  unfold Source.raise; split <;> rfl

/-- Raising keeps a source sound when its update may give any detail: a pending source has its enable on. -/
theorem Source.raise_sound {δ : Type} (empty : δ) (f : δ → δ) (src : Source δ)
    (h1 : src.pending = true → src.enable = true) (h2 : src.pending = false → src.detail = empty) :
    ((src.raise f).pending = true → (src.raise f).enable = true) ∧
      ((src.raise f).pending = false → (src.raise f).detail = empty) := by
  unfold Source.raise; split <;> simp_all

/-! `raiseFault` -/

@[simp] theorem raiseFault_cellTime (s : State) (arm : Arm) : (raiseFault arm s).cellTime = s.cellTime := rfl
@[simp] theorem raiseFault_resetHeld (s : State) (arm : Arm) : (raiseFault arm s).resetHeld = s.resetHeld := rfl
@[simp] theorem raiseFault_ports (s : State) (arm : Arm) : (raiseFault arm s).ports = s.ports := rfl
@[simp] theorem raiseFault_temp (s : State) (arm : Arm) : (raiseFault arm s).temp = s.temp := rfl
@[simp] theorem raiseFault_model (s : State) (arm : Arm) : (raiseFault arm s).model = s.model := rfl
@[simp] theorem raiseFault_lastPos (s : State) (arm : Arm) : (raiseFault arm s).lastPos = s.lastPos := rfl
@[simp] theorem raiseFault_zones (s : State) (arm : Arm) : (raiseFault arm s).zones = s.zones := rfl
@[simp] theorem raiseFault_sup (s : State) (arm : Arm) : (raiseFault arm s).sup = s.sup := rfl
@[simp] theorem raiseFault_registry (s : State) (arm : Arm) : (raiseFault arm s).registry = s.registry := rfl
@[simp] theorem raiseFault_rack (s : State) (arm : Arm) : (raiseFault arm s).rack = s.rack := rfl
@[simp] theorem raiseFault_touch (s : State) (arm : Arm) : (raiseFault arm s).touch = s.touch := rfl
@[simp] theorem raiseFault_alarmMap (s : State) (arm : Arm) : (raiseFault arm s).alarmMap = s.alarmMap := rfl
@[simp] theorem raiseFault_disabledBy (s : State) (arm : Arm) : (raiseFault arm s).disabledBy = s.disabledBy := rfl
@[simp] theorem raiseFault_pending (s : State) (arm : Arm) : (raiseFault arm s).pending = s.pending := rfl
@[simp] theorem raiseFault_freeIndex (s : State) (arm : Arm) : (raiseFault arm s).freeIndex = s.freeIndex := rfl
@[simp] theorem raiseFault_arms (s : State) (arm : Arm) : (raiseFault arm s).attn.arms = s.attn.arms := rfl
@[simp] theorem raiseFault_cell_master (s : State) (arm : Arm) : (raiseFault arm s).attn.cell.master = s.attn.cell.master := rfl
@[simp] theorem raiseFault_cell_rack (s : State) (arm : Arm) : (raiseFault arm s).attn.cell.rack = s.attn.cell.rack := rfl
@[simp] theorem raiseFault_cell_model (s : State) (arm : Arm) : (raiseFault arm s).attn.cell.model = s.attn.cell.model := rfl
@[simp] theorem raiseFault_cell_sensor (s : State) (arm : Arm) : (raiseFault arm s).attn.cell.sensor = s.attn.cell.sensor := rfl
@[simp] theorem raiseFault_cell_probe (s : State) (arm : Arm) : (raiseFault arm s).attn.cell.probe = s.attn.cell.probe := rfl
@[simp] theorem raiseFault_cell_touch (s : State) (arm : Arm) : (raiseFault arm s).attn.cell.touch = s.attn.cell.touch := rfl

/-! `raiseRack` -/

@[simp] theorem raiseRack_cellTime (s : State) (i : Fin 12) : (raiseRack i s).cellTime = s.cellTime := rfl
@[simp] theorem raiseRack_resetHeld (s : State) (i : Fin 12) : (raiseRack i s).resetHeld = s.resetHeld := rfl
@[simp] theorem raiseRack_ports (s : State) (i : Fin 12) : (raiseRack i s).ports = s.ports := rfl
@[simp] theorem raiseRack_temp (s : State) (i : Fin 12) : (raiseRack i s).temp = s.temp := rfl
@[simp] theorem raiseRack_model (s : State) (i : Fin 12) : (raiseRack i s).model = s.model := rfl
@[simp] theorem raiseRack_lastPos (s : State) (i : Fin 12) : (raiseRack i s).lastPos = s.lastPos := rfl
@[simp] theorem raiseRack_zones (s : State) (i : Fin 12) : (raiseRack i s).zones = s.zones := rfl
@[simp] theorem raiseRack_sup (s : State) (i : Fin 12) : (raiseRack i s).sup = s.sup := rfl
@[simp] theorem raiseRack_registry (s : State) (i : Fin 12) : (raiseRack i s).registry = s.registry := rfl
@[simp] theorem raiseRack_rack (s : State) (i : Fin 12) : (raiseRack i s).rack = s.rack := rfl
@[simp] theorem raiseRack_touch (s : State) (i : Fin 12) : (raiseRack i s).touch = s.touch := rfl
@[simp] theorem raiseRack_alarmMap (s : State) (i : Fin 12) : (raiseRack i s).alarmMap = s.alarmMap := rfl
@[simp] theorem raiseRack_disabledBy (s : State) (i : Fin 12) : (raiseRack i s).disabledBy = s.disabledBy := rfl
@[simp] theorem raiseRack_pending (s : State) (i : Fin 12) : (raiseRack i s).pending = s.pending := rfl
@[simp] theorem raiseRack_freeIndex (s : State) (i : Fin 12) : (raiseRack i s).freeIndex = s.freeIndex := rfl
@[simp] theorem raiseRack_arms (s : State) (i : Fin 12) : (raiseRack i s).attn.arms = s.attn.arms := rfl
@[simp] theorem raiseRack_cell_master (s : State) (i : Fin 12) : (raiseRack i s).attn.cell.master = s.attn.cell.master := rfl
@[simp] theorem raiseRack_cell_fault (s : State) (i : Fin 12) : (raiseRack i s).attn.cell.fault = s.attn.cell.fault := rfl
@[simp] theorem raiseRack_cell_model (s : State) (i : Fin 12) : (raiseRack i s).attn.cell.model = s.attn.cell.model := rfl
@[simp] theorem raiseRack_cell_sensor (s : State) (i : Fin 12) : (raiseRack i s).attn.cell.sensor = s.attn.cell.sensor := rfl
@[simp] theorem raiseRack_cell_probe (s : State) (i : Fin 12) : (raiseRack i s).attn.cell.probe = s.attn.cell.probe := rfl
@[simp] theorem raiseRack_cell_touch (s : State) (i : Fin 12) : (raiseRack i s).attn.cell.touch = s.attn.cell.touch := rfl

/-! `raiseModel` -/

@[simp] theorem raiseModel_cellTime (s : State) (r : CheckResult) : (raiseModel r s).cellTime = s.cellTime := rfl
@[simp] theorem raiseModel_resetHeld (s : State) (r : CheckResult) : (raiseModel r s).resetHeld = s.resetHeld := rfl
@[simp] theorem raiseModel_ports (s : State) (r : CheckResult) : (raiseModel r s).ports = s.ports := rfl
@[simp] theorem raiseModel_temp (s : State) (r : CheckResult) : (raiseModel r s).temp = s.temp := rfl
@[simp] theorem raiseModel_model (s : State) (r : CheckResult) : (raiseModel r s).model = s.model := rfl
@[simp] theorem raiseModel_lastPos (s : State) (r : CheckResult) : (raiseModel r s).lastPos = s.lastPos := rfl
@[simp] theorem raiseModel_zones (s : State) (r : CheckResult) : (raiseModel r s).zones = s.zones := rfl
@[simp] theorem raiseModel_sup (s : State) (r : CheckResult) : (raiseModel r s).sup = s.sup := rfl
@[simp] theorem raiseModel_registry (s : State) (r : CheckResult) : (raiseModel r s).registry = s.registry := rfl
@[simp] theorem raiseModel_rack (s : State) (r : CheckResult) : (raiseModel r s).rack = s.rack := rfl
@[simp] theorem raiseModel_touch (s : State) (r : CheckResult) : (raiseModel r s).touch = s.touch := rfl
@[simp] theorem raiseModel_alarmMap (s : State) (r : CheckResult) : (raiseModel r s).alarmMap = s.alarmMap := rfl
@[simp] theorem raiseModel_disabledBy (s : State) (r : CheckResult) : (raiseModel r s).disabledBy = s.disabledBy := rfl
@[simp] theorem raiseModel_pending (s : State) (r : CheckResult) : (raiseModel r s).pending = s.pending := rfl
@[simp] theorem raiseModel_freeIndex (s : State) (r : CheckResult) : (raiseModel r s).freeIndex = s.freeIndex := rfl
@[simp] theorem raiseModel_arms (s : State) (r : CheckResult) : (raiseModel r s).attn.arms = s.attn.arms := rfl
@[simp] theorem raiseModel_cell_master (s : State) (r : CheckResult) : (raiseModel r s).attn.cell.master = s.attn.cell.master := rfl
@[simp] theorem raiseModel_cell_fault (s : State) (r : CheckResult) : (raiseModel r s).attn.cell.fault = s.attn.cell.fault := rfl
@[simp] theorem raiseModel_cell_rack (s : State) (r : CheckResult) : (raiseModel r s).attn.cell.rack = s.attn.cell.rack := rfl
@[simp] theorem raiseModel_cell_sensor (s : State) (r : CheckResult) : (raiseModel r s).attn.cell.sensor = s.attn.cell.sensor := rfl
@[simp] theorem raiseModel_cell_probe (s : State) (r : CheckResult) : (raiseModel r s).attn.cell.probe = s.attn.cell.probe := rfl
@[simp] theorem raiseModel_cell_touch (s : State) (r : CheckResult) : (raiseModel r s).attn.cell.touch = s.attn.cell.touch := rfl

/-! `raiseSensor` -/

@[simp] theorem raiseSensor_cellTime (s : State) (i : Fin 16) : (raiseSensor i s).cellTime = s.cellTime := rfl
@[simp] theorem raiseSensor_resetHeld (s : State) (i : Fin 16) : (raiseSensor i s).resetHeld = s.resetHeld := rfl
@[simp] theorem raiseSensor_ports (s : State) (i : Fin 16) : (raiseSensor i s).ports = s.ports := rfl
@[simp] theorem raiseSensor_temp (s : State) (i : Fin 16) : (raiseSensor i s).temp = s.temp := rfl
@[simp] theorem raiseSensor_model (s : State) (i : Fin 16) : (raiseSensor i s).model = s.model := rfl
@[simp] theorem raiseSensor_lastPos (s : State) (i : Fin 16) : (raiseSensor i s).lastPos = s.lastPos := rfl
@[simp] theorem raiseSensor_zones (s : State) (i : Fin 16) : (raiseSensor i s).zones = s.zones := rfl
@[simp] theorem raiseSensor_sup (s : State) (i : Fin 16) : (raiseSensor i s).sup = s.sup := rfl
@[simp] theorem raiseSensor_registry (s : State) (i : Fin 16) : (raiseSensor i s).registry = s.registry := rfl
@[simp] theorem raiseSensor_rack (s : State) (i : Fin 16) : (raiseSensor i s).rack = s.rack := rfl
@[simp] theorem raiseSensor_touch (s : State) (i : Fin 16) : (raiseSensor i s).touch = s.touch := rfl
@[simp] theorem raiseSensor_alarmMap (s : State) (i : Fin 16) : (raiseSensor i s).alarmMap = s.alarmMap := rfl
@[simp] theorem raiseSensor_disabledBy (s : State) (i : Fin 16) : (raiseSensor i s).disabledBy = s.disabledBy := rfl
@[simp] theorem raiseSensor_pending (s : State) (i : Fin 16) : (raiseSensor i s).pending = s.pending := rfl
@[simp] theorem raiseSensor_freeIndex (s : State) (i : Fin 16) : (raiseSensor i s).freeIndex = s.freeIndex := rfl
@[simp] theorem raiseSensor_arms (s : State) (i : Fin 16) : (raiseSensor i s).attn.arms = s.attn.arms := rfl
@[simp] theorem raiseSensor_cell_master (s : State) (i : Fin 16) : (raiseSensor i s).attn.cell.master = s.attn.cell.master := rfl
@[simp] theorem raiseSensor_cell_fault (s : State) (i : Fin 16) : (raiseSensor i s).attn.cell.fault = s.attn.cell.fault := rfl
@[simp] theorem raiseSensor_cell_rack (s : State) (i : Fin 16) : (raiseSensor i s).attn.cell.rack = s.attn.cell.rack := rfl
@[simp] theorem raiseSensor_cell_model (s : State) (i : Fin 16) : (raiseSensor i s).attn.cell.model = s.attn.cell.model := rfl
@[simp] theorem raiseSensor_cell_probe (s : State) (i : Fin 16) : (raiseSensor i s).attn.cell.probe = s.attn.cell.probe := rfl
@[simp] theorem raiseSensor_cell_touch (s : State) (i : Fin 16) : (raiseSensor i s).attn.cell.touch = s.attn.cell.touch := rfl

/-! `raiseProbe` -/

@[simp] theorem raiseProbe_cellTime (s : State) (e : Fin 14) : (raiseProbe e s).cellTime = s.cellTime := rfl
@[simp] theorem raiseProbe_resetHeld (s : State) (e : Fin 14) : (raiseProbe e s).resetHeld = s.resetHeld := rfl
@[simp] theorem raiseProbe_ports (s : State) (e : Fin 14) : (raiseProbe e s).ports = s.ports := rfl
@[simp] theorem raiseProbe_temp (s : State) (e : Fin 14) : (raiseProbe e s).temp = s.temp := rfl
@[simp] theorem raiseProbe_model (s : State) (e : Fin 14) : (raiseProbe e s).model = s.model := rfl
@[simp] theorem raiseProbe_lastPos (s : State) (e : Fin 14) : (raiseProbe e s).lastPos = s.lastPos := rfl
@[simp] theorem raiseProbe_zones (s : State) (e : Fin 14) : (raiseProbe e s).zones = s.zones := rfl
@[simp] theorem raiseProbe_sup (s : State) (e : Fin 14) : (raiseProbe e s).sup = s.sup := rfl
@[simp] theorem raiseProbe_registry (s : State) (e : Fin 14) : (raiseProbe e s).registry = s.registry := rfl
@[simp] theorem raiseProbe_rack (s : State) (e : Fin 14) : (raiseProbe e s).rack = s.rack := rfl
@[simp] theorem raiseProbe_touch (s : State) (e : Fin 14) : (raiseProbe e s).touch = s.touch := rfl
@[simp] theorem raiseProbe_alarmMap (s : State) (e : Fin 14) : (raiseProbe e s).alarmMap = s.alarmMap := rfl
@[simp] theorem raiseProbe_disabledBy (s : State) (e : Fin 14) : (raiseProbe e s).disabledBy = s.disabledBy := rfl
@[simp] theorem raiseProbe_pending (s : State) (e : Fin 14) : (raiseProbe e s).pending = s.pending := rfl
@[simp] theorem raiseProbe_freeIndex (s : State) (e : Fin 14) : (raiseProbe e s).freeIndex = s.freeIndex := rfl
@[simp] theorem raiseProbe_arms (s : State) (e : Fin 14) : (raiseProbe e s).attn.arms = s.attn.arms := rfl
@[simp] theorem raiseProbe_cell_master (s : State) (e : Fin 14) : (raiseProbe e s).attn.cell.master = s.attn.cell.master := rfl
@[simp] theorem raiseProbe_cell_fault (s : State) (e : Fin 14) : (raiseProbe e s).attn.cell.fault = s.attn.cell.fault := rfl
@[simp] theorem raiseProbe_cell_rack (s : State) (e : Fin 14) : (raiseProbe e s).attn.cell.rack = s.attn.cell.rack := rfl
@[simp] theorem raiseProbe_cell_model (s : State) (e : Fin 14) : (raiseProbe e s).attn.cell.model = s.attn.cell.model := rfl
@[simp] theorem raiseProbe_cell_sensor (s : State) (e : Fin 14) : (raiseProbe e s).attn.cell.sensor = s.attn.cell.sensor := rfl
@[simp] theorem raiseProbe_cell_touch (s : State) (e : Fin 14) : (raiseProbe e s).attn.cell.touch = s.attn.cell.touch := rfl

/-! `raiseTouch` -/

@[simp] theorem raiseTouch_cellTime (s : State) (arm : Arm) : (raiseTouch arm s).cellTime = s.cellTime := rfl
@[simp] theorem raiseTouch_resetHeld (s : State) (arm : Arm) : (raiseTouch arm s).resetHeld = s.resetHeld := rfl
@[simp] theorem raiseTouch_ports (s : State) (arm : Arm) : (raiseTouch arm s).ports = s.ports := rfl
@[simp] theorem raiseTouch_temp (s : State) (arm : Arm) : (raiseTouch arm s).temp = s.temp := rfl
@[simp] theorem raiseTouch_model (s : State) (arm : Arm) : (raiseTouch arm s).model = s.model := rfl
@[simp] theorem raiseTouch_lastPos (s : State) (arm : Arm) : (raiseTouch arm s).lastPos = s.lastPos := rfl
@[simp] theorem raiseTouch_zones (s : State) (arm : Arm) : (raiseTouch arm s).zones = s.zones := rfl
@[simp] theorem raiseTouch_sup (s : State) (arm : Arm) : (raiseTouch arm s).sup = s.sup := rfl
@[simp] theorem raiseTouch_registry (s : State) (arm : Arm) : (raiseTouch arm s).registry = s.registry := rfl
@[simp] theorem raiseTouch_rack (s : State) (arm : Arm) : (raiseTouch arm s).rack = s.rack := rfl
@[simp] theorem raiseTouch_touch (s : State) (arm : Arm) : (raiseTouch arm s).touch = s.touch := rfl
@[simp] theorem raiseTouch_alarmMap (s : State) (arm : Arm) : (raiseTouch arm s).alarmMap = s.alarmMap := rfl
@[simp] theorem raiseTouch_disabledBy (s : State) (arm : Arm) : (raiseTouch arm s).disabledBy = s.disabledBy := rfl
@[simp] theorem raiseTouch_pending (s : State) (arm : Arm) : (raiseTouch arm s).pending = s.pending := rfl
@[simp] theorem raiseTouch_freeIndex (s : State) (arm : Arm) : (raiseTouch arm s).freeIndex = s.freeIndex := rfl
@[simp] theorem raiseTouch_arms (s : State) (arm : Arm) : (raiseTouch arm s).attn.arms = s.attn.arms := rfl
@[simp] theorem raiseTouch_cell_master (s : State) (arm : Arm) : (raiseTouch arm s).attn.cell.master = s.attn.cell.master := rfl
@[simp] theorem raiseTouch_cell_fault (s : State) (arm : Arm) : (raiseTouch arm s).attn.cell.fault = s.attn.cell.fault := rfl
@[simp] theorem raiseTouch_cell_rack (s : State) (arm : Arm) : (raiseTouch arm s).attn.cell.rack = s.attn.cell.rack := rfl
@[simp] theorem raiseTouch_cell_model (s : State) (arm : Arm) : (raiseTouch arm s).attn.cell.model = s.attn.cell.model := rfl
@[simp] theorem raiseTouch_cell_sensor (s : State) (arm : Arm) : (raiseTouch arm s).attn.cell.sensor = s.attn.cell.sensor := rfl
@[simp] theorem raiseTouch_cell_probe (s : State) (arm : Arm) : (raiseTouch arm s).attn.cell.probe = s.attn.cell.probe := rfl

/-! `raisePermit` -/

@[simp] theorem raisePermit_cellTime (s : State) (arm : Arm) (on : Bool) (st : SupState) : (raisePermit arm on st s).cellTime = s.cellTime := rfl
@[simp] theorem raisePermit_resetHeld (s : State) (arm : Arm) (on : Bool) (st : SupState) : (raisePermit arm on st s).resetHeld = s.resetHeld := rfl
@[simp] theorem raisePermit_ports (s : State) (arm : Arm) (on : Bool) (st : SupState) : (raisePermit arm on st s).ports = s.ports := rfl
@[simp] theorem raisePermit_temp (s : State) (arm : Arm) (on : Bool) (st : SupState) : (raisePermit arm on st s).temp = s.temp := rfl
@[simp] theorem raisePermit_model (s : State) (arm : Arm) (on : Bool) (st : SupState) : (raisePermit arm on st s).model = s.model := rfl
@[simp] theorem raisePermit_lastPos (s : State) (arm : Arm) (on : Bool) (st : SupState) : (raisePermit arm on st s).lastPos = s.lastPos := rfl
@[simp] theorem raisePermit_zones (s : State) (arm : Arm) (on : Bool) (st : SupState) : (raisePermit arm on st s).zones = s.zones := rfl
@[simp] theorem raisePermit_sup (s : State) (arm : Arm) (on : Bool) (st : SupState) : (raisePermit arm on st s).sup = s.sup := rfl
@[simp] theorem raisePermit_registry (s : State) (arm : Arm) (on : Bool) (st : SupState) : (raisePermit arm on st s).registry = s.registry := rfl
@[simp] theorem raisePermit_rack (s : State) (arm : Arm) (on : Bool) (st : SupState) : (raisePermit arm on st s).rack = s.rack := rfl
@[simp] theorem raisePermit_touch (s : State) (arm : Arm) (on : Bool) (st : SupState) : (raisePermit arm on st s).touch = s.touch := rfl
@[simp] theorem raisePermit_alarmMap (s : State) (arm : Arm) (on : Bool) (st : SupState) : (raisePermit arm on st s).alarmMap = s.alarmMap := rfl
@[simp] theorem raisePermit_disabledBy (s : State) (arm : Arm) (on : Bool) (st : SupState) : (raisePermit arm on st s).disabledBy = s.disabledBy := rfl
@[simp] theorem raisePermit_pending (s : State) (arm : Arm) (on : Bool) (st : SupState) : (raisePermit arm on st s).pending = s.pending := rfl
@[simp] theorem raisePermit_freeIndex (s : State) (arm : Arm) (on : Bool) (st : SupState) : (raisePermit arm on st s).freeIndex = s.freeIndex := rfl
@[simp] theorem raisePermit_cell (s : State) (arm : Arm) (on : Bool) (st : SupState) : (raisePermit arm on st s).attn.cell = s.attn.cell := rfl

/-! `raiseChange` -/

@[simp] theorem raiseChange_cellTime (s : State) (arm : Arm) : (raiseChange arm s).cellTime = s.cellTime := rfl
@[simp] theorem raiseChange_resetHeld (s : State) (arm : Arm) : (raiseChange arm s).resetHeld = s.resetHeld := rfl
@[simp] theorem raiseChange_ports (s : State) (arm : Arm) : (raiseChange arm s).ports = s.ports := rfl
@[simp] theorem raiseChange_temp (s : State) (arm : Arm) : (raiseChange arm s).temp = s.temp := rfl
@[simp] theorem raiseChange_model (s : State) (arm : Arm) : (raiseChange arm s).model = s.model := rfl
@[simp] theorem raiseChange_lastPos (s : State) (arm : Arm) : (raiseChange arm s).lastPos = s.lastPos := rfl
@[simp] theorem raiseChange_zones (s : State) (arm : Arm) : (raiseChange arm s).zones = s.zones := rfl
@[simp] theorem raiseChange_sup (s : State) (arm : Arm) : (raiseChange arm s).sup = s.sup := rfl
@[simp] theorem raiseChange_registry (s : State) (arm : Arm) : (raiseChange arm s).registry = s.registry := rfl
@[simp] theorem raiseChange_rack (s : State) (arm : Arm) : (raiseChange arm s).rack = s.rack := rfl
@[simp] theorem raiseChange_touch (s : State) (arm : Arm) : (raiseChange arm s).touch = s.touch := rfl
@[simp] theorem raiseChange_alarmMap (s : State) (arm : Arm) : (raiseChange arm s).alarmMap = s.alarmMap := rfl
@[simp] theorem raiseChange_disabledBy (s : State) (arm : Arm) : (raiseChange arm s).disabledBy = s.disabledBy := rfl
@[simp] theorem raiseChange_pending (s : State) (arm : Arm) : (raiseChange arm s).pending = s.pending := rfl
@[simp] theorem raiseChange_freeIndex (s : State) (arm : Arm) : (raiseChange arm s).freeIndex = s.freeIndex := rfl
@[simp] theorem raiseChange_cell (s : State) (arm : Arm) : (raiseChange arm s).attn.cell = s.attn.cell := rfl

/-! `raiseClaim` -/

@[simp] theorem raiseClaim_cellTime (s : State) (arm : Arm) (c : Claim) : (raiseClaim arm c s).cellTime = s.cellTime := rfl
@[simp] theorem raiseClaim_resetHeld (s : State) (arm : Arm) (c : Claim) : (raiseClaim arm c s).resetHeld = s.resetHeld := rfl
@[simp] theorem raiseClaim_ports (s : State) (arm : Arm) (c : Claim) : (raiseClaim arm c s).ports = s.ports := rfl
@[simp] theorem raiseClaim_temp (s : State) (arm : Arm) (c : Claim) : (raiseClaim arm c s).temp = s.temp := rfl
@[simp] theorem raiseClaim_model (s : State) (arm : Arm) (c : Claim) : (raiseClaim arm c s).model = s.model := rfl
@[simp] theorem raiseClaim_lastPos (s : State) (arm : Arm) (c : Claim) : (raiseClaim arm c s).lastPos = s.lastPos := rfl
@[simp] theorem raiseClaim_zones (s : State) (arm : Arm) (c : Claim) : (raiseClaim arm c s).zones = s.zones := rfl
@[simp] theorem raiseClaim_sup (s : State) (arm : Arm) (c : Claim) : (raiseClaim arm c s).sup = s.sup := rfl
@[simp] theorem raiseClaim_registry (s : State) (arm : Arm) (c : Claim) : (raiseClaim arm c s).registry = s.registry := rfl
@[simp] theorem raiseClaim_rack (s : State) (arm : Arm) (c : Claim) : (raiseClaim arm c s).rack = s.rack := rfl
@[simp] theorem raiseClaim_touch (s : State) (arm : Arm) (c : Claim) : (raiseClaim arm c s).touch = s.touch := rfl
@[simp] theorem raiseClaim_alarmMap (s : State) (arm : Arm) (c : Claim) : (raiseClaim arm c s).alarmMap = s.alarmMap := rfl
@[simp] theorem raiseClaim_disabledBy (s : State) (arm : Arm) (c : Claim) : (raiseClaim arm c s).disabledBy = s.disabledBy := rfl
@[simp] theorem raiseClaim_pending (s : State) (arm : Arm) (c : Claim) : (raiseClaim arm c s).pending = s.pending := rfl
@[simp] theorem raiseClaim_freeIndex (s : State) (arm : Arm) (c : Claim) : (raiseClaim arm c s).freeIndex = s.freeIndex := rfl
@[simp] theorem raiseClaim_cell (s : State) (arm : Arm) (c : Claim) : (raiseClaim arm c s).attn.cell = s.attn.cell := rfl

/-! `raiseComp` -/

@[simp] theorem raiseComp_cellTime (s : State) (arm : Arm) (w : Quality) : (raiseComp arm w s).cellTime = s.cellTime := rfl
@[simp] theorem raiseComp_resetHeld (s : State) (arm : Arm) (w : Quality) : (raiseComp arm w s).resetHeld = s.resetHeld := rfl
@[simp] theorem raiseComp_ports (s : State) (arm : Arm) (w : Quality) : (raiseComp arm w s).ports = s.ports := rfl
@[simp] theorem raiseComp_temp (s : State) (arm : Arm) (w : Quality) : (raiseComp arm w s).temp = s.temp := rfl
@[simp] theorem raiseComp_model (s : State) (arm : Arm) (w : Quality) : (raiseComp arm w s).model = s.model := rfl
@[simp] theorem raiseComp_lastPos (s : State) (arm : Arm) (w : Quality) : (raiseComp arm w s).lastPos = s.lastPos := rfl
@[simp] theorem raiseComp_zones (s : State) (arm : Arm) (w : Quality) : (raiseComp arm w s).zones = s.zones := rfl
@[simp] theorem raiseComp_sup (s : State) (arm : Arm) (w : Quality) : (raiseComp arm w s).sup = s.sup := rfl
@[simp] theorem raiseComp_registry (s : State) (arm : Arm) (w : Quality) : (raiseComp arm w s).registry = s.registry := rfl
@[simp] theorem raiseComp_rack (s : State) (arm : Arm) (w : Quality) : (raiseComp arm w s).rack = s.rack := rfl
@[simp] theorem raiseComp_touch (s : State) (arm : Arm) (w : Quality) : (raiseComp arm w s).touch = s.touch := rfl
@[simp] theorem raiseComp_alarmMap (s : State) (arm : Arm) (w : Quality) : (raiseComp arm w s).alarmMap = s.alarmMap := rfl
@[simp] theorem raiseComp_disabledBy (s : State) (arm : Arm) (w : Quality) : (raiseComp arm w s).disabledBy = s.disabledBy := rfl
@[simp] theorem raiseComp_pending (s : State) (arm : Arm) (w : Quality) : (raiseComp arm w s).pending = s.pending := rfl
@[simp] theorem raiseComp_freeIndex (s : State) (arm : Arm) (w : Quality) : (raiseComp arm w s).freeIndex = s.freeIndex := rfl
@[simp] theorem raiseComp_cell (s : State) (arm : Arm) (w : Quality) : (raiseComp arm w s).attn.cell = s.attn.cell := rfl

end Sys2Proof.Machine
end

