-- ==== Sys2Proof/Laws/Ops.lean ====
section
/-! SUPPORT. The shared operations, each said once: what bringing a cause up to date, moving a supervision state, judging
an arm, accepting a frame and handling a request can do. -/

namespace Sys2Proof.Machine

/-! ### Causes -/

@[simp] theorem State.setSup_get (s : State) (arm : Arm) : s.setSup arm (s.sup.get arm) = s := by
  simp [State.setSup]

/-- All that bringing a present flag up to date does: the flag takes the condition, and a cause that becomes present in
a mode other than OFF is recorded with FAULT attention (R84, R85). -/
theorem setPresent_spec (arm : Arm) (c : Cause) (now : Bool) (s : State) :
    setPresent arm c now s =
      if now = true ∧ (s.sup.get arm).present.get c = false ∧ (s.sup.get arm).mode c ≠ .off then
        raiseFault arm (s.setSup arm { s.sup.get arm with
          present := (s.sup.get arm).present.set c true, recorded := (s.sup.get arm).recorded.set c true })
      else s.setSup arm { s.sup.get arm with present := (s.sup.get arm).present.set c now } := by
  unfold setPresent
  split
  · next h =>
    have : ¬ (now = true ∧ (s.sup.get arm).present.get c = false ∧ (s.sup.get arm).mode c ≠ .off) := by
      rintro ⟨h1, h2, -⟩; simp [h1, h2] at h
    have e : ({ s.sup.get arm with present := (s.sup.get arm).present.set c now } : Supervisor) = s.sup.get arm := by
      rw [← h, PerCause.set_get]
    rw [if_neg this, e, State.setSup_get]
  · next h =>
    cases now
    · simp [State.modSup]
    · have h2 : (s.sup.get arm).present.get c = false := by simpa using h
      by_cases hm : (s.sup.get arm).mode c = .off
      · simp_all [recordCause, State.modSup, Supervisor.mode]
      · simp_all [recordCause, State.modSup, Supervisor.mode, State.setSup, raiseFault, State.modCellUnit]

/-- All that recording a cause does (R85). -/
theorem recordCause_spec (arm : Arm) (c : Cause) (s : State) :
    recordCause arm c s = if (s.sup.get arm).mode c = .off then s
      else raiseFault arm (s.setSup arm { s.sup.get arm with recorded := (s.sup.get arm).recorded.set c true }) := rfl

/-- A cause that is as it was before brings no change. -/
theorem setPresent_same (arm : Arm) (c : Cause) (s : State) :
    setPresent arm c ((s.sup.get arm).present.get c) s = s := by simp [setPresent]

@[simp] theorem setPresent_other (arm : Arm) (c : Cause) (now : Bool) (s : State) :
    (setPresent arm c now s).sup.get (otherArm arm) = s.sup.get (otherArm arm) := by
  rw [setPresent_spec]; split <;> simp

@[simp] theorem setPresent_arms (arm : Arm) (c : Cause) (now : Bool) (s : State) :
    (setPresent arm c now s).attn.arms = s.attn.arms := by
  rw [setPresent_spec]; split <;> simp

/-! ### The supervision state -/

/-- All that moving an arm to a supervision state does: the state, and with a change of the command a settle window and
PERMIT attention (R99 to R101). -/
theorem enterState_spec (arm : Arm) (st : SupState) (s : State) :
    enterState arm st s =
      if (s.sup.get arm).command = decide (st = .running) then s.setSup arm { s.sup.get arm with state := st }
      else raisePermit arm (decide (st = .running)) st (s.setSup arm { s.sup.get arm with
        state := st, command := decide (st = .running), window := some (s.timer settleWindowMs) }) := by
  by_cases h : (s.sup.get arm).command = decide (st = .running)
  · simp [enterState, commandPermit, State.modSup, State.setSup, h]
  · simp [enterState, commandPermit, State.modSup, State.setSup, h, State.timer]

/-- An arm none of whose present flags changed, and to which the event brings nothing else, is not moved (R89). -/
theorem judgeArm_same (s0 : State) (t : Trigger) (arm : Arm) (s : State)
    (h : (s.sup.get arm).present = (s0.sup.get arm).present) (ht : t.arm? ≠ some arm) : judgeArm s0 t arm s = s := by
  simp [judgeArm, h, ht]

/-- All that the judgement of an arm does: nothing, or the move to the state of Table 5.6, with the report timer
restarted from STOPPED (R89). -/
theorem judgeArm_spec (s0 : State) (t : Trigger) (arm : Arm) (s : State) :
    judgeArm s0 t arm s = s ∨
      (let st := stateAfter (s0.sup.get arm) (s.sup.get arm) t arm
       st ≠ (s.sup.get arm).state ∧
        judgeArm s0 t arm s = if st = .starting then restartReport arm (enterState arm st s) else enterState arm st s) := by
  unfold judgeArm
  dsimp only
  split
  · exact .inl rfl
  · split
    · exact .inl rfl
    · next h => exact .inr ⟨h, rfl⟩

@[simp] theorem enterState_other (arm : Arm) (st : SupState) (s : State) :
    (enterState arm st s).sup.get (otherArm arm) = s.sup.get (otherArm arm) := by
  rw [enterState_spec]; split <;> simp

@[simp] theorem judgeArm_other (s0 : State) (t : Trigger) (arm : Arm) (s : State) :
    (judgeArm s0 t arm s).sup.get (otherArm arm) = s.sup.get (otherArm arm) := by
  obtain h | ⟨-, h⟩ := judgeArm_spec s0 t arm s <;> rw [h]
  split <;> simp [restartReport]

/-- An event that changed no present flag and brings nothing to the judgement moves no arm. -/
theorem conclude_same (s0 s : State) (h : ∀ arm, (s.sup.get arm).present = (s0.sup.get arm).present) :
    conclude s0 .plain s = s := by
  have ha : judgeArm s0 .plain .a s = s := judgeArm_same _ _ _ _ (h .a) (by simp [Trigger.arm?])
  rw [conclude, ha]
  exact judgeArm_same _ _ _ _ (h .b) (by simp [Trigger.arm?])

/-! ### The end of a frame -/

/-- All that acceptance does on the Cell link (R162). -/
theorem acceptFrame_cell (s : State) :
    acceptFrame .cell s = s.modPort .cell fun p => { p with phase := .idle, runCount := 0, resetBit := false } := rfl

/-- All that acceptance does on an arm link: the port, the report timer with report-any on, and the end of LINK (R87,
R97, R162). -/
theorem acceptFrame_arm (arm : Arm) (s : State) :
    acceptFrame (linkOf arm) s =
      let v := s.sup.get arm
      (s.modPort (linkOf arm) fun p => { p with phase := .idle, runCount := 0, resetBit := false }).setSup arm { v with
        present := v.present.set .link false
        reportTimer := if v.settings.reportAny = true ∧ v.reportTimer.isSome = true then
          some (s.timer (timeoutMs v.settings.timeoutCode)) else v.reportTimer } := by
  by_cases h : (s.sup.get arm).settings.reportAny = true ∧ (s.sup.get arm).reportTimer.isSome = true
  · simp [acceptFrame, setPresent_spec, h, restartReport, State.modSup, State.setSup, State.modPort, State.setPort,
      State.timer]
  · simp only [acceptFrame, armOf_linkOf, State.modPort_sup, eq_false h, setPresent_spec, Bool.false_eq_true, false_and,
      if_false]

/-- The end of a frame that the port does not take (R168, R171). -/
theorem handleFrame_passed {access : Access} {l : Link} {act : State → Act} {finish : Reply → State → State × Reply}
    {s : State} (h : takesFrame l s = false) : handleFrame access l act finish s = passOver l s := by
  simp [handleFrame, h]

/-- The end of an accepted frame whose request is permitted (R162, R164). -/
theorem handleFrame_permitted {access : Access} {l : Link} {act : State → Act} {finish : Reply → State → State × Reply}
    {s : State} (h : takesFrame l s = true) (hp : access.permits l = true) :
    handleFrame access l act finish s =
      let done := act (acceptFrame l s)
      let out := finish done.reply (conclude s done.trigger done.st)
      writeReply l out.2 out.1 := by
  simp [handleFrame, h, hp]

/-- The end of an accepted frame whose request is not permitted on its link (R164, R165). -/
theorem handleRequest_denied {access : Access} {l : Link} {act : State → Act} {s : State} (h : takesFrame l s = true)
    (hp : access.permits l = false) :
    handleRequest access l act s = writeReply l (.zeros .notPermitted) (conclude s .plain (acceptFrame l s)) := by
  simp [handleRequest, handleFrame, h, hp, refuse]

/-- The end of an accepted frame whose request is permitted and answered with its effect. -/
theorem handleRequest_permitted {access : Access} {l : Link} {act : State → Act} {s : State}
    (h : takesFrame l s = true) (hp : access.permits l = true) :
    handleRequest access l act s =
      let done := act (acceptFrame l s)
      writeReply l done.reply (conclude s done.trigger done.st) := by
  simp [handleRequest, handleFrame, h, hp]

end Sys2Proof.Machine
end

