-- ==== Sys2Proof/Laws/Frame.lean ====
section
/-! SUPPORT. What the shared operations leave: every field but supervisors and attention (and the ports at the end of a
frame), and what the end of an accepted frame is in every case. -/

namespace Sys2Proof.Machine

/-! `restartReport` -/

@[simp] theorem restartReport_cellTime (arm : Arm) (s : State) : (restartReport arm s).cellTime = s.cellTime := rfl
@[simp] theorem restartReport_resetHeld (arm : Arm) (s : State) : (restartReport arm s).resetHeld = s.resetHeld := rfl
@[simp] theorem restartReport_ports (arm : Arm) (s : State) : (restartReport arm s).ports = s.ports := rfl
@[simp] theorem restartReport_temp (arm : Arm) (s : State) : (restartReport arm s).temp = s.temp := rfl
@[simp] theorem restartReport_model (arm : Arm) (s : State) : (restartReport arm s).model = s.model := rfl
@[simp] theorem restartReport_lastPos (arm : Arm) (s : State) : (restartReport arm s).lastPos = s.lastPos := rfl
@[simp] theorem restartReport_zones (arm : Arm) (s : State) : (restartReport arm s).zones = s.zones := rfl
@[simp] theorem restartReport_registry (arm : Arm) (s : State) : (restartReport arm s).registry = s.registry := rfl
@[simp] theorem restartReport_rack (arm : Arm) (s : State) : (restartReport arm s).rack = s.rack := rfl
@[simp] theorem restartReport_touch (arm : Arm) (s : State) : (restartReport arm s).touch = s.touch := rfl
@[simp] theorem restartReport_alarmMap (arm : Arm) (s : State) : (restartReport arm s).alarmMap = s.alarmMap := rfl
@[simp] theorem restartReport_disabledBy (arm : Arm) (s : State) : (restartReport arm s).disabledBy = s.disabledBy := rfl
@[simp] theorem restartReport_pending (arm : Arm) (s : State) : (restartReport arm s).pending = s.pending := rfl
@[simp] theorem restartReport_freeIndex (arm : Arm) (s : State) : (restartReport arm s).freeIndex = s.freeIndex := rfl

/-! `commandPermit` -/

@[simp] theorem commandPermit_cellTime (arm : Arm) (on : Bool) (s : State) : (commandPermit arm on s).cellTime = s.cellTime := rfl
@[simp] theorem commandPermit_resetHeld (arm : Arm) (on : Bool) (s : State) : (commandPermit arm on s).resetHeld = s.resetHeld := rfl
@[simp] theorem commandPermit_ports (arm : Arm) (on : Bool) (s : State) : (commandPermit arm on s).ports = s.ports := rfl
@[simp] theorem commandPermit_temp (arm : Arm) (on : Bool) (s : State) : (commandPermit arm on s).temp = s.temp := rfl
@[simp] theorem commandPermit_model (arm : Arm) (on : Bool) (s : State) : (commandPermit arm on s).model = s.model := rfl
@[simp] theorem commandPermit_lastPos (arm : Arm) (on : Bool) (s : State) : (commandPermit arm on s).lastPos = s.lastPos := rfl
@[simp] theorem commandPermit_zones (arm : Arm) (on : Bool) (s : State) : (commandPermit arm on s).zones = s.zones := rfl
@[simp] theorem commandPermit_registry (arm : Arm) (on : Bool) (s : State) : (commandPermit arm on s).registry = s.registry := rfl
@[simp] theorem commandPermit_rack (arm : Arm) (on : Bool) (s : State) : (commandPermit arm on s).rack = s.rack := rfl
@[simp] theorem commandPermit_touch (arm : Arm) (on : Bool) (s : State) : (commandPermit arm on s).touch = s.touch := rfl
@[simp] theorem commandPermit_alarmMap (arm : Arm) (on : Bool) (s : State) : (commandPermit arm on s).alarmMap = s.alarmMap := rfl
@[simp] theorem commandPermit_disabledBy (arm : Arm) (on : Bool) (s : State) : (commandPermit arm on s).disabledBy = s.disabledBy := rfl
@[simp] theorem commandPermit_pending (arm : Arm) (on : Bool) (s : State) : (commandPermit arm on s).pending = s.pending := rfl
@[simp] theorem commandPermit_freeIndex (arm : Arm) (on : Bool) (s : State) : (commandPermit arm on s).freeIndex = s.freeIndex := rfl

/-! `recordCause` -/

@[simp] theorem recordCause_cellTime (arm : Arm) (c : Cause) (s : State) : (recordCause arm c s).cellTime = s.cellTime := by
  rw [recordCause_spec]; split <;> rfl
@[simp] theorem recordCause_resetHeld (arm : Arm) (c : Cause) (s : State) : (recordCause arm c s).resetHeld = s.resetHeld := by
  rw [recordCause_spec]; split <;> rfl
@[simp] theorem recordCause_ports (arm : Arm) (c : Cause) (s : State) : (recordCause arm c s).ports = s.ports := by
  rw [recordCause_spec]; split <;> rfl
@[simp] theorem recordCause_temp (arm : Arm) (c : Cause) (s : State) : (recordCause arm c s).temp = s.temp := by
  rw [recordCause_spec]; split <;> rfl
@[simp] theorem recordCause_model (arm : Arm) (c : Cause) (s : State) : (recordCause arm c s).model = s.model := by
  rw [recordCause_spec]; split <;> rfl
@[simp] theorem recordCause_lastPos (arm : Arm) (c : Cause) (s : State) : (recordCause arm c s).lastPos = s.lastPos := by
  rw [recordCause_spec]; split <;> rfl
@[simp] theorem recordCause_zones (arm : Arm) (c : Cause) (s : State) : (recordCause arm c s).zones = s.zones := by
  rw [recordCause_spec]; split <;> rfl
@[simp] theorem recordCause_registry (arm : Arm) (c : Cause) (s : State) : (recordCause arm c s).registry = s.registry := by
  rw [recordCause_spec]; split <;> rfl
@[simp] theorem recordCause_rack (arm : Arm) (c : Cause) (s : State) : (recordCause arm c s).rack = s.rack := by
  rw [recordCause_spec]; split <;> rfl
@[simp] theorem recordCause_touch (arm : Arm) (c : Cause) (s : State) : (recordCause arm c s).touch = s.touch := by
  rw [recordCause_spec]; split <;> rfl
@[simp] theorem recordCause_alarmMap (arm : Arm) (c : Cause) (s : State) : (recordCause arm c s).alarmMap = s.alarmMap := by
  rw [recordCause_spec]; split <;> rfl
@[simp] theorem recordCause_disabledBy (arm : Arm) (c : Cause) (s : State) : (recordCause arm c s).disabledBy = s.disabledBy := by
  rw [recordCause_spec]; split <;> rfl
@[simp] theorem recordCause_pending (arm : Arm) (c : Cause) (s : State) : (recordCause arm c s).pending = s.pending := by
  rw [recordCause_spec]; split <;> rfl
@[simp] theorem recordCause_freeIndex (arm : Arm) (c : Cause) (s : State) : (recordCause arm c s).freeIndex = s.freeIndex := by
  rw [recordCause_spec]; split <;> rfl

/-! `setPresent` -/

@[simp] theorem setPresent_cellTime (arm : Arm) (c : Cause) (now : Bool) (s : State) : (setPresent arm c now s).cellTime = s.cellTime := by
  rw [setPresent_spec]; split <;> rfl
@[simp] theorem setPresent_resetHeld (arm : Arm) (c : Cause) (now : Bool) (s : State) : (setPresent arm c now s).resetHeld = s.resetHeld := by
  rw [setPresent_spec]; split <;> rfl
@[simp] theorem setPresent_ports (arm : Arm) (c : Cause) (now : Bool) (s : State) : (setPresent arm c now s).ports = s.ports := by
  rw [setPresent_spec]; split <;> rfl
@[simp] theorem setPresent_temp (arm : Arm) (c : Cause) (now : Bool) (s : State) : (setPresent arm c now s).temp = s.temp := by
  rw [setPresent_spec]; split <;> rfl
@[simp] theorem setPresent_model (arm : Arm) (c : Cause) (now : Bool) (s : State) : (setPresent arm c now s).model = s.model := by
  rw [setPresent_spec]; split <;> rfl
@[simp] theorem setPresent_lastPos (arm : Arm) (c : Cause) (now : Bool) (s : State) : (setPresent arm c now s).lastPos = s.lastPos := by
  rw [setPresent_spec]; split <;> rfl
@[simp] theorem setPresent_zones (arm : Arm) (c : Cause) (now : Bool) (s : State) : (setPresent arm c now s).zones = s.zones := by
  rw [setPresent_spec]; split <;> rfl
@[simp] theorem setPresent_registry (arm : Arm) (c : Cause) (now : Bool) (s : State) : (setPresent arm c now s).registry = s.registry := by
  rw [setPresent_spec]; split <;> rfl
@[simp] theorem setPresent_rack (arm : Arm) (c : Cause) (now : Bool) (s : State) : (setPresent arm c now s).rack = s.rack := by
  rw [setPresent_spec]; split <;> rfl
@[simp] theorem setPresent_touch (arm : Arm) (c : Cause) (now : Bool) (s : State) : (setPresent arm c now s).touch = s.touch := by
  rw [setPresent_spec]; split <;> rfl
@[simp] theorem setPresent_alarmMap (arm : Arm) (c : Cause) (now : Bool) (s : State) : (setPresent arm c now s).alarmMap = s.alarmMap := by
  rw [setPresent_spec]; split <;> rfl
@[simp] theorem setPresent_disabledBy (arm : Arm) (c : Cause) (now : Bool) (s : State) : (setPresent arm c now s).disabledBy = s.disabledBy := by
  rw [setPresent_spec]; split <;> rfl
@[simp] theorem setPresent_pending (arm : Arm) (c : Cause) (now : Bool) (s : State) : (setPresent arm c now s).pending = s.pending := by
  rw [setPresent_spec]; split <;> rfl
@[simp] theorem setPresent_freeIndex (arm : Arm) (c : Cause) (now : Bool) (s : State) : (setPresent arm c now s).freeIndex = s.freeIndex := by
  rw [setPresent_spec]; split <;> rfl

/-! `enterState` -/

@[simp] theorem enterState_cellTime (arm : Arm) (st : SupState) (s : State) : (enterState arm st s).cellTime = s.cellTime := by
  rw [enterState_spec]; split <;> rfl
@[simp] theorem enterState_resetHeld (arm : Arm) (st : SupState) (s : State) : (enterState arm st s).resetHeld = s.resetHeld := by
  rw [enterState_spec]; split <;> rfl
@[simp] theorem enterState_ports (arm : Arm) (st : SupState) (s : State) : (enterState arm st s).ports = s.ports := by
  rw [enterState_spec]; split <;> rfl
@[simp] theorem enterState_temp (arm : Arm) (st : SupState) (s : State) : (enterState arm st s).temp = s.temp := by
  rw [enterState_spec]; split <;> rfl
@[simp] theorem enterState_model (arm : Arm) (st : SupState) (s : State) : (enterState arm st s).model = s.model := by
  rw [enterState_spec]; split <;> rfl
@[simp] theorem enterState_lastPos (arm : Arm) (st : SupState) (s : State) : (enterState arm st s).lastPos = s.lastPos := by
  rw [enterState_spec]; split <;> rfl
@[simp] theorem enterState_zones (arm : Arm) (st : SupState) (s : State) : (enterState arm st s).zones = s.zones := by
  rw [enterState_spec]; split <;> rfl
@[simp] theorem enterState_registry (arm : Arm) (st : SupState) (s : State) : (enterState arm st s).registry = s.registry := by
  rw [enterState_spec]; split <;> rfl
@[simp] theorem enterState_rack (arm : Arm) (st : SupState) (s : State) : (enterState arm st s).rack = s.rack := by
  rw [enterState_spec]; split <;> rfl
@[simp] theorem enterState_touch (arm : Arm) (st : SupState) (s : State) : (enterState arm st s).touch = s.touch := by
  rw [enterState_spec]; split <;> rfl
@[simp] theorem enterState_alarmMap (arm : Arm) (st : SupState) (s : State) : (enterState arm st s).alarmMap = s.alarmMap := by
  rw [enterState_spec]; split <;> rfl
@[simp] theorem enterState_disabledBy (arm : Arm) (st : SupState) (s : State) : (enterState arm st s).disabledBy = s.disabledBy := by
  rw [enterState_spec]; split <;> rfl
@[simp] theorem enterState_pending (arm : Arm) (st : SupState) (s : State) : (enterState arm st s).pending = s.pending := by
  rw [enterState_spec]; split <;> rfl
@[simp] theorem enterState_freeIndex (arm : Arm) (st : SupState) (s : State) : (enterState arm st s).freeIndex = s.freeIndex := by
  rw [enterState_spec]; split <;> rfl

/-! `judgeArm` -/

@[simp] theorem judgeArm_cellTime (s0 : State) (t : Trigger) (arm : Arm) (s : State) : (judgeArm s0 t arm s).cellTime = s.cellTime := by
  obtain h | ⟨-, h⟩ := judgeArm_spec s0 t arm s <;> rw [h]; split <;> simp
@[simp] theorem judgeArm_resetHeld (s0 : State) (t : Trigger) (arm : Arm) (s : State) : (judgeArm s0 t arm s).resetHeld = s.resetHeld := by
  obtain h | ⟨-, h⟩ := judgeArm_spec s0 t arm s <;> rw [h]; split <;> simp
@[simp] theorem judgeArm_ports (s0 : State) (t : Trigger) (arm : Arm) (s : State) : (judgeArm s0 t arm s).ports = s.ports := by
  obtain h | ⟨-, h⟩ := judgeArm_spec s0 t arm s <;> rw [h]; split <;> simp
@[simp] theorem judgeArm_temp (s0 : State) (t : Trigger) (arm : Arm) (s : State) : (judgeArm s0 t arm s).temp = s.temp := by
  obtain h | ⟨-, h⟩ := judgeArm_spec s0 t arm s <;> rw [h]; split <;> simp
@[simp] theorem judgeArm_model (s0 : State) (t : Trigger) (arm : Arm) (s : State) : (judgeArm s0 t arm s).model = s.model := by
  obtain h | ⟨-, h⟩ := judgeArm_spec s0 t arm s <;> rw [h]; split <;> simp
@[simp] theorem judgeArm_lastPos (s0 : State) (t : Trigger) (arm : Arm) (s : State) : (judgeArm s0 t arm s).lastPos = s.lastPos := by
  obtain h | ⟨-, h⟩ := judgeArm_spec s0 t arm s <;> rw [h]; split <;> simp
@[simp] theorem judgeArm_zones (s0 : State) (t : Trigger) (arm : Arm) (s : State) : (judgeArm s0 t arm s).zones = s.zones := by
  obtain h | ⟨-, h⟩ := judgeArm_spec s0 t arm s <;> rw [h]; split <;> simp
@[simp] theorem judgeArm_registry (s0 : State) (t : Trigger) (arm : Arm) (s : State) : (judgeArm s0 t arm s).registry = s.registry := by
  obtain h | ⟨-, h⟩ := judgeArm_spec s0 t arm s <;> rw [h]; split <;> simp
@[simp] theorem judgeArm_rack (s0 : State) (t : Trigger) (arm : Arm) (s : State) : (judgeArm s0 t arm s).rack = s.rack := by
  obtain h | ⟨-, h⟩ := judgeArm_spec s0 t arm s <;> rw [h]; split <;> simp
@[simp] theorem judgeArm_touch (s0 : State) (t : Trigger) (arm : Arm) (s : State) : (judgeArm s0 t arm s).touch = s.touch := by
  obtain h | ⟨-, h⟩ := judgeArm_spec s0 t arm s <;> rw [h]; split <;> simp
@[simp] theorem judgeArm_alarmMap (s0 : State) (t : Trigger) (arm : Arm) (s : State) : (judgeArm s0 t arm s).alarmMap = s.alarmMap := by
  obtain h | ⟨-, h⟩ := judgeArm_spec s0 t arm s <;> rw [h]; split <;> simp
@[simp] theorem judgeArm_disabledBy (s0 : State) (t : Trigger) (arm : Arm) (s : State) : (judgeArm s0 t arm s).disabledBy = s.disabledBy := by
  obtain h | ⟨-, h⟩ := judgeArm_spec s0 t arm s <;> rw [h]; split <;> simp
@[simp] theorem judgeArm_pending (s0 : State) (t : Trigger) (arm : Arm) (s : State) : (judgeArm s0 t arm s).pending = s.pending := by
  obtain h | ⟨-, h⟩ := judgeArm_spec s0 t arm s <;> rw [h]; split <;> simp
@[simp] theorem judgeArm_freeIndex (s0 : State) (t : Trigger) (arm : Arm) (s : State) : (judgeArm s0 t arm s).freeIndex = s.freeIndex := by
  obtain h | ⟨-, h⟩ := judgeArm_spec s0 t arm s <;> rw [h]; split <;> simp

/-! `conclude` -/

@[simp] theorem conclude_cellTime (s0 : State) (t : Trigger) (s : State) : (conclude s0 t s).cellTime = s.cellTime := by simp [conclude]
@[simp] theorem conclude_resetHeld (s0 : State) (t : Trigger) (s : State) : (conclude s0 t s).resetHeld = s.resetHeld := by simp [conclude]
@[simp] theorem conclude_ports (s0 : State) (t : Trigger) (s : State) : (conclude s0 t s).ports = s.ports := by simp [conclude]
@[simp] theorem conclude_temp (s0 : State) (t : Trigger) (s : State) : (conclude s0 t s).temp = s.temp := by simp [conclude]
@[simp] theorem conclude_model (s0 : State) (t : Trigger) (s : State) : (conclude s0 t s).model = s.model := by simp [conclude]
@[simp] theorem conclude_lastPos (s0 : State) (t : Trigger) (s : State) : (conclude s0 t s).lastPos = s.lastPos := by simp [conclude]
@[simp] theorem conclude_zones (s0 : State) (t : Trigger) (s : State) : (conclude s0 t s).zones = s.zones := by simp [conclude]
@[simp] theorem conclude_registry (s0 : State) (t : Trigger) (s : State) : (conclude s0 t s).registry = s.registry := by simp [conclude]
@[simp] theorem conclude_rack (s0 : State) (t : Trigger) (s : State) : (conclude s0 t s).rack = s.rack := by simp [conclude]
@[simp] theorem conclude_touch (s0 : State) (t : Trigger) (s : State) : (conclude s0 t s).touch = s.touch := by simp [conclude]
@[simp] theorem conclude_alarmMap (s0 : State) (t : Trigger) (s : State) : (conclude s0 t s).alarmMap = s.alarmMap := by simp [conclude]
@[simp] theorem conclude_disabledBy (s0 : State) (t : Trigger) (s : State) : (conclude s0 t s).disabledBy = s.disabledBy := by simp [conclude]
@[simp] theorem conclude_pending (s0 : State) (t : Trigger) (s : State) : (conclude s0 t s).pending = s.pending := by simp [conclude]
@[simp] theorem conclude_freeIndex (s0 : State) (t : Trigger) (s : State) : (conclude s0 t s).freeIndex = s.freeIndex := by simp [conclude]

/-! `acceptFrame` -/

@[simp] theorem acceptFrame_cellTime (l : Link) (s : State) : (acceptFrame l s).cellTime = s.cellTime := by
  cases l
  · exact (congrArg State.cellTime (acceptFrame_arm .a s)).trans rfl
  · exact (congrArg State.cellTime (acceptFrame_arm .b s)).trans rfl
  · rfl
@[simp] theorem acceptFrame_resetHeld (l : Link) (s : State) : (acceptFrame l s).resetHeld = s.resetHeld := by
  cases l
  · exact (congrArg State.resetHeld (acceptFrame_arm .a s)).trans rfl
  · exact (congrArg State.resetHeld (acceptFrame_arm .b s)).trans rfl
  · rfl
@[simp] theorem acceptFrame_temp (l : Link) (s : State) : (acceptFrame l s).temp = s.temp := by
  cases l
  · exact (congrArg State.temp (acceptFrame_arm .a s)).trans rfl
  · exact (congrArg State.temp (acceptFrame_arm .b s)).trans rfl
  · rfl
@[simp] theorem acceptFrame_model (l : Link) (s : State) : (acceptFrame l s).model = s.model := by
  cases l
  · exact (congrArg State.model (acceptFrame_arm .a s)).trans rfl
  · exact (congrArg State.model (acceptFrame_arm .b s)).trans rfl
  · rfl
@[simp] theorem acceptFrame_lastPos (l : Link) (s : State) : (acceptFrame l s).lastPos = s.lastPos := by
  cases l
  · exact (congrArg State.lastPos (acceptFrame_arm .a s)).trans rfl
  · exact (congrArg State.lastPos (acceptFrame_arm .b s)).trans rfl
  · rfl
@[simp] theorem acceptFrame_zones (l : Link) (s : State) : (acceptFrame l s).zones = s.zones := by
  cases l
  · exact (congrArg State.zones (acceptFrame_arm .a s)).trans rfl
  · exact (congrArg State.zones (acceptFrame_arm .b s)).trans rfl
  · rfl
@[simp] theorem acceptFrame_registry (l : Link) (s : State) : (acceptFrame l s).registry = s.registry := by
  cases l
  · exact (congrArg State.registry (acceptFrame_arm .a s)).trans rfl
  · exact (congrArg State.registry (acceptFrame_arm .b s)).trans rfl
  · rfl
@[simp] theorem acceptFrame_rack (l : Link) (s : State) : (acceptFrame l s).rack = s.rack := by
  cases l
  · exact (congrArg State.rack (acceptFrame_arm .a s)).trans rfl
  · exact (congrArg State.rack (acceptFrame_arm .b s)).trans rfl
  · rfl
@[simp] theorem acceptFrame_touch (l : Link) (s : State) : (acceptFrame l s).touch = s.touch := by
  cases l
  · exact (congrArg State.touch (acceptFrame_arm .a s)).trans rfl
  · exact (congrArg State.touch (acceptFrame_arm .b s)).trans rfl
  · rfl
@[simp] theorem acceptFrame_alarmMap (l : Link) (s : State) : (acceptFrame l s).alarmMap = s.alarmMap := by
  cases l
  · exact (congrArg State.alarmMap (acceptFrame_arm .a s)).trans rfl
  · exact (congrArg State.alarmMap (acceptFrame_arm .b s)).trans rfl
  · rfl
@[simp] theorem acceptFrame_disabledBy (l : Link) (s : State) : (acceptFrame l s).disabledBy = s.disabledBy := by
  cases l
  · exact (congrArg State.disabledBy (acceptFrame_arm .a s)).trans rfl
  · exact (congrArg State.disabledBy (acceptFrame_arm .b s)).trans rfl
  · rfl
@[simp] theorem acceptFrame_pending (l : Link) (s : State) : (acceptFrame l s).pending = s.pending := by
  cases l
  · exact (congrArg State.pending (acceptFrame_arm .a s)).trans rfl
  · exact (congrArg State.pending (acceptFrame_arm .b s)).trans rfl
  · rfl
@[simp] theorem acceptFrame_freeIndex (l : Link) (s : State) : (acceptFrame l s).freeIndex = s.freeIndex := by
  cases l
  · exact (congrArg State.freeIndex (acceptFrame_arm .a s)).trans rfl
  · exact (congrArg State.freeIndex (acceptFrame_arm .b s)).trans rfl
  · rfl

@[simp] theorem conclude_cell_unit (s0 : State) (t : Trigger) (s : State) : (conclude s0 t s).attn.cell = s.attn.cell := by
  have enter (arm : Arm) (st : SupState) (u : State) : (enterState arm st u).attn.cell = u.attn.cell := by
    rw [enterState_spec]; split <;> rfl
  have judge (arm : Arm) (u : State) : (judgeArm s0 t arm u).attn.cell = u.attn.cell := by
    obtain h | ⟨-, h⟩ := judgeArm_spec s0 t arm u <;> rw [h]
    split
    · exact enter _ _ u
    · exact enter _ _ u
  rw [conclude, judge, judge]

/-- The port of a link after the end of a frame that is accepted there. -/
theorem acceptFrame_port (l : Link) (s : State) :
    (acceptFrame l s).ports = s.ports.set l { s.ports.get l with phase := .idle, runCount := 0, resetBit := false } := by
  cases l
  · exact (congrArg State.ports (acceptFrame_arm .a s)).trans rfl
  · exact (congrArg State.ports (acceptFrame_arm .b s)).trans rfl
  · rfl

/-- The judgement at the end of an event reads the state before it only in its supervisors. -/
theorem conclude_congr {s0 s1 : State} (h : s0.sup = s1.sup) (t : Trigger) (s : State) :
    conclude s0 t s = conclude s1 t s := by
  simp only [conclude, judgeArm, h]

/-- The answered state of a frame that its block leaves alone: the effects of acceptance and the answer, nothing else. -/
theorem writeReply_conclude_acceptFrame (l : Link) (reply : Reply) (s : State) :
    writeReply l reply (conclude s .plain (acceptFrame l s)) = answered l reply (frameEnded l s) := by
  simp [writeReply, State.modPort, State.setPort, answered, frameEnded, answeredPort, acceptFrame_port]

end Sys2Proof.Machine
end

