-- ==== Sys2Proof/Laws/Blocks.lean ====
section
/-! SUPPORT. The shared operations of the blocks, each said once: what an operation on zones, claims, probes, slots or
changes leaves in each record. -/

namespace Sys2Proof.Machine

/-! ### Sets of marks -/

/-- Marks added one after another: a mark is set when it stood before or one that was added is it. -/
theorem foldl_marks_getLsbD {n : Nat} (p : Fin n → Bool) (l : List (Fin n)) (acc : BitVec n) (i : Fin n) :
    (l.foldl (fun acc j => if p j then acc ||| (1#n <<< j.val) else acc) acc).getLsbD i.val =
      (acc.getLsbD i.val || l.any fun j => p j && decide (i.val = j.val)) := by
  induction l generalizing acc with
  | nil => simp
  | cons j l ih =>
    rw [List.foldl_cons, ih, List.any_cons, ← Bool.or_assoc]
    congr 1
    cases p j
    · simp
    · simpa [addMark] using addMark_getLsbD acc j.val i.isLt

/-- Member i of a set of marks is the property at i (R173). -/
@[simp] theorem marksOf_getLsbD {n : Nat} (p : Fin n → Bool) (i : Fin n) : (marksOf p).getLsbD i.val = p i := by
  rw [marksOf, foldl_marks_getLsbD]
  cases h : p i
  · simp only [BitVec.getLsbD_zero, Bool.false_or, List.any_eq_false]
    rintro j - hj
    simp only [Bool.and_eq_true, decide_eq_true_eq] at hj
    rw [← Fin.ext hj.2, h] at hj; exact absurd hj.1 (by simp)
  · simp only [BitVec.getLsbD_zero, Bool.false_or, List.any_eq_true]
    exact ⟨i, List.mem_finRange i, by simp [h]⟩

@[simp] theorem heldSet_getLsbD (s : State) (arm : Arm) (z : Fin 16) :
    (heldSet s arm).getLsbD z.val = decide ((zoneAt s z).holder = some arm) := marksOf_getLsbD ..

/-! ### Zones -/

@[simp] theorem zoneAt_mapZones (s : State) (f : Fin 16 → Zone → Zone) (z : Fin 16) :
    zoneAt (s.mapZones f) z = f z (zoneAt s z) := vget_vmap ..

@[simp] theorem zoneAt_setClaim (s : State) (arm : Arm) (c : Option Claim) (z : Fin 16) :
    zoneAt (s.setClaim arm c) z = zoneAt s z := rfl

@[simp] theorem zoneAt_setGuard (s : State) (arm : Arm) (g : Option GuardRecord) (z : Fin 16) :
    zoneAt (s.setGuard arm g) z = zoneAt s z := rfl

/-- All that holding a range does to a zone (R67). -/
@[simp] theorem zoneAt_holdRange (arm : Arm) (c : Claim) (s : State) (z : Fin 16) :
    zoneAt (holdRange arm c s) z = if c.covers z then { zoneAt s z with holder := some arm } else zoneAt s z :=
  zoneAt_mapZones ..

/-- All that setting waiter marks does to a zone (R68). -/
@[simp] theorem zoneAt_markWaiter (arm : Arm) (c : Claim) (s : State) (z : Fin 16) :
    zoneAt (markWaiter arm c s) z =
      if c.covers z = true ∧ (zoneAt s z).holder ≠ some arm then { zoneAt s z with waiter := some arm } else zoneAt s z :=
  zoneAt_mapZones ..

/-- All that freeing zones does to a zone (R73, R74). -/
@[simp] theorem zoneAt_freeZones (p : Fin 16 → Zone → Bool) (s : State) (z : Fin 16) :
    zoneAt (freeZones p s) z = if p z (zoneAt s z) then { zoneAt s z with holder := none } else zoneAt s z :=
  zoneAt_mapZones ..

/-- All that removing a pending claim does to a zone (R65). -/
theorem zoneAt_removeClaim (arm : Arm) (s : State) (z : Fin 16) :
    zoneAt (removeClaim arm s) z =
      if (s.zones.claims.get arm).isSome = true ∧ (zoneAt s z).waiter = some arm then
        { zoneAt s z with waiter := none }
      else zoneAt s z := by
  cases h : s.zones.claims.get arm with
  | none => simp [removeClaim, h]
  | some c =>
    have : zoneAt (removeClaim arm s) z =
        if (zoneAt s z).waiter = some arm then { zoneAt s z with waiter := none } else zoneAt s z := by
      simp only [removeClaim, h]
      rw [zoneAt_setClaim, zoneAt_mapZones]
    simp [this]

@[simp] theorem claims_removeClaim (arm : Arm) (s : State) :
    (removeClaim arm s).zones.claims = s.zones.claims.set arm none := by
  cases h : s.zones.claims.get arm with
  | none => simp only [removeClaim, h]; rw [← h, PerArm.set_get]
  | some c => simp only [removeClaim, h, State.setClaim_zones, State.mapZones, State.setZoneTable_zones]

/-- All that judging a verdict does: the guard record's verdict and the GUARD cause (R79, R86). -/
theorem judgeVerdict_none {arm : Arm} {s : State} (h : s.zones.guards.get arm = none) :
    judgeVerdict arm s = setPresent arm .guard false s := by simp [judgeVerdict, h]

theorem judgeVerdict_some {arm : Arm} {s : State} {g : GuardRecord} (h : s.zones.guards.get arm = some g) :
    judgeVerdict arm s = setPresent arm .guard (violates s arm g.needed)
      (s.setGuard arm (some { g with violated := violates s arm g.needed })) := by simp [judgeVerdict, h]

/-! ### Probes -/

/-- The entry found holds a probe with the property, and no lower entry does. -/
theorem findProbe_some {s : State} {p : Probe → Bool} {e : Fin 14} (h : findProbe s p = some e) :
    (∃ k, entryAt s e = some k ∧ p k = true) ∧ ∀ f < e, ∀ k, entryAt s f = some k → p k = false := by
  obtain ⟨h1, i, hi, h2, h3⟩ := List.find?_eq_some_iff_getElem.mp h
  refine ⟨?_, ?_⟩
  · cases hk : entryAt s e with
    | none => simp [hk] at h1
    | some k => exact ⟨k, rfl, by simpa [hk] using h1⟩
  intro f hf k hk
  have hv : e.val = i := by rw [← h2]; simp
  have := h3 f.val (by omega)
  simpa [hk] using this

/-- No entry found: no probe has the property. -/
theorem findProbe_none {s : State} {p : Probe → Bool} (h : findProbe s p = none) (e : Fin 14) (k : Probe)
    (hk : entryAt s e = some k) : p k = false := by
  have := List.find?_eq_none.mp h e (List.mem_finRange e)
  simpa [hk] using this

@[simp] theorem entryAt_modProbe (s : State) (e f : Fin 14) (g : Probe → Probe) :
    entryAt (s.modProbe e g) f = if f = e then (entryAt s e).map g else entryAt s f := entryAt_setEntry ..

/-- All that the mount check does (R114). -/
theorem mountCheck_spec {s : State} {e : Fin 14} {p : Probe} (h : entryAt s e = some p) :
    mountCheck e s =
      if p.qual = .qualified ∧ drifts s p = true then raiseProbe e (s.setEntry e (some { p with qual := .due })) else s := by
  simp [mountCheck, h]

/-- All that the report of a touch does (R115). -/
theorem countUse_spec {s : State} {e : Fin 14} {p : Probe} (h : entryAt s e = some p) :
    countUse e s =
      if p.qual = .qualified ∧ s.registry.useLimit ≤ min 65535 (p.useCount + 1) then
        raiseProbe e (s.setEntry e (some { p with useCount := min 65535 (p.useCount + 1), qual := .due }))
      else s.setEntry e (some { p with useCount := min 65535 (p.useCount + 1) }) := by
  simp [countUse, h]

/-! ### Slots and changes -/

@[simp] theorem slotAt_enterSlot (i j : Fin 12) (st : SlotState) (probe : Option (Fin 14)) (s : State) :
    slotAt (enterSlot i st probe s) j =
      if j = i then { slotAt s i with state := st, probe := probe, lock := decide (st ≠ .released) } else slotAt s j :=
  slotAt_modSlot ..

@[simp] theorem entryAt_locate (e f : Fin 14) (loc : Location) (s : State) :
    entryAt (locate e loc s) f = if f = e then (entryAt s e).map fun p => { p with location := loc } else entryAt s f :=
  entryAt_modProbe ..

@[simp] theorem changes_closeChange (arm : Arm) (outcome : ChangeOutcome) (s : State) :
    (closeChange arm outcome s).rack.changes = s.rack.changes.set arm (closedContext outcome) := rfl

@[simp] theorem queues_startBlank (arm : Arm) (s : State) :
    (startBlank arm s).touch.queues = s.touch.queues.set arm { s.touch.queues.get arm with
      blankTimer := if s.touch.blankTime = 0 then none else some ⟨s.cellTime, s.touch.blankTime⟩ } := rfl

end Sys2Proof.Machine
end

