-- ==== Sys2Proof/Laws/Checks.lean ====
section
/-! SUPPORT. Checks that the kernel evaluates on a concrete state, each enough for one of the invariants of Safety. -/

namespace Sys2Proof.Machine

theorem all_arms {p : Arm → Prop} (ha : p .a) (hb : p .b) : ∀ arm, p arm := fun arm => by cases arm <;> assumption

theorem all_links {p : Link → Prop} (ha : p .armA) (hb : p .armB) (hc : p .cell) : ∀ l, p l :=
  fun l => by cases l <;> assumption

/-- Enough for PortsSound. -/
theorem portsSound_of_check {s : State}
    (h : s.ports.armA.runCount ≤ 255 ∧ s.ports.armB.runCount ≤ 255 ∧ s.ports.cell.runCount ≤ 255) : PortsSound s :=
  all_links h.1 h.2.1 h.2.2

/-- What SupervisorSound asks of a supervisor, as a check. -/
def supervisorCheck (v : Supervisor) : Bool :=
  decide (v.command = decide (v.state = .running)) && decide (v.state = .disabled → v.reportTimer = none) &&
  allCauses.all (fun c => decide (v.mode c = .off → v.recorded.get c = false)) &&
  allCauses.all (fun c => decide (v.present.get c = true → v.mode c ≠ .off → v.recorded.get c = true)) &&
  decide (recordedIn .latched v = true → v.state = .stopped ∨ v.state = .disabled) &&
  decide (v.state = .running → presentIn .auto v = false) && decide (v.state = .held → presentIn .auto v = true)

theorem supervisorSound_of_check {v : Supervisor} (h : supervisorCheck v = true) : SupervisorSound v := by
  simp only [supervisorCheck, Bool.and_eq_true, decide_eq_true_eq, List.all_eq_true] at h
  obtain ⟨⟨⟨⟨⟨⟨h1, h2⟩, h3⟩, h4⟩, h5⟩, h6⟩, h7⟩ := h
  exact ⟨h1, h2, h3, h4, h5, h6, h7⟩

theorem supervisorsSound_of_check {s : State} (h : (supervisorCheck s.sup.a && supervisorCheck s.sup.b) = true) :
    SupervisorsSound s := by
  rw [Bool.and_eq_true] at h
  exact ⟨supervisorSound_of_check h.1, supervisorSound_of_check h.2⟩

/-- What SensorSound asks of a sensor record, as a check. -/
def sensorCheck (x : Sensor) : Bool :=
  decide (x.role = .unused ↔ x.state = .off) && decide (minTemp ≤ x.tf ∧ x.tf ≤ maxTemp) &&
  decide (x.nonGoodRun ≤ 8 ∧ x.goodRun ≤ 8) && decide (x.history.length ≤ 6) &&
  decide (x.history.length = 6 → x.state = .lockedOut) &&
  x.history.all (fun e => decide ((x.ordinal - e).toNat < 64)) &&
  decide (x.history.Pairwise fun e f => (x.ordinal - f).toNat < (x.ordinal - e).toNat) &&
  decide (x.state = .off ∨ x.state = .waiting ∨ x.state = .valid → x.leftValid = none)

theorem sensorSound_of_check {x : Sensor} (h : sensorCheck x = true) : SensorSound x := by
  simp only [sensorCheck, Bool.and_eq_true, decide_eq_true_eq, List.all_eq_true] at h
  obtain ⟨⟨⟨⟨⟨⟨⟨h1, h2⟩, h3⟩, h4⟩, h5⟩, h6⟩, h7⟩, h8⟩ := h
  exact ⟨h1, h2.1, h2.2, h3, h4, h5, h6, h7, h8⟩

theorem sensorsSound_of_check {s : State}
    (h : ((List.finRange 16).all fun i => sensorCheck (vget s.temp.sensors i)) = true)
    (h1 : s.temp.hold ≤ 600 ∧ s.temp.spreadLimit ≤ 10000 ∧ 1 ≤ s.temp.deglitch ∧ s.temp.deglitch ≤ 8) :
    SensorsSound s :=
  ⟨fun i => sensorSound_of_check (List.all_eq_true.mp h i (List.mem_finRange i)), h1⟩

theorem sequencerSound_of_check {q : Sequencer}
    (h : (q.list.length ≤ 24 ∧ q.position < 24) ∧ (q.state = .stopped → q.inFlight = none ∧ q.inRound = false) ∧
      (q.state = .single → q.inFlight.isSome = true ∧ q.pendingSingle = none ∧ q.inRound = false) ∧
      (q.state = .stopping → q.inFlight.isSome = true) ∧
      (q.state ≠ .running → q.roundTimer = none ∧ q.expired = false) ∧
      (q.pendingSingle.isSome = true → q.inFlight.isSome = true)) : SequencerSound q :=
  ⟨h.1.1, h.1.2, h.2.1, h.2.2.1, h.2.2.2.1, h.2.2.2.2.1, h.2.2.2.2.2⟩

/-- What WordsSound asks of an image, as a check. -/
def wordsCheck (im : Image) : Bool :=
  decide (workpieceAlpha im ≤ 30000) && (List.finRange 6).all fun j => decide (scaleAlpha im j ≤ 30000) &&
    (List.finRange 33).all fun i => decide (-32767 ≤ nodeAt im j i ∧ nodeAt im j i ≤ 32767)

theorem wordsSound_of_check {im : Image} (h : wordsCheck im = true) : WordsSound im := by
  simp only [wordsCheck, Bool.and_eq_true, decide_eq_true_eq, List.all_eq_true] at h
  exact ⟨h.1, fun j => ⟨(h.2 j (List.mem_finRange j)).1, fun i => (h.2 j (List.mem_finRange j)).2 i (List.mem_finRange i)⟩⟩

/-- What ModelSound asks of the model store, as a check. -/
def modelCheckOk (s : State) : Bool :=
  wordsCheck s.model.staging && s.model.active.all fun im => wordsCheck im &&
    (List.finRange 6).all fun j => nodesPass im j && spanPass im j && assignPass s im j

theorem modelSound_of_check {s : State} (h : modelCheckOk s = true) : ModelSound s := by
  simp only [modelCheckOk, Bool.and_eq_true] at h
  refine ⟨wordsSound_of_check h.1, fun im him => ?_⟩
  have h2 := h.2
  rw [him] at h2
  simp only [Option.all_some, Bool.and_eq_true, List.all_eq_true] at h2
  exact ⟨wordsSound_of_check h2.1, fun j =>
    ⟨(h2.2 j (List.mem_finRange j)).1.1, (h2.2 j (List.mem_finRange j)).1.2, (h2.2 j (List.mem_finRange j)).2⟩⟩

theorem tableSound_of_check {s : State}
    (h1 : ∀ z : Fin 16, (zoneAt s z).defined = true →
      -maxCount ≤ (zoneAt s z).lower ∧ (zoneAt s z).lower < (zoneAt s z).upper ∧ (zoneAt s z).upper ≤ maxCount)
    (h2 : ∀ z : Fin 16, (zoneAt s z).defined = false → zoneAt s z = Zone.reset)
    (h3 : ∀ z w : Fin 16, z ≠ w → (zoneAt s z).defined = true → (zoneAt s w).defined = true →
      (zoneAt s z).upper ≤ (zoneAt s w).lower ∨ (zoneAt s w).upper ≤ (zoneAt s z).lower)
    (h4 : ∀ z w : Fin 16, (zoneAt s z).defined = true → (zoneAt s w).defined = true →
      (zoneAt s z).kind = .rack → (zoneAt s w).kind = .rack → z = w) : TableSound s := ⟨h1, h2, h3, h4⟩

/-- What ClaimsSound asks of one arm, as a check. -/
def claimCheck (s : State) (arm : Arm) : Bool :=
  (s.zones.claims.get arm).all (fun c => decide ((s.sup.get arm).state ≠ .disabled ∧ 1 ≤ c.count ∧
    c.first + c.count ≤ 16) && (List.finRange 16).all fun z => !c.covers z || (zoneAt s z).defined) &&
  (List.finRange 16).all fun z => decide ((zoneAt s z).waiter = some arm ↔
    (s.zones.claims.get arm).any (fun c => c.covers z) = true ∧ (zoneAt s z).holder ≠ some arm)

theorem claimsSound_of_check {s : State} (h : s.zones.claims.a = none ∨ s.zones.claims.b = none)
    (ha : claimCheck s .a = true) (hb : claimCheck s .b = true) : ClaimsSound s := by
  have range : ∀ arm, claimCheck s arm = true → ∀ c, s.zones.claims.get arm = some c →
      (s.sup.get arm).state ≠ .disabled ∧ 1 ≤ c.count ∧ c.first + c.count ≤ 16 ∧
        ∀ z : Fin 16, c.covers z = true → (zoneAt s z).defined = true := by
    intro arm hc c hcl
    simp only [claimCheck, hcl, Option.all_some, Bool.and_eq_true, decide_eq_true_eq, List.all_eq_true] at hc
    refine ⟨hc.1.1.1, hc.1.1.2.1, hc.1.1.2.2, fun z hz => ?_⟩
    have := hc.1.2 z (List.mem_finRange z)
    simpa [hz] using this
  have waiter : ∀ arm, claimCheck s arm = true → ∀ z : Fin 16, (zoneAt s z).waiter = some arm ↔
      (s.zones.claims.get arm).any (fun c => c.covers z) = true ∧ (zoneAt s z).holder ≠ some arm := by
    intro arm hc z
    simp only [claimCheck, Bool.and_eq_true, List.all_eq_true, decide_eq_true_eq] at hc
    exact hc.2 z (List.mem_finRange z)
  exact ⟨h, all_arms (range .a ha) (range .b hb), all_arms (waiter .a ha) (waiter .b hb)⟩

theorem changeSound_of_check {s : State} {arm : Arm}
    (h1 : (s.rack.changes.get arm).phase = .idle →
      s.rack.changes.get arm = closedContext (s.rack.changes.get arm).outcome)
    (h2 : (s.rack.changes.get arm).phase ≠ .idle → (s.rack.changes.get arm).timer.isSome = true)
    (h3 : ∀ i : Fin 12, (s.rack.changes.get arm).putSlot = some i → (s.rack.changes.get arm).takeSlot ≠ some i)
    (h4 : (s.rack.changes.get arm).phase ≠ .idle →
      ∃ z : Fin 16, (zoneAt s z).defined = true ∧ (zoneAt s z).kind = .rack ∧ (zoneAt s z).holder = some arm) :
    ChangeSound s arm := ⟨h1, h2, h3, h4⟩

/-- A probe on the head of an arm, as a check. -/
def onHeadCheck (s : State) (arm : Arm) (e : Fin 14) : Bool :=
  decide ((entryAt s e).map Probe.location = some (.head arm))

/-- A slot released for the change of an arm, as a check. -/
def releasedCheck (s : State) (arm : Arm) (i : Fin 12) : Bool :=
  decide (((s.rack.changes.get arm).phase = .deposit ∧ (s.rack.changes.get arm).putSlot = some i) ∨
    ((s.rack.changes.get arm).phase = .pick ∧ (s.rack.changes.get arm).takeSlot = some i))

/-- What RackSound asks of one slot, as a check. -/
def slotCheck (s : State) (i : Fin 12) : Bool :=
  let x := slotAt s i
  decide (x.lock = decide (x.state ≠ .released)) &&
  (List.finRange 14).all (fun e => decide (x.probe = some e ↔ (entryAt s e).map Probe.location = some (.slot i)) &&
    decide (x.probe = some e → (entryAt s e).map Probe.home = some i)) &&
  decide (x.state = .vacant ∨ x.state = .unclaimed → x.probe = none) &&
  decide (x.state = .stored → x.probe.isSome = true) &&
  decide (x.state = .released ↔ (releasedCheck s .a i || releasedCheck s .b i) = true)

/-- What RackSound asks of the change of one arm, as a check. -/
def changeSlotCheck (s : State) (arm : Arm) : Bool :=
  let c := s.rack.changes.get arm
  decide (c.phase = .deposit → ∃ (h : Fin 12) (e : Fin 14), c.putSlot = some h ∧ (slotAt s h).probe = none ∧
    onHeadCheck s arm e = true ∧ (entryAt s e).map Probe.home = some h) &&
  decide (c.phase = .pick → ∃ t : Fin 12, c.takeSlot = some t ∧ (slotAt s t).probe.isSome = true ∧
    ∀ e : Fin 14, onHeadCheck s arm e = false) &&
  decide (∀ e f : Fin 14, onHeadCheck s arm e = true → onHeadCheck s arm f = true → e = f)

theorem rackSound_of_check {s : State} (h : ((List.finRange 12).all fun i => slotCheck s i) = true)
    (ha : changeSlotCheck s .a = true) (hb : changeSlotCheck s .b = true)
    (ht : 1 ≤ s.rack.changeTimeout ∧ s.rack.changeTimeout ≤ 120) : RackSound s := by
  have slot : ∀ i : Fin 12, slotCheck s i = true := fun i => List.all_eq_true.mp h i (List.mem_finRange i)
  simp only [slotCheck, Bool.and_eq_true, decide_eq_true_eq, List.all_eq_true] at slot
  have rel : ∀ i, (releasedCheck s .a i || releasedCheck s .b i) = true ↔ releasedFor s .a i ∨ releasedFor s .b i := by
    intro i; simp [releasedCheck, releasedFor]
  have head : ∀ arm e, onHeadCheck s arm e = true ↔ onHead s arm e := by intro arm e; simp [onHeadCheck, onHead]
  have nohead : ∀ arm e, onHeadCheck s arm e = false ↔ ¬ onHead s arm e := by
    intro arm e; simp [onHeadCheck, onHead]
  simp only [changeSlotCheck, Bool.and_eq_true, decide_eq_true_eq, head, nohead] at ha hb
  exact ⟨fun i => (slot i).1.1.1.1, fun i e => ((slot i).1.1.1.2 e (List.mem_finRange e)).1,
    fun i e => ((slot i).1.1.1.2 e (List.mem_finRange e)).2, fun i => (slot i).1.1.2, fun i => (slot i).1.2,
    fun i => (slot i).2.trans (rel i), all_arms ha.1.1 hb.1.1, all_arms ha.1.2 hb.1.2, ht, all_arms ha.2 hb.2⟩

/-- What ProbeSound asks of a record, as a check. -/
def probeCheck (p : Probe) : Bool :=
  decide (p.id ≠ 0) && decide (p.tips.length ≤ 5) && p.tips.all tipInRange && decide (p.useCount ≤ 65535) &&
    decide (p.tcal = none ↔ p.qual = .unqualified)

theorem registrySound_of_check {s : State} (h : ((List.finRange 14).all fun e => (entryAt s e).all probeCheck) = true)
    (hi : ∀ e f : Fin 14, e ≠ f → (entryAt s e).isSome = true →
      (entryAt s e).map Probe.id ≠ (entryAt s f).map Probe.id)
    (hl : 1 ≤ s.registry.useLimit ∧ s.registry.useLimit ≤ 65535 ∧ s.registry.driftLimit ≤ 10000) :
    RegistrySound s := by
  refine ⟨fun e p hp => ?_, fun e f p q hp hq hid => ?_, hl⟩
  · have := List.all_eq_true.mp h e (List.mem_finRange e)
    rw [hp] at this
    simp only [Option.all_some, probeCheck, Bool.and_eq_true, decide_eq_true_eq, List.all_eq_true] at this
    exact ⟨this.1.1.1.1, this.1.1.1.2, this.1.1.2, this.1.2, this.2⟩
  · by_contra hne
    exact hi e f hne (by simp [hp]) (by simp [hp, hq, hid])

end Sys2Proof.Machine
end

