-- ==== Sys2Proof/Tests/Slice0.lean ====
section
/-! SUPPORT. The model's own tests: refusals of WellFormed, words written out from the tables of Appendix A, the worked
examples of the spec, one small step per command, and for every statement with hypotheses a concrete state and operands
that meet them, at the boundaries of its clauses. -/

namespace Sys2Proof.Tests

open Sys2Proof Sys2Proof.Machine

set_option maxRecDepth 20000
set_option Elab.async false

/-! ### Helpers -/

/-- The state that a command leaves; the same state if it ends in no next state. -/
def after (i : Instr) (s : State) : State :=
  match exec i s with
  | .next t => t
  | .fault _ => s
  | .refused _ => s

/-- The state after several commands, one after the other. -/
def afterAll (is : List Instr) (s : State) : State := is.foldl (fun t i => after i t) s

/-- The answer that a request leaves in the reply buffer of its link. -/
def answer (i : Instr) (s : State) : Reply :=
  ((codeOf i).elim (Reply.zeros .none) fun c => ((after i s).ports.get c.2.link).reply)

/-- The result code of that answer. -/
def code (i : Instr) (s : State) : ResultCode := (answer i s).code

/-- A request on the Cell link. -/
def cell (sel : Byte) (d0 d1 d2 : Word) : Request := { link := .cell, sel := sel, d0 := d0, d1 := d1, d2 := d2 }

/-- A request on the link of Arm A. -/
def armA (sel : Byte) (d0 d1 d2 : Word) : Request := { link := .armA, sel := sel, d0 := d0, d1 := d1, d2 := d2 }

/-- A request on the link of Arm B. -/
def armB (sel : Byte) (d0 d1 d2 : Word) : Request := { link := .armB, sel := sel, d0 := d0, d1 := d1, d2 := d2 }

/-- A word that carries a signed number. -/
def word (x : Int) : Word := BitVec.ofInt 32 x

/-! ### A populated cell -/

/-- A sensor in a state at a filtered temperature. -/
def sensor (role : Role) (state : SensorState) (tf : Int) : Sensor :=
  { role := role, c0 := 10000, k := 640, n := 2, state := state, lastCode := 0, lastClass := .good, tf := tf
    nonGoodRun := 0, goodRun := 0, ordinal := 100, history := [], leftValid := none }

/-- Scales at 0 to 2 and 7, workpiece at 3 and 4, air at 5, rack at 6, a WAITING spare at 8, the rest UNUSED. -/
def benchSensors : Vector Sensor 16 := Vector.ofFn fun i =>
  match i.val with
  | 0 => sensor .scale .valid 21000
  | 1 => { sensor .scale .suspect 21300 with nonGoodRun := 1, leftValid := some 40000 }
  | 2 => { sensor .scale .failed 20700 with history := [99, 100], goodRun := 2, leftValid := some 1000 }
  | 3 => sensor .workpiece .valid 20500
  | 4 => sensor .workpiece .valid 20200
  | 5 => sensor .air .valid 22000
  | 6 => sensor .rack .valid 21500
  | 7 => { sensor .scale .lockedOut 20000 with history := [90, 92, 94, 96, 98, 100] }
  | 8 => { sensor .workpiece .waiting 0 with nonGoodRun := 2 }
  | _ => Sensor.reset

/-- An image of six equal scales: the tag, αw, and 38 words for each scale. -/
def imageOf (tag alphaW : Word) (scale : Vector Word 38) : Image :=
  ⟨⟨tag :: alphaW :: (List.replicate 6 scale.toList).flatten⟩, by simp⟩

/-- Six equal scales on sensor 0 with the second sensor 7, node origin −1,000,000, pitch 500,000 and three nodes. -/
def benchImage : Image :=
  imageOf 77 12000 ⟨⟨[11500, 0x0700, word (-1000000), 500000, 3, 12, word (-8), 4] ++ List.replicate 30 0⟩, by simp⟩

/-- Zones 0 to 2 are consecutive BODY zones, 3 the RACK zone; Arm A holds 0 and 3, Arm B holds 2. -/
def benchZones : Vector Zone 16 := Vector.ofFn fun i =>
  match i.val with
  | 0 => ⟨true, -10000000, 0, .body, some .a, none⟩
  | 1 => ⟨true, 0, 10000000, .body, none, none⟩
  | 2 => ⟨true, 10000000, 20000000, .body, some .b, none⟩
  | 3 => ⟨true, 30000000, 40000000, .rack, some .a, none⟩
  | _ => Zone.reset

/-- Probe 301 at the head of Arm A, 302 in slot 2, 303 missing, 304 in the BLOCKED slot 5. -/
def benchEntries : Vector (Option Probe) 14 := Vector.ofFn fun e =>
  match e.val with
  | 0 => some ⟨301, 0, [⟨100, -200, 300⟩, ⟨-4000, 5000, 0⟩], .qualified, some 21000, 7, none, .head .a⟩
  | 1 => some ⟨302, 2, [⟨10, 20, 30⟩], .qualified, some 15000, 0, some .a, .slot 2⟩
  | 2 => some ⟨303, 4, [], .unqualified, none, 0, none, .missing⟩
  | 3 => some ⟨304, 5, [], .unqualified, none, 0, some .b, .slot 5⟩
  | _ => none

/-- A slot with its lock engaged and its level settled. -/
def slot (state : SlotState) (probe : Option (Fin 14)) (seated : Bool) : Slot :=
  { state := state, probe := probe, lock := true, raw := seated, settled := seated, settleTimer := none }

/-- Slot 2 STORED, 3 UNCLAIMED, 4 to 7 BLOCKED, the rest VACANT. -/
def benchSlots : Vector Slot 12 := Vector.ofFn fun i =>
  match i.val with
  | 2 => slot .stored (some 1) true
  | 3 => slot .unclaimed none true
  | 4 => slot .blocked none true
  | 5 => slot .blocked (some 3) true
  | 6 => slot .blocked none false
  | 7 => slot .blocked none true
  | _ => slot .vacant none false

/-- A source that is enabled and pending with its detail. -/
def waiting {δ : Type} (detail : δ) : Source δ := ⟨true, true, false, detail⟩

/-- A touch record of tip 1 of probe 301. -/
def touchRecord (sequence : Word) : TouchRecord :=
  { sequence := sequence, probeId := 301, tip := 1, centre := ⟨1, -2, 3⟩, worst := .held, time := 49000, due := false
    drift := true, blank := false, unsoaked := true, sat := false }

/-- A cell at work: Arm A is RUNNING and Arm B DISABLED, and every table holds something. -/
def bench : State :=
  { State.reset with
    cellTime := 50000
    ports := ⟨answeredPort (Reply.zeros .ok), answeredPort (Reply.zeros .ok), answeredPort (Reply.zeros .ok)⟩
    temp := { TempUnit.reset with
      sensors := benchSensors, seq := { Sequencer.reset with list := [9, 0, 3, 10], position := 1 } }
    model := { ModelStore.reset with active := some benchImage, staging := benchImage }
    lastPos := ⟨some { corrected := ⟨-5000000, 6, 7⟩, quality := ⟨.held, .full, .full⟩, sat := ⟨false, true, false⟩
                       worst := .held, tw := none, twQuality := .none, tag := none, time := 49990 }, none⟩
    zones := { table := benchZones, claims := ⟨none, none⟩
               guards := ⟨some ⟨-8000000, -2000000, false, true, 1, false⟩, none⟩ }
    sup := ⟨{ Supervisor.reset true with
              state := .running, command := true, reportTimer := some ⟨49990, 50⟩
              recorded := { PerCause.none with overdue := false, link := true } },
            Supervisor.reset false⟩
    registry := { Registry.reset with entries := benchEntries }
    rack := { slots := benchSlots, changes := ⟨ChangeContext.reset, ChangeContext.reset⟩, changeTimeout := 30 }
    touch := { TouchUnit.reset with queues := ⟨⟨[touchRecord 4, touchRecord 5], 5, none⟩, ⟨[], 0, none⟩⟩ }
    attn :=
      { cell := ⟨true, ⟨true, false, false, 0⟩, waiting 0b10000#12, waiting (some .nodes), ⟨true, false, false, 0⟩,
                 ⟨true, false, true, 0⟩, waiting 1⟩
        arms := ⟨⟨true, ⟨true, false, false, none⟩, waiting (some (.idle, .closed)), ⟨true, false, false, none⟩,
                  ⟨true, false, true, none⟩⟩,
                 ⟨false, ⟨true, false, false, none⟩, ⟨true, false, false, none⟩, waiting (some ⟨1, 2⟩),
                  ⟨true, false, false, none⟩⟩⟩ } }

/-- A request of the Cell link meets the hypothesis of the Cell link's statements. -/
theorem witness_onCell (sel : Byte) (d0 d1 d2 : Word) : onCell (cell sel d0 d1 d2) bench := ⟨rfl, by decide⟩

/-- Requests of the arm links meet the hypothesis of the arm links' statements. -/
theorem witness_onArm (sel : Byte) (d0 d1 d2 : Word) :
    onArm .a (armA sel d0 d1 d2) bench ∧ onArm .b (armB sel d0 d1 d2) bench := ⟨⟨rfl, by decide⟩, rfl, by decide⟩

/-! ### The invariants of Safety hold of the cell at work -/

theorem witness_supervisorsSound : SupervisorsSound bench := supervisorsSound_of_check (by decide)

theorem witness_sensorsSound : SensorsSound bench := sensorsSound_of_check (by decide) (by decide)

theorem witness_sequencerSound : SequencerSound bench.temp.seq := sequencerSound_of_check (by decide)

theorem witness_modelSound : ModelSound bench := modelSound_of_check (by decide +kernel)

theorem witness_zonesSound : ZonesSound bench :=
  ⟨tableSound_of_check (by decide +kernel) (by decide +kernel) (by decide +kernel) (by decide +kernel),
   claimsSound_of_check (by decide) (by decide) (by decide)⟩

theorem witness_rackSound : RackSound bench :=
  rackSound_of_check (by decide +kernel) (by decide +kernel) (by decide +kernel) (by decide)

theorem witness_changesSound : ChangesSound bench :=
  ⟨changeSound_of_check (by decide) (by decide) (by decide) (by decide),
   changeSound_of_check (by decide) (by decide) (by decide) (by decide)⟩

theorem witness_registrySound : RegistrySound bench := registrySound_of_check (by decide) (by decide +kernel) (by decide)

theorem witness_portsSound : PortsSound bench := portsSound_of_check (by decide)

theorem witness_queuesSound : QueuesSound bench := by
  unfold QueuesSound QueueSound; decide

theorem witness_attentionSound : AttentionSound bench := by
  refine ⟨⟨?_, ?_, ?_, ?_, ?_, ?_⟩, ⟨?_, ?_, ?_, ?_⟩, ?_, ?_, ?_, ?_⟩ <;> exact ⟨by decide, by decide⟩

/-! ### Well-formed commands and words of the opcode table -/

/-- 0x01 is NOP and 0x65 ALARM_SET (Table A.3), so no UNKNOWN_REQUEST has these codes; 0x00, 0x11 and 0x66 name none. -/
theorem test_wellFormed :
    WellFormed (.unknownRequest 0x01 (cell 0 0 0 0)) = false ∧ WellFormed (.unknownRequest 0x65 (armA 0 0 0 0)) = false ∧
    WellFormed (.unknownRequest 0x00 (cell 0 0 0 0)) = true ∧ WellFormed (.unknownRequest 0x11 (cell 0 0 0 0)) = true ∧
    WellFormed (.unknownRequest 0x66 (armB 0 0 0 0)) = true ∧ WellFormed (.nop (cell 0 0 0 0)) = true := by decide

/-- spec/opcode_table.json gives no row any bits. -/
theorem test_no_table_word (nbits w : Nat) :
    decodeTableWord nbits w = none ∧ bench.withFetchWord nbits w = bench := ⟨rfl, rfl⟩

/-- The frame of CLAIM zone 1, count 2, written out by Tables A.1 and A.3; one clock too few or too many discards it. -/
theorem test_frame :
    let bits := (frameBytes 0x22 (armB 1 2 0 0)).flatMap bitsOfByte
    (frameBytes 0x22 (armB 1 2 0 0)).take 15 = [0x22, 1, 2, 0, 0, 0, 0, 0, 0, 0, 0, 0, 0, 0, 0] ∧
    decodeFrame .armB bits = .claim (armB 1 2 0 0) ∧ decodeFrame .armB bits.dropLast = .frameDiscard .armB ∧
    decodeFrame .armB (bits ++ [false]) = .frameDiscard .armB := by decide +kernel

/-! ### Worked examples of the spec -/

/-- Section 1.5: c0 10,000 and k 640. -/
theorem test_classify :
    classify 10000 640 19400 = (.good, 23500) ∧ (classify 10000 640 42000).1 = .range ∧
    (classify 10000 640 65210).1 = .openLead ∧ (classify 10000 640 500).1 = .short := by decide

/-- Section 1.6.1: Tf 23,420 with n = 3. -/
theorem test_filter :
    filterStep { sensor .air .valid 23420 with n := 3 } 23500 = 23430 ∧
    filterStep { sensor .air .valid 23430 with n := 3 } 23386 = 23424 ∧
    filterStep { sensor .air .valid 23430 with n := 0 } 23386 = 23386 := by decide

/-- A temperature unit with four WORKPIECE sensors, of which the last is SUSPECT. -/
def workpieces (a b c d : SensorState) (ta tb tc : Int) : State :=
  { bench with temp := { bench.temp with sensors := Vector.ofFn fun i =>
      match i.val with
      | 0 => sensor .scale .valid 23500
      | 1 => sensor .workpiece a ta
      | 2 => sensor .workpiece b tb
      | 3 => sensor .workpiece c tc
      | 4 => sensor .workpiece d 25200
      | _ => Sensor.reset } }

/-- Section 1.7. -/
theorem test_group_values :
    (let s := workpieces .valid .valid .valid .suspect 26100 26250 26400
     workpieceMean s = some 26250 ∧ workpieceSpread s = some 300 ∧ workpieceCount s = 3) ∧
    (let s := workpieces .valid .failed .valid .suspect 26100 26250 26400
     workpieceMean s = some 26250 ∧ workpieceSpread s = some 300) ∧
    workpieceMean (workpieces .valid .failed .valid .suspect 26101 26250 26400) = some 26251 := by decide +kernel

/-- An image whose every scale has αs, x0 = 0, d = 2,500,000, N = 33, node 0 = −3, 18 = 12, 19 = −8 and 32 = 40. -/
def exampleImage (alphaS alphaW : Word) : Image :=
  imageOf 5 alphaW ⟨⟨[alphaS, 0xFF00, 0, 2500000, 33, word (-3)] ++ List.replicate 17 0 ++ [12, word (-8)] ++
    List.replicate 12 0 ++ [40]⟩, by simp⟩

/-- The cell of section 3.5.6. -/
def example356 : State :=
  { workpieces .valid .valid .valid .suspect 26100 26250 26400 with
    model := { bench.model with active := some (exampleImage 11500 12000) } }

/-- Sections 3.5.6 and 3.5.7: the worked case of scale A.X, rounding, and both saturations. -/
theorem test_compensation_examples :
    correctAxis example356 (workpieceTemperature example356) 0 45600000 = ⟨45598422, .full, false⟩ ∧
    thermalTerm 1000 0 (-500000) (some 25000) (some 20000) = -3 ∧
    thermalTerm 1000 0 500000 (some 25000) (some 20000) = 3 ∧
    geometricTerm (exampleImage 11500 12000) 0 (-500000) = -3 ∧
    thermalTerm 30000 0 1999990000 (some 60000) (some 20000) = 2399988 ∧
    (let s := { bench with model := { bench.model with active := some (exampleImage 30000 0) }
                           temp := { bench.temp with sensors := vput bench.temp.sensors 0 (sensor .scale .valid 60000) } }
     correctAxis s (workpieceTemperature s) 0 1999990000 = ⟨2000000000, .full, true⟩) := by decide +kernel

/-- Section 2.1: node 7 of scale B.Y is word 166 and the node count of B.Z is word 196. -/
theorem test_image_words :
    let im : Image := Vector.ofFn fun i => BitVec.ofNat 32 i.val
    nodeAt im 4 7 = 166 ∧ (imageWord im 196).toNat = nodeCount im 5 := by decide +kernel

/-- Section 1.3: the list of 12, extended to 17, cut back to four, and a selector beyond the list refused. -/
theorem test_sequence_list :
    let empty := bench.setSeq Sequencer.reset
    let twelve := after (.seqListSet (cell 0 0x07060504 0x03020100 0x0B0A0908)) empty
    let more := after (.seqListSet (cell 12 0x0F0E0D0C 0x0000FF04 0)) twelve
    twelve.temp.seq.list = [4, 5, 6, 7, 0, 1, 2, 3, 8, 9, 10, 11] ∧
    more.temp.seq.list = [4, 5, 6, 7, 0, 1, 2, 3, 8, 9, 10, 11, 12, 13, 14, 15, 4] ∧
    (after (.seqListSet (cell 4 0xFF 0 0)) more).temp.seq.list = [4, 5, 6, 7] ∧
    code (.seqListSet (cell 18 0xFF 0 0)) more = .outOfRange := by decide +kernel

/-- The tips of section 4.5.1, with their z offsets of section 6.13. -/
def exampleTips : List (Axes Int) := [⟨1200000, 2500000, -300000⟩, ⟨-1800000, -400000, -300000⟩, ⟨0, 0, -900000⟩]

/-- The zone table of Table 4.4. -/
def exampleZones : Vector Zone 16 := Vector.ofFn fun i =>
  if i.val < 6 then ⟨true, 10000000 * i.val, 10000000 * i.val + 10000000, .body, none, none⟩
  else if i.val = 6 then ⟨true, 64000000, 70000000, .rack, none, none⟩
  else Zone.reset

/-- The cell of section 4.5.1 while ACTIVE is EMPTY: Arm A with the three tips, free-reach limit 10,000,000. -/
def example451 : State :=
  { bench with
    model := ModelStore.reset
    zones := { table := exampleZones, claims := ⟨none, none⟩, guards := ⟨none, none⟩ }
    sup := ⟨{ Supervisor.reset false with settings := { ArmSettings.reset with freeReach := 10000000 } },
            { Supervisor.reset false with settings := { ArmSettings.reset with freeReach := 90000000 } }⟩
    registry := { Registry.reset with
      entries := vput benchEntries 0 (some ⟨301, 0, exampleTips, .qualified, some 21300, 1999, none, .head .a⟩) } }

/-- Section 4.5.1: with every quality NONE the margin is 500,000, the envelope 40,298,422 to 50,898,422 and the needed
set {4, 5}; at Y 7,000,000 the reach equals the limit and nothing is needed. Arm B at 62,500,000, with the margin too,
needs the RACK zone alone. -/
theorem test_needed_sets :
    (after (.position (armA 0 45598422 9200000 0)) example451).zones.guards.a =
      some ⟨40298422, 50898422, true, true, 0b110000, true⟩ ∧
    ((after (.position (armA 0 45598422 7000000 0)) example451).zones.guards.a.map fun g => (g.intruding, g.needed)) =
      some (false, 0) ∧
    ((after (.position (armB 0 62500000 0 0)) example451).zones.guards.b.map fun g => g.needed) = some 0b1000000 := by
  decide +kernel

/-- Section 8.2.1 and 6.13: the tip centre of tip 0 at a saturated X, and the touch that reaches the use limit of 2,000:
its record carries no DUE flag, and the probe becomes DUE. -/
theorem test_touch_example :
    let s := { example451 with sup := example451.sup.set .a { bench.sup.a with present := PerCause.none } }
    let t := after (.touch (armA 0 45598422 9199800 (word (-12000500)))) s
    answer (.touch (armA 0 45598422 9199800 (word (-12000500)))) s =
      ⟨.ok, 46798422, 11699800, word (-12300500)⟩ ∧
    (t.touch.queues.a.records.getLast?.map fun r => (r.sequence, r.due, r.sat)) = some (6, false, false) ∧
    ((entryAt t 0).map fun p => (p.useCount, p.qual)) = some (2000, .due) ∧
    (answer (.touch (armA 0 1999500000 0 0)) s).d0 = 2000000000 := by decide +kernel

/-- Section 6.13: the registration of probe 301 and its checks; its qualification at a rack temperature of 21,500. -/
theorem test_registry_examples :
    code (.probeRegister (cell 3 301 0 0)) bench = .inUse ∧ code (.probeRegister (cell 2 305 0 0)) bench = .state ∧
    (entryAt (after (.probeRegister (cell 3 305 0 0)) bench) 4 =
      some ⟨305, 3, [], .unqualified, none, 0, none, .slot 3⟩) ∧
    code (.probeTipWrite (cell 1 (303 % 128 * 2 ^ 25) (303 / 128 * 2 ^ 25) 0)) bench = .badSelector ∧
    code (.probeQualify (cell 0 303 0 0)) bench = .notReady ∧
    ((entryAt (after (.probeQualify (cell 0 301 0 0)) bench) 0).map fun p => (p.qual, p.tcal, p.useCount)) =
      some (.qualified, some 21500, 0) := by decide +kernel

/-! ### Witnesses for the queue, the reset input and the frames -/

/-- The result codes of several requests, each in the same state. -/
def codes (s : State) (is : List Instr) : List ResultCode := is.map fun i => code i s

/-- A cell in which something of every kind is due: a conversion, the round timer, a left-valid time, a model check, the
four timers of Arm A and a settle timer. -/
def allDue : State :=
  { bench with
    cellTime := 640000
    temp := { bench.temp with seq := { bench.temp.seq with
      state := .running, inRound := true, inFlight := some ⟨0, .list, 639996⟩, period := 100
      roundTimer := some ⟨639900, 100⟩ } }
    model := { bench.model with check := some ⟨0, 639998⟩ }
    sup := bench.sup.set .a { bench.sup.a with reportTimer := some ⟨639950, 50⟩, window := some ⟨639998, 2⟩ }
    rack := { bench.rack with
      slots := vput bench.rack.slots 3 { slotAt bench 3 with raw := false, settleTimer := some ⟨639980, 20⟩ }
      changes := bench.rack.changes.set .a { ChangeContext.reset with phase := .finish, timer := some ⟨610000, 30000⟩ } }
    touch := { bench.touch with queues := bench.touch.queues.set .a { records := [], counter := 5, blankTimer := some ⟨639750, 250⟩ } } }

theorem witness_StepRunsTheFrontCommand :
    ({ bench with pending := [.nop (cell 0 0 0 0), .roundTimerExpiry] } : State).pending =
      .nop (cell 0 0 0 0) :: [.roundTimerExpiry] := rfl

/-- Nothing is due at cell time 19 after reset and the twelve settle timers at 20; of `allDue` ten events are due, and
none one millisecond earlier. -/
theorem witness_TimePassesAndEventsFallDue :
    dueEvents { State.reset with cellTime := 19 } = [] ∧ (dueEvents { State.reset with cellTime := 20 }).length = 12 ∧
    (dueEvents allDue).length = 10 ∧ dueEvents { allDue with cellTime := 639999 } = [.leftValidTimeExpiry 2] := by
  decide +kernel

/-- The part held in reset. -/
def inReset : State := after .resetInputAsserted bench

/-- A reset of the cell at work is taken; leaving it finds the permit sense of Arm A on and no window running. -/
theorem witness_ResetInput :
    bench.resetHeld = false ∧ inReset.resetHeld = true ∧ (∀ arm : Arm, (inReset.sup.get arm).window = none) ∧
    inReset.sup.a.sense = true ∧ inReset.sup.a.command = false ∧ inReset.sup.a.present.permitMismatch = false ∧
    (after .resetInputDeasserted inReset).sup.a.recorded.permitMismatch = true ∧
    (after .resetInputDeasserted inReset).sup.b.recorded.permitMismatch = false :=
  ⟨rfl, by decide, all_arms (by decide) (by decide), by decide, by decide, by decide, by decide, by decide⟩

theorem witness_FramesDecodeBack :
    WellFormed (.claim (armB 1 2 0 0)) = true ∧ (encodeFrame (.claim (armB 1 2 0 0))).isSome = true ∧
    WellFormed (.unknownRequest 0xFF (cell 255 1 2 3)) = true ∧
    (encodeFrame (.unknownRequest 0xFF (cell 255 1 2 3))).isSome = true := by decide

/-- A port before a frame, in a frame and in a frame passed over. -/
theorem witness_FrameBegin :
    (bench.ports.get .cell).phase = .idle ∧ bench.resetHeld = false ∧
    (inReset.ports.get .cell).phase = .idle ∧ inReset.resetHeld = true ∧
    ((after (.frameBegin .cell) bench).ports.get .cell).phase ≠ .idle ∧
    ((after (.frameBegin .armB) inReset).ports.get .armB).phase = .passedOver := by decide

/-- Byte 14 of a reply is the highest eligible source: RACK is code 2, and CHANGE pending above COMP in service code 2;
with MODEL in service nothing below rank 2 is eligible. -/
theorem test_reply_bytes :
    (formReply bench .cell).toList.take 2 = [0x55#8, 0#8] ∧ (formReply bench .cell).toList.getD 14 0 = 2 ∧
    (formReply bench .armA).toList.getD 14 0 = 2 ∧ attentionLine bench .armB = false ∧
    eligibleCode bench .armB = some 3 := by decide

/-- A cell whose run counts stand at 2 and at 255. -/
def discards : State :=
  { bench with ports := ⟨{ bench.ports.armA with runCount := 2 }, { bench.ports.armB with runCount := 1 },
                         { bench.ports.cell with runCount := 255 }⟩ }

/-- The third discarded frame in a run makes LINK present, the second does not, and the run count stays at 255. -/
theorem witness_DiscardedAndPassedOverFrames :
    takesFrame .armA discards = true ∧ takesFrame .cell discards = true ∧ PortsSound discards ∧
    (after (.frameDiscard .armA) discards).sup.a.present.link = true ∧
    (after (.frameDiscard .armB) discards).sup.b.present.link = false ∧
    ((after (.frameDiscard .cell) discards).ports.get .cell).runCount = 255 ∧
    takesFrame .cell inReset = false ∧ takesFrame .cell
      { bench with ports := bench.ports.set .cell { bench.ports.cell with phase := .passedOver } } = false :=
  ⟨rfl, rfl, portsSound_of_check (by decide), by decide, by decide, by decide, by decide, by decide⟩

/-- Arm A HELD by its LINK cause in mode AUTO, with report-any on. -/
def heldByLink : State :=
  { bench with sup := bench.sup.set .a { bench.sup.a with
      state := .held, command := false, present := { PerCause.none with link := true }
      recorded := { PerCause.none with link := true }
      settings := { ArmSettings.reset with reportAny := true, modes := { ArmSettings.reset.modes with link := .auto } } } }

theorem witness_AcceptedFrames :
    SupervisorsSound bench ∧ SupervisorsSound heldByLink ∧ takesFrame .armA heldByLink = true ∧ PortsSound heldByLink ∧
    (frameEnded .armA heldByLink).sup.a.state = .running ∧
    (frameEnded .armA heldByLink).sup.a.reportTimer = some ⟨50000, 50⟩ ∧
    (answer (.readTime (cell 0 0 0 0)) discards = ⟨.ok, 50000, 0x00000102, 0⟩) :=
  ⟨witness_supervisorsSound, supervisorsSound_of_check (by decide), rfl, portsSound_of_check (by decide), by decide,
   by decide, by decide⟩

theorem witness_RequestsOnWrongLinks :
    takesFrame .cell bench = true ∧ takesFrame .armB bench = true ∧
    codes bench [.position (cell 0 0 0 0), .alarmSet (armB 0 0 0 0), .touchHead (armA 0 2 0 0)] =
      [.notPermitted, .notPermitted, .notPermitted] := by decide

/-! ### Witnesses for the temperature unit -/

/-- The cell with another sequencer. -/
def sequencing (q : Sequencer) : State := bench.setSeq q

/-- The sequencer in a round, converting entry 1. -/
def inRound : Sequencer :=
  { bench.temp.seq with
    state := .running, period := 100, roundTimer := some ⟨49990, 100⟩, inFlight := some ⟨0, .list, 49996⟩, inRound := true }

/-- The sequencer between two rounds, its round timer run out. -/
def betweenRounds : Sequencer :=
  { inRound with inFlight := none, inRound := false, position := 0, roundTimer := some ⟨49900, 100⟩ }

/-- The sequencer on its way to STOPPED. -/
def stopping : Sequencer := { inRound with state := .stopping, roundTimer := none }

/-- The sequencer in a single conversion. -/
def single (i : Fin 16) : Sequencer :=
  { bench.temp.seq with state := .single, inFlight := some ⟨i, .single, 49996⟩ }

theorem witness_SensorSet :
    let good (sel : Byte) (role : Word) : Instr := .sensorSet (cell sel (role + 0x0700) 65535 65535)
    codes bench [good 16 1, good 15 1, good 15 5, good 8 4, good 6 4, good 0 2, good 7 0, good 0 1, good 2 0,
        .sensorSet (cell 9 0x0801 0 1), .sensorSet (cell 9 1 65536 1), .sensorSet (cell 9 1 0 0),
        .sensorSet (cell 9 1 0 65536), .sensorSet (cell 9 1 0 1)] =
      [.badSelector, .ok, .outOfRange, .outOfRange, .ok, .inUse, .inUse, .ok, .ok,
        .outOfRange, .outOfRange, .outOfRange, .outOfRange, .ok] ∧
    code (good 15 1) (sequencing inRound) = .busy ∧
    (after (good 2 0) bench).attn.cell.sensor = waiting 0b100#16 := by decide +kernel

theorem witness_ListUnlockAndSettings :
    let full := sequencing { bench.temp.seq with list := List.replicate 24 0 }
    codes full [.seqListSet (cell 24 255 0 0), .seqListSet (cell 24 0xFF00 0 0), .seqListSet (cell 23 0xFF0F 0 0),
        .seqListSet (cell 0 0xFF10 0 0), .seqListSet (cell 25 255 0 0), .seqListSet (cell 0 255 0 0)] =
      [.ok, .outOfRange, .ok, .outOfRange, .outOfRange, .outOfRange] ∧
    code (.seqListSet (cell 0 0 0 0)) (sequencing (single 5)) = .busy ∧
    codes bench [.sensorUnlock (cell 16 0 0 0), .sensorUnlock (cell 15 0 0 0), .sensorUnlock (cell 7 0 0 0)] =
      [.badSelector, .state, .ok] ∧
    (vget (after (.sensorUnlock (cell 7 0 0 0)) bench).temp.sensors 7).state = .waiting ∧
    codes bench [.tempSet (cell 0 600 10000 8), .tempSet (cell 0 0 0 1), .tempSet (cell 0 601 0 1),
        .tempSet (cell 0 0 10001 1), .tempSet (cell 0 0 0 0), .tempSet (cell 0 0 0 9)] =
      [.ok, .ok, .outOfRange, .outOfRange, .outOfRange, .outOfRange] := by decide +kernel

theorem witness_SequencerRequests :
    codes bench [.seqStart (cell 0 0 0 0), .seqStart (cell 0 100 0 0), .seqStart (cell 0 10000 0 0),
        .seqStart (cell 0 99 0 0), .seqStart (cell 0 10001 0 0)] = [.ok, .ok, .ok, .outOfRange, .outOfRange] ∧
    ((after (.seqStart (cell 0 100 0 0)) bench).temp.seq.position,
      (after (.seqStart (cell 0 100 0 0)) bench).temp.seq.inFlight) = (1, some ⟨0, .list, 50000⟩) ∧
    code (.seqStart (cell 0 0 0 0)) (sequencing { bench.temp.seq with list := [9] }) = .notReady ∧
    [inRound, stopping, single 5].map (fun q => code (.seqStart (cell 0 0 0 0)) (sequencing q)) =
      [.state, .busy, .busy] ∧
    [inRound, betweenRounds, stopping, single 5].map (fun q => (after (.seqStop (cell 0 0 0 0)) (sequencing q)).temp.seq.state) =
      [.stopping, .stopped, .stopping, .single] ∧
    codes bench [.convertOne (cell 16 0 0 0), .convertOne (cell 15 0 0 0), .convertOne (cell 7 0 0 0)] =
      [.badSelector, .state, .ok] ∧
    [inRound, { inRound with pendingSingle := some 5 }, betweenRounds, stopping, single 5].map
        (fun q => ((answer (.convertOne (cell 8 0 0 0)) (sequencing q)).code, (answer (.convertOne (cell 8 0 0 0)) (sequencing q)).d0)) =
      [(.ok, 1), (.busy, 0), (.ok, 0), (.busy, 0), (.busy, 0)] := by decide +kernel

/-- A completion is due 4 ms after its start, in every state of the sensor but OFF. -/
theorem witness_CompletionClassifies :
    let s (i : Fin 16) := sequencing (single i)
    let judged (code : Half) (i : Fin 16) := (vget (after (.conversionCompletion code) (s i)).temp.sensors i).state
    (s 8).temp.seq.inFlight = some ⟨8, .single, 49996⟩ ∧ (s 8).resetHeld = false ∧
    4 ≤ ((s 8).cellTime - 49996).toNat ∧ (vget (s 8).temp.sensors 8).state ≠ .off ∧
    [8, 0, 1, 2, 7].map (judged 10000) = [.valid, .valid, .valid, .valid, .lockedOut] ∧
    [8, 0, 1, 2, 7].map (judged 65000) = [.failed, .suspect, .suspect, .failed, .lockedOut] ∧
    (vget (after (.conversionCompletion 500) (s 0)).temp.sensors 0).leftValid = some 50000 := by decide +kernel

/-- The sixth failure within 64 conversions locks the sensor out; one 64 conversions old has left the history. -/
theorem test_lockout :
    let x (oldest : Word) := { sensor .workpiece .waiting 0 with nonGoodRun := 2, history := [oldest, 96, 97, 98, 99] }
    (completeSample 3 0 65000 (x 38)).state = .lockedOut ∧ (completeSample 3 0 65000 (x 37)).state = .failed := by decide

theorem witness_CompletionAndTimers :
    let seqAfter (i : Instr) (q : Sequencer) := (after i (sequencing q)).temp.seq
    let last := { inRound with position := 2 }
    SequencerSound inRound ∧ SequencerSound { inRound with pendingSingle := some 5 } ∧ SequencerSound stopping ∧
    SequencerSound (single 5) ∧ SequencerSound { last with period := 0, roundTimer := none } ∧
    (let q := seqAfter (.conversionCompletion 0) inRound; (q.position, q.inFlight)) = (2, some ⟨3, .list, 50000⟩) ∧
    seqAfter (.conversionCompletion 0) last = { last with position := 0, inRound := false, inFlight := none } ∧
    (seqAfter (.conversionCompletion 0) { last with expired := true }).position = 1 ∧
    (seqAfter (.conversionCompletion 0) { last with period := 0, roundTimer := none }).inFlight = some ⟨0, .list, 50000⟩ ∧
    (seqAfter (.conversionCompletion 0) { last with pendingSingle := some 5 }).inFlight = some ⟨5, .single, 50000⟩ ∧
    (seqAfter (.conversionCompletion 0) stopping).state = .stopped ∧
    (seqAfter (.conversionCompletion 0) (single 5)).state = .stopped ∧
    (let q := seqAfter .roundTimerExpiry betweenRounds; (q.position, q.inFlight)) = (1, some ⟨0, .list, 50000⟩) ∧
    (seqAfter .roundTimerExpiry { inRound with roundTimer := some ⟨49900, 100⟩ }).expired = true ∧
    (seqAfter .roundTimerExpiry inRound) = inRound ∧
    (vget (after (.leftValidTimeExpiry 1) { bench with cellTime := 640000 }).temp.sensors 1).leftValid = none ∧
    (vget (after (.leftValidTimeExpiry 1) { bench with cellTime := 639999 }).temp.sensors 1).leftValid = some 40000 := by
  intro seqAfter last
  exact ⟨sequencerSound_of_check (by decide), sequencerSound_of_check (by decide), sequencerSound_of_check (by decide),
    sequencerSound_of_check (by decide), sequencerSound_of_check (by decide), by decide, by decide, by decide, by decide,
    by decide, by decide, by decide, by decide, by decide, by decide, by decide, by decide⟩

/-- The RACK reading from its own sensor, and from the air mean when no RACK sensor is VALID. -/
theorem witness_GroupValues :
    rackReading bench = (some 21500, .sensor) ∧
    rackReading (bench.setSensor 6 (sensor .rack .suspect 21500)) = (some 22000, .air) ∧
    rackReading State.reset = (none, .none) ∧ workpieceSpread bench = some 300 ∧ workpieceCount State.reset = 0 := by
  decide

theorem witness_TemperatureAndModelReads :
    takesFrame .cell bench = true ∧ takesFrame .armB bench = true ∧ SensorsSound bench ∧ SequencerSound bench.temp.seq ∧
    codes bench [.readTemp (cell 15 2 0 0), .readTemp (cell 16 0 0 0), .readTemp (cell 15 3 0 0),
        .readGroups (cell 5 0 0 0), .readGroups (cell 6 0 0 0), .readModel (cell 3 0 0 0), .readModel (cell 2 229 0 0),
        .readModel (cell 2 230 0 0)] =
      [.ok, .badSelector, .badSelector, .ok, .badSelector, .badSelector, .ok, .outOfRange] ∧
    answer (.readTemp (armB 2 2 0 0)) bench = ⟨.ok, 0x00000102, 0, 0⟩ ∧
    answer (.readGroups (armB 4 0 0 0)) bench = ⟨.ok, 0x0A030009, 0xFFFFFFFF, 0xFFFFFFFF⟩ ∧
    answer (.readModel (armB 2 4 0 0)) bench = ⟨.ok, word (-1000000), word (-1000000), 0⟩ :=
  ⟨rfl, rfl, witness_sensorsSound, witness_sequencerSound, by decide +kernel, by decide, by decide, by decide +kernel⟩

/-! ### Witnesses for the model store and the compensation -/

/-- The cell with a model check in flight, 2 ms old. -/
def checking (im : Image) (expected : Word) : State :=
  { bench with model := { bench.model with staging := im, check := some ⟨expected, 49998⟩ } }

theorem witness_StagingIsWritten :
    let load (first : Byte) (w : Int) : Instr := .modelLoad (cell first 1 (word w) 0)
    codes bench [load 229 0, load 230 0, load 1 30000, load 1 30001, load 3 0xFF0F, load 3 0x0010, load 3 0x1000,
        load 4 (-2000000000), load 4 (-2000000001), load 5 100000000, load 5 0, load 6 33, load 6 34, load 6 1,
        load 7 (-32767), load 7 32768, .modelLoad (cell 228 2 0 0), .modelLoad (cell 229 2 0 0),
        .modelLoad (cell 0 0 0 0), .modelLoad (cell 0 3 0 0), .modelLoad (cell 5 2 1 34)] =
      [.ok, .badSelector, .ok, .outOfRange, .ok, .outOfRange, .outOfRange,
        .ok, .outOfRange, .ok, .outOfRange, .ok, .outOfRange, .outOfRange,
        .ok, .outOfRange, .ok, .badSelector, .outOfRange, .outOfRange, .outOfRange] ∧
    codes (checking benchImage 0) [load 229 0, .modelRevert (cell 0 0 0 0), .modelCheck (cell 0 0 0 0)] =
      [.busy, .busy, .busy] ∧
    codes bench [.modelRevert (cell 0 0 0 0), .modelCheck (cell 0 7 0 0)] = [.ok, .ok] ∧
    (after (.modelCheck (cell 0 7 0 0)) bench).model.check = some ⟨7, 50000⟩ := by decide +kernel

/-- One image for each of the five results, at the scale that fails first. -/
theorem witness_ModelCheck :
    let at_ (i : Fin 230) (w : Int) : Image := vput benchImage i (word w)
    let done (im : Image) (expected : Word) :=
      let m := (after .modelCheckCompletion (checking im expected)).model
      (m.last.result, m.last.failingScale, m.commitCount)
    bench.resetHeld = false ∧ 2 ≤ (bench.cellTime - 49998).toNat ∧
    done benchImage (crc32 (imageBytes benchImage)) = (.passed, none, 1) ∧
    done benchImage (crc32 (imageBytes benchImage) + 1) = (.crc, none, 0) ∧
    done (at_ 48 1) 0 = (.nodes, some 1, 0) ∧ done (at_ 4 1999000001) 0 = (.span, some 0, 0) ∧
    done (at_ 193 0x0003) 0 = (.assign, some 5, 0) := by decide +kernel

/-- Every step of the chains of Tables 3.2 and 3.3: FULL, HELD, the secondary sensor, the air mean, and none. -/
theorem witness_TemperatureChains :
    let im (first : Nat) : Image := vput benchImage 3 (BitVec.ofNat 32 first)
    let noAir := bench.setSensor 5 (sensor .air .waiting 0)
    let cold := noAir.setSensor 3 (sensor .workpiece .failed 0) |>.setSensor 4 (sensor .workpiece .waiting 0)
    (imageWord (im 0x0501) 3).toNat % 256 = (1 : Fin 16).val ∧
    scaleTemperature bench (im 0x0500) 0 = ⟨some 21000, .full⟩ ∧
    scaleTemperature bench (im 0x0501) 0 = ⟨some 21300, .held⟩ ∧
    scaleTemperature { bench with cellTime := 100000 } (im 0xFF01) 0 = ⟨some 22000, .substituted⟩ ∧
    scaleTemperature { bench with cellTime := 99999 } (im 0xFF01) 0 = ⟨some 21300, .held⟩ ∧
    scaleTemperature { bench with cellTime := 60999 } (im 0x0002) 0 = ⟨some 20700, .held⟩ ∧
    scaleTemperature { bench with cellTime := 61000 } (im 0x0002) 0 = ⟨some 21000, .substituted⟩ ∧
    scaleTemperature noAir (im 0x0807) 0 = ⟨none, .none⟩ ∧
    workpieceTemperature bench = ⟨some 20350, .full⟩ ∧
    workpieceTemperature { cold with temp := { cold.temp with sensors := vput cold.temp.sensors 5 (sensor .air .valid 22000) } } =
      ⟨some 22000, .substituted⟩ ∧
    workpieceTemperature cold = ⟨none, .none⟩ := by decide +kernel

/-- The ends of the mapped travel of the bench image, −1,000,000 and 0, and a point between two nodes. -/
theorem witness_AxesAreCorrected :
    (1 : Int) ≤ (imageWord benchImage 5).toNat ∧ 2 ≤ (imageWord benchImage 6).toNat ∧
    bench.model.active = some benchImage ∧ ({ bench with model := ModelStore.reset } : State).model.active = none ∧
    [-1000001, -1000000, -750000, -500000, -1, 0, 1].map (geometricTerm benchImage 0) = [12, 12, 2, -8, 4, 4, 4] :=
  ⟨by decide, by decide, rfl, rfl, by decide +kernel⟩

theorem witness_CorrectionsKeepTheirBounds :
    ModelSound bench ∧ SensorsSound bench ∧ bench.model.active = some benchImage :=
  ⟨witness_modelSound, witness_sensorsSound, rfl⟩

/-- A POSITION in RUNNING, with the reach out of its only held BODY zone: GUARD becomes present and the arm stops. -/
theorem test_position_violates :
    let t := after (.position (armA 0 5000000 0 0)) bench
    (t.sup.a.state, t.sup.a.command, t.sup.a.recorded.guard, t.sup.a.window) = (.stopped, false, true, some ⟨50000, 2⟩) ∧
    (t.attn.arms.a.permit.pending, t.attn.arms.a.permit.detail) = (true, some (false, .stopped)) := by decide +kernel

/-! ### Witnesses for zones and claims -/

/-- The cell with another holder and waiter of some zones and other pending claims. -/
def claimed (f : Nat → Zone → Zone) (a b : Option Claim) (s : State) : State :=
  { s with zones := { s.zones with table := Vector.ofFn fun z => f z.val (vget s.zones.table z), claims := ⟨a, b⟩ } }

/-- Arm B waits in STARTING for zones 0 and 1. -/
def claiming : State :=
  claimed (fun n z => if n < 2 then { z with waiter := some .b } else z) none (some ⟨0, 2⟩)
    { bench with sup := bench.sup.set .b { Supervisor.reset false with state := .starting } }

/-- The same with no guard record of Arm A, so that zone 0 may be released. -/
def clearOfZone0 : State := { claiming with zones := { claiming.zones with guards := ⟨none, none⟩ } }

/-- Arm A waits for zones 1 and 2, of which Arm B holds zone 2. -/
def waitingOnB : State :=
  claimed (fun n z => if n = 1 ∨ n = 2 then { z with waiter := some .a } else z) (some ⟨1, 2⟩) none bench

/-- Both arms DISABLED and no zone held. -/
def stilled : State :=
  claimed (fun _ z => { z with holder := none }) none none { bench with sup := bench.sup.set .a (Supervisor.reset true) }

theorem witness_ZonesSound_claiming : ZonesSound claiming ∧ ZonesSound clearOfZone0 ∧ ZonesSound waitingOnB :=
  ⟨⟨tableSound_of_check (by decide +kernel) (by decide +kernel) (by decide +kernel) (by decide +kernel),
     claimsSound_of_check (by decide) (by decide) (by decide)⟩,
   ⟨tableSound_of_check (by decide +kernel) (by decide +kernel) (by decide +kernel) (by decide +kernel),
     claimsSound_of_check (by decide) (by decide) (by decide)⟩,
   ⟨tableSound_of_check (by decide +kernel) (by decide +kernel) (by decide +kernel) (by decide +kernel),
     claimsSound_of_check (by decide) (by decide) (by decide)⟩⟩

theorem witness_ZoneDefine :
    let define (sel : Byte) (lower upper : Int) (action : Word) : Instr := .zoneDefine (cell sel (word lower) (word upper) action)
    codes stilled [define 16 1 2 1, define 15 20000000 30000000 1, define 15 19999999 30000000 1,
        define 15 (-2000000000) (-10000000) 1, define 15 (-2000000001) (-10000000) 1, define 15 40000000 2000000001 1,
        define 15 40000000 40000000 1, define 15 40000000 40000001 2, define 3 25000000 26000000 2, define 3 5 5 0,
        define 15 1 2 3] =
      [.badSelector, .ok, .outOfRange, .ok, .outOfRange, .outOfRange, .outOfRange, .outOfRange, .ok, .ok, .outOfRange] ∧
    code (define 15 20000000 30000000 1) bench = .state ∧
    code (define 15 20000000 30000000 1) { bench with sup := stilled.sup } = .inUse ∧
    onCell (cell 15 0 0 0) stilled ∧
    ((after (define 0 (-9000000) (-8500000) 1) stilled).zones.guards.a.map fun g => (g.needed, g.violated)) =
      some (0, false) ∧
    ((after (define 15 (-99000000) (-10000001) 1) stilled).zones.guards.a.map fun g => (g.needed, g.violated)) =
      some (1, true) :=
  ⟨by decide +kernel, by decide, by decide, ⟨rfl, by decide⟩, by decide +kernel, by decide +kernel⟩

theorem witness_ClaimsAreGranted :
    onArm .a (armA 1 1 0 0) claiming ∧ onArm .b (armB 0 2 0 0) claiming ∧
    codes bench [.claim (armB 0 1 0 0), .claim (armA 0 0 0 0), .claim (armA 0 4 0 0), .claim (armA 0 5 0 0),
        .claim (armA 0 17 0 0), .claim (armA 15 2 0 0), .claim (armA 16 1 0 0), .claim (armA 0 2 0 0)] =
      [.state, .badSelector, .pending, .badSelector, .badSelector, .badSelector, .badSelector, .granted] ∧
    codes claiming [.claim (armB 0 2 0 0), .claim (armA 1 1 0 0), .claim (armA 2 1 0 0), .claim (armA 3 1 0 0),
        .claim (armA 0 1 0 0)] = [.busy, .conflict, .conflict, .granted, .granted] ∧
    ((zoneAt claiming 0).holder, (zoneAt claiming 0).waiter) = (some .a, some .b) ∧
    answer (.claim (armA 0 2 0 0)) bench = ⟨.granted, 0b1011, 0b0100, 0⟩ ∧
    ((zoneAt (after (.claim (armA 1 2 0 0)) bench) 1).waiter, (zoneAt (after (.claim (armA 1 2 0 0)) bench) 2).waiter) =
      (some .a, some .a) ∧
    (zoneAt (after (.claimWithdraw (armB 0 0 0 0)) claiming) 0).waiter = none ∧
    answer (.claimWithdraw (armA 0 0 0 0)) bench = ⟨.ok, 0b1001, 0b0100, 0⟩ :=
  ⟨⟨rfl, rfl⟩, ⟨rfl, rfl⟩, by decide +kernel, by decide +kernel, by decide, by decide, by decide, by decide, by decide⟩

theorem witness_Release :
    codes bench [.release (armA 0 0 0 0), .release (armA 3 13 0 0), .release (armA 0 2 0 0), .release (armA 0 1 0 0),
        .release (armA 3 1 0 0), .release (armB 2 1 0 0)] =
      [.badSelector, .badSelector, .notHeld, .inUse, .ok, .ok] ∧
    code (.release (armA 3 1 0 0))
      { bench with rack := { bench.rack with
        changes := bench.rack.changes.set .a { ChangeContext.reset with phase := .finish } } } = .inUse ∧
    (let t := after (.release (armA 0 1 0 0)) clearOfZone0
     (t.zones.claims.b, (zoneAt t 0).holder, (zoneAt t 1).holder, t.attn.arms.b.claim.detail) =
       (none, some .b, some .b, some ⟨0, 2⟩)) ∧
    (after (.release (armA 3 1 0 0)) claiming).zones.claims.b = some ⟨0, 2⟩ ∧
    (let t := after (.release (armB 2 1 0 0)) waitingOnB
     (t.zones.claims.a, (zoneAt t 2).holder) = (none, some .a)) ∧
    (after (.release (armA 0 1 0 0)) { waitingOnB with zones := { waitingOnB.zones with guards := ⟨none, none⟩ } }).zones.claims.a =
      some ⟨1, 2⟩ := by decide +kernel

theorem witness_ZoneFree :
    codes bench [.zoneFree (cell 2 0 0 0), .zoneFree (cell 1 0 0 0), .zoneFree (cell 0 0 0 0)] =
      [.badSelector, .ok, .state] ∧
    code (.zoneFree (cell 1 0 0 0)) { bench with rack := { bench.rack with
      changes := bench.rack.changes.set .b { ChangeContext.reset with phase := .finish } } } = .inUse ∧
    onCell (cell 1 0 0 0) waitingOnB ∧ armIndex .b = (1 : Byte).toNat ∧ (waitingOnB.sup.get .b).state = .disabled ∧
    (answer (.zoneFree (cell 1 0 0 0)) waitingOnB).d0 = 0b0100 ∧
    (zoneAt (after (.zoneFree (cell 1 0 0 0)) waitingOnB) 2).holder = some .a :=
  ⟨by decide, by decide, ⟨rfl, rfl⟩, rfl, by decide, by decide, by decide⟩

theorem witness_ZoneAndArmReads :
    takesFrame .armB bench = true ∧
    codes bench [.readZone (armB 18 0 0 0), .readZone (armB 19 0 0 0), .readArm (armB 1 5 0 0), .readArm (armB 1 6 0 0),
        .readArm (armB 2 0 0 0)] = [.ok, .badSelector, .ok, .badSelector, .badSelector] ∧
    answer (.readZone (armB 2 0 0 0)) bench = ⟨.ok, 0x00020001, 10000000, 20000000⟩ ∧
    answer (.readZone (cell 16 0 0 0)) claiming = ⟨.ok, 0x0003000F, 0x00040009, 0x020000FF⟩ ∧
    answer (.readZone (cell 17 0 0 0)) bench = ⟨.ok, 0x02010001, word (-8000000), word (-2000000)⟩ ∧
    bench.zones.guards.get .b = none ∧ bench.lastPos.get .b = none ∧
    answer (.readZone (cell 18 0 0 0)) bench = ⟨.ok, 0, 0x80000000, 0x80000000⟩ ∧
    (after (.readArm (cell 1 3 0 0)) bench).freeIndex = 2 ∧
    answer (.readArm (cell 0 0 0 0)) bench = ⟨.ok, 0x00000B02, 0, 8⟩ ∧
    answer (.readArm (armB 0 1 0 0)) bench = ⟨.ok, 0x00002100, 3, 40⟩ ∧
    answer (.readArm (cell 0 5 0 0)) bench = ⟨.ok, 0x01000001, 0x00000302, 0x80000000⟩ ∧
    (answer (.readArm (cell 0 3 0 0)) bench).d0 = 0x010100FF := by decide +kernel

/-- A holder that changes by a grant, by a release and by a forced free. -/
theorem witness_HoldersChange :
    ZonesSound bench ∧ ZonesSound waitingOnB ∧
    (∃ t, exec (.claim (armA 1 1 0 0)) bench = .next t ∧ (zoneAt t 1).holder ≠ (zoneAt bench 1).holder) ∧
    (∃ t, exec (.release (armA 3 1 0 0)) bench = .next t ∧ (zoneAt t 3).holder ≠ (zoneAt bench 3).holder) ∧
    (∃ t, exec (.zoneFree (cell 1 0 0 0)) waitingOnB = .next t ∧ (zoneAt t 1).holder ≠ (zoneAt waitingOnB 1).holder) :=
  ⟨witness_zonesSound, witness_ZonesSound_claiming.2.2, ⟨_, rfl, by decide⟩, ⟨_, rfl, by decide⟩, ⟨_, rfl, by decide⟩⟩

/-! ### Witnesses for the supervisors -/

/-- The cell with another supervisor of Arm A. -/
def supervised (v : Supervisor) : State := { bench with sup := bench.sup.set .a v }

/-- Arm A STARTING, with no cause. -/
def starting : Supervisor :=
  { bench.sup.a with state := .starting, command := false, recorded := PerCause.none }

/-- Arm A STOPPED by GUARD, which is present or has ended. -/
def stoppedByGuard (present : Bool) : Supervisor :=
  { starting with
    state := .stopped, present := { PerCause.none with guard := present }
    recorded := { PerCause.none with guard := true } }

/-- Each state of Table 5.6 is left by the events that leave it: STARTING by a good POSITION, RUNNING by OVERDUE and
(with ACTIVE EMPTY) by COMP_LOST in mode AUTO, HELD by a POSITION that ends COMP_LOST. -/
theorem witness_SupervisionFollows :
    let position : Instr := .position (armA 0 (word (-5000000)) 0 0)
    let heldByComp := { starting with
      state := .held, present := { PerCause.none with compLost := true }
      recorded := { PerCause.none with compLost := true } }
    SupervisorsSound (supervised starting) ∧ SupervisorsSound (supervised (stoppedByGuard true)) ∧
    SupervisorsSound (supervised heldByComp) ∧
    (∃ t, exec position (supervised starting) = .next t ∧ t.sup.a.state = .running) ∧
    (after (.nop (armA 0 0 0 0)) (supervised starting)).sup.a.state = .starting ∧
    (after (.reportTimerExpiry .a) { bench with cellTime := 50040 }).sup.a.state = .stopped ∧
    (after position { bench with model := ModelStore.reset }).sup.a.state = .held ∧
    (after position (supervised heldByComp)).sup.a.state = .running ∧
    (after position (supervised (stoppedByGuard true))).sup.a.state = .stopped ∧
    (let t := after (.reportTimerExpiry .a) { bench with cellTime := 50040 }
     (t.sup.a.command, t.sup.a.window, t.attn.arms.a.permit) = (false, some ⟨50040, 2⟩, waiting (some (false, .stopped)))) :=
  ⟨supervisorsSound_of_check (by decide), supervisorsSound_of_check (by decide), supervisorsSound_of_check (by decide),
   ⟨_, rfl, by decide +kernel⟩, by decide, by decide, by decide +kernel, by decide +kernel, by decide +kernel, by decide⟩

/-- LINK becomes present in mode WARN at the third discarded frame, with FAULT attention; the fourth raises none. -/
theorem witness_CausesAreRecorded :
    discards.sup.b.present.link = false ∧ discards.sup.b.mode .link ≠ .off ∧
    (let s := { discards with ports := discards.ports.set .armB { discards.ports.armB with runCount := 2 } }
     let t := after (.frameDiscard .armB) s
     (∃ u, exec (.frameDiscard .armB) s = .next u) ∧
     (t.sup.b.present.link, t.sup.b.recorded.link, t.attn.cell.fault) = (true, true, waiting 2#2) ∧
     (after (.frameDiscard .armB) { t with attn := s.attn }).attn.cell.fault = s.attn.cell.fault) :=
  ⟨by decide, by decide, ⟨_, rfl⟩, by decide, by decide⟩

theorem witness_ArmEnableAndDisable :
    SupervisorsSound (supervised { stoppedByGuard false with state := .disabled, reportTimer := none }) ∧
    onArm .a (armA 9 0 0 0) bench ∧ onCell (cell 1 0 0 0) bench ∧ (1 : Byte).toNat = armIndex .b ∧
    codes bench [.armEnable (cell 2 0 0 0), .armDisable (cell 2 0 0 0), .armEnable (armA 9 0 0 0),
        .armEnable (cell 1 0 0 0), .armDisable (cell 1 0 0 0), .armDisable (armA 9 0 0 0)] =
      [.badSelector, .badSelector, .state, .ok, .ok, .ok] ∧
    code (.armEnable (cell 0 0 0 0)) (supervised { stoppedByGuard false with state := .disabled, reportTimer := none }) =
      .faulted ∧
    (after (.armEnable (armB 9 0 0 0)) bench).sup.b.reportTimer = some ⟨50000, 50⟩ ∧
    (let v := (after (.armDisable (armA 9 0 0 0)) bench).sup.a
     (v.state, v.command, v.window, v.reportTimer) = (.disabled, false, some ⟨50000, 2⟩, none)) :=
  ⟨supervisorsSound_of_check (by decide), ⟨rfl, rfl⟩, ⟨rfl, rfl⟩, rfl, by decide, by decide, by decide, by decide⟩

/-- ARM_DISABLE from the Cell link and ARM_ENABLE from the arm's link at one cell time, in both orders, on a RUNNING arm
and on a DISABLED one; at the next cell time, and from the link of the disable itself, the enable is taken. -/
theorem witness_EnableAndDisableFallTogether :
    let e : Instr := .armEnable (armA 9 0 0 0)
    let d : Instr := .armDisable (cell 0 0 0 0)
    let off : State := supervised { Supervisor.reset true with settings := bench.sup.a.settings }
    let ends (is : List Instr) (s : State) := ((afterAll is s).sup.a.state, (afterAll is s).ports.armA.reply.code)
    (cell 0 0 0 0).link ≠ (armA 9 0 0 0).link ∧ onCell (cell 0 0 0 0) bench ∧ onArm .a (armA 9 0 0 0) bench ∧
    SupervisorsSound bench ∧ bench.sup.a.state = .running ∧ ends [d, e] bench = (.disabled, .state) ∧ ends [e, d] bench = (.disabled, .state) ∧
    SupervisorsSound off ∧ off.sup.a.state = .disabled ∧ off.disabledBy.get .a = none ∧
    ends [d, e] off = (.starting, .ok) ∧ ends [e, d] off = (.disabled, .ok) ∧
    ends [e] (tick (after d bench)) = (.starting, .ok) ∧
    code (.armEnable (cell 0 0 0 0)) (after d bench) = .ok :=
  ⟨by decide, ⟨rfl, rfl⟩, ⟨rfl, rfl⟩, witness_supervisorsSound, by decide, by decide, by decide,
   supervisorsSound_of_check (by decide), by decide, by decide, by decide, by decide, by decide, by decide⟩

/-- ARM_RESET of an arm whose sense is on: with the command on a window starts, with the command off the mismatch is
found at once. -/
theorem witness_ArmReset :
    onArm .a (armA 7 0 0 0) bench ∧ onCell (cell 0 0 0 0) bench ∧ (0 : Byte).toNat = armIndex .a ∧
    code (.armReset (cell 2 0 0 0)) bench = .badSelector ∧
    (let t := after (.armReset (cell 0 0 0 0)) bench
     (t.sup.a.state, t.sup.a.window, t.sup.a.recorded) = (.disabled, some ⟨50000, 2⟩, PerCause.none) ∧
       t.lastPos.a = none ∧ t.zones.guards.a = none ∧ (zoneAt t 0).holder = some .a) ∧
    (answer (.armReset (armA 7 0 0 0)) (supervised (stoppedByGuard true))) = ⟨.ok, 0, 16, 16⟩ :=
  ⟨⟨rfl, rfl⟩, ⟨rfl, rfl⟩, rfl, by decide, by decide, by decide⟩

theorem witness_FaultClear :
    SupervisorsSound (supervised (stoppedByGuard false)) ∧ SupervisorsSound (supervised (stoppedByGuard true)) ∧
    codes bench [.faultClear (cell 2 63 0 0), .faultClear (cell 0 64 0 0), .faultClear (cell 0 63 0 0)] =
      [.badSelector, .outOfRange, .ok] ∧
    answer (.faultClear (cell 0 1 0 0)) (supervised (stoppedByGuard true)) = ⟨.causePresent, 1, 1, 0⟩ ∧
    (let v := (after (.faultClear (cell 0 1 0 0)) (supervised (stoppedByGuard false))).sup.a
     (v.state, v.recorded, v.reportTimer) = (.starting, PerCause.none, some ⟨50000, 50⟩)) ∧
    (after (.faultClear (cell 0 2 0 0)) (supervised (stoppedByGuard false))).sup.a.state = .stopped :=
  ⟨supervisorsSound_of_check (by decide), supervisorsSound_of_check (by decide), by decide, by decide, by decide,
   by decide⟩

theorem witness_ArmSet :
    let set (sel : Byte) (part d1 d2 : Word) : Instr := .armSet (cell sel part d1 d2)
    codes bench [set 2 0 0 0, set 0 3 0 0, set 0 0 0 0, set 1 3 0 0, set 1 0 10000000 (word (-2000000000)),
        set 1 0 10000001 0, set 1 0 0 (word 2000000001), set 1 1 5000000 0x0107, set 1 1 5000001 0, set 1 1 0 8,
        set 1 1 0 0x0200, set 1 2 0x03030203 0, set 1 2 0x00000300 0, set 1 2 0x04000000 0] =
      [.badSelector, .badSelector, .state, .badSelector, .ok, .outOfRange, .outOfRange, .ok, .outOfRange, .outOfRange,
        .outOfRange, .ok, .outOfRange, .outOfRange] ∧
    (after (set 1 1 5000000 0x0107) bench).sup.b.settings.timeoutCode = 7 ∧
    (let v := { Supervisor.reset false with present := { PerCause.none with link := true }
                                            settings := { ArmSettings.reset with modes := ⟨.off, .warn, .off, .off⟩ } }
     let t := after (set 0 2 0 0) (supervised v)
     (t.sup.a.recorded.link, t.attn.cell.fault.detail) = (true, 1#2)) := by decide +kernel

theorem witness_SupervisorEvents :
    let s := supervised { bench.sup.a with sense := false, reportTimer := some ⟨49950, 50⟩, window := some ⟨49998, 2⟩ }
    s.resetHeld = false ∧ (50 : Nat) ≤ (s.cellTime - 49950).toNat ∧ (2 : Nat) ≤ (s.cellTime - 49998).toNat ∧
    (after (.reportTimerExpiry .a) s).sup.a.present.overdue = true ∧
    (after (.settleWindowExpiry .a) s).sup.a.present.permitMismatch = true ∧
    (after (.settleWindowExpiry .a) { s with cellTime := 49999 }).sup.a = { s.sup.a with state := .running } ∧
    (after (.permitSenseChange .a true) s).sup.a.present.permitMismatch = false ∧
    (after (.permitSenseChange .a false) bench).sup.a.recorded.permitMismatch = true ∧
    (after (.permitSenseChange .a true) bench).sup.a.present.permitMismatch = false ∧
    (after (.permitSenseChange .b true) inReset).sup.b.present.permitMismatch = false := by decide

/-! ### Witnesses for the registry -/

/-- The words of PROBE_TIP_WRITE for a tip of a probe (R108, Table A.6). -/
def tipWrite (index : Byte) (id : Nat) (x y z : Int) : Instr :=
  let low (v : Int) (high : Nat) : Word := (word v &&& 0x01FFFFFF#32) ||| (BitVec.ofNat 32 high <<< 25)
  .probeTipWrite (cell index (low x (id % 128)) (low y (id / 128 % 128)) (low z (id / 16384)))

theorem witness_ProbeRegister :
    codes bench [.probeRegister (cell 12 305 0 0), .probeRegister (cell 3 0 0 0), .probeRegister (cell 3 1 0 0),
        .probeRegister (cell 3 65535 0 0), .probeRegister (cell 3 65536 0 0), .probeRegister (cell 11 305 0 0)] =
      [.badSelector, .outOfRange, .ok, .ok, .outOfRange, .state] ∧
    code (.probeRegister (cell 3 305 0 0)) { bench with registry := { bench.registry with
      entries := Vector.ofFn fun e => some ⟨BitVec.ofNat 16 (401 + e.val), 0, [], .unqualified, none, 0, none, .missing⟩ } } =
      .full ∧
    entryAt bench 4 = none ∧ (∀ f < (4 : Fin 14), entryAt bench f ≠ none) := by decide +kernel

theorem witness_Tips :
    onCell (cell 0 302 0 0) bench ∧ RegistrySound bench ∧ (∃ p ∈ entryAt bench 1, p.id.toNat = 302) ∧
    codes bench [tipWrite 1 302 10000000 (-10000000) 0, tipWrite 0 302 10000001 0 0, tipWrite 2 302 0 0 0,
        tipWrite 5 302 0 0 0, tipWrite 0 999 0 0 0, tipWrite 0 65535 0 0 0, .probeTipWrite (cell 0 0 0 0x08000000),
        .probeTipClear (cell 0 302 0 0), .probeTipClear (cell 0 65838 0 0), .probeQualify (cell 0 999 0 0),
        .probeQualify (cell 0 302 0 0), .probeQualify (cell 0 304 0 0)] =
      [.ok, .outOfRange, .badSelector, .badSelector, .noProbe, .noProbe, .outOfRange, .ok, .noProbe, .noProbe, .ok,
        .notReady] ∧
    ((entryAt (after (tipWrite 1 302 10000000 (-10000000) 1) bench) 1).map fun p => (p.tips, p.qual)) =
      some ([⟨10, 20, 30⟩, ⟨10000000, -10000000, 1⟩], .unqualified) ∧
    code (.probeQualify (cell 0 302 0 0)) { bench with temp := TempUnit.reset } = .noTemp :=
  ⟨⟨rfl, rfl⟩, witness_registrySound, ⟨_, rfl, by decide⟩, by decide +kernel, by decide +kernel, by decide⟩

theorem witness_ReservationAndRemoval :
    onCell (cell 1 302 0 0) bench ∧ RegistrySound bench ∧
    codes bench [.probeReserve (cell 2 302 0 0), .probeReserve (cell 1 302 0 0), .probeReserve (cell 0 999 0 0),
        .probeUnreserve (cell 0 999 0 0), .probeUnreserve (cell 0 304 0 0), .probeRemove (cell 0 999 0 0),
        .probeRemove (cell 0 301 0 0), .probeRemove (cell 0 302 0 0), .probeRemove (cell 0 303 0 0),
        .probeRemove (cell 0 304 0 0)] =
      [.badSelector, .ok, .noProbe, .noProbe, .ok, .noProbe, .inUse, .ok, .ok, .inUse] ∧
    ((entryAt (after (.probeReserve (cell 1 302 0 0)) bench) 1).map Probe.reservation) = some (some .b) ∧
    (slotAt (after (.probeRemove (cell 0 302 0 0)) bench) 2) = { slotAt bench 2 with state := .unclaimed, probe := none } ∧
    entryAt (after (.probeUnreserve (cell 0 304 0 0)) bench) 3 = some ⟨304, 5, [], .unqualified, none, 0, none, .slot 5⟩ :=
  ⟨⟨rfl, rfl⟩, witness_registrySound, by decide +kernel, by decide, by decide, by decide⟩

theorem witness_ProbeAndRackReads :
    takesFrame .armA bench = true ∧ RegistrySound bench ∧ RackSound bench ∧
    codes bench [.readProbe (armA 14 0 0 0), .readProbe (armA 14 1 0 0), .readProbe (armA 15 0 0 0),
        .readProbe (armA 13 5 0 0), .readProbe (armA 13 6 0 0), .readSlot (armA 12 0 0 0), .readSlot (armA 13 0 0 0),
        .readChange (armA 1 1 0 0), .readChange (armA 1 2 0 0), .readChange (armA 2 0 0 0)] =
      [.ok, .badSelector, .badSelector, .ok, .badSelector, .ok, .badSelector, .ok, .badSelector, .badSelector] ∧
    answer (.readProbe (armA 0 0 0 0)) bench = ⟨.ok, 0x0200012D, 0x00071020, 21000⟩ ∧
    answer (.readProbe (armA 0 2 0 0)) bench = ⟨.ok, word (-4000), 5000, 0⟩ ∧
    answer (.readProbe (armA 14 0 0 0)) bench = ⟨.ok, 0x0004000F, 0x0000FF00, 0x07D007D0⟩ ∧
    (after (.readProbe (armA 4 0 0 0)) bench).freeIndex = 2 ∧
    answer (.readSlot (armA 5 0 0 0)) bench = ⟨.ok, 0x00070304, 304, 0⟩ ∧
    answer (.readChange (armA 0 0 0 0)) bench = ⟨.ok, 0xFFFF0000, 0, 0⟩ :=
  ⟨rfl, witness_registrySound, witness_rackSound, by decide +kernel, by decide, by decide, by decide, by decide,
   by decide, by decide⟩

theorem witness_Settings :
    codes bench [.probeSet (cell 0 1 10000 0), .probeSet (cell 0 65535 0 0), .probeSet (cell 0 0 0 0),
        .probeSet (cell 0 65536 0 0), .probeSet (cell 0 1 10001 0), .rackSet (cell 0 1 0 0), .rackSet (cell 0 120 0 0),
        .rackSet (cell 0 0 0 0), .rackSet (cell 0 121 0 0), .touchSet (cell 0 2000 32 0), .touchSet (cell 0 0 1 0),
        .touchSet (cell 0 2001 1 0), .touchSet (cell 0 0 0 0), .touchSet (cell 0 0 33 0), .alarmSet (cell 0 511 0 0),
        .alarmSet (cell 0 512 0 0)] =
      [.ok, .ok, .outOfRange, .outOfRange, .outOfRange, .ok, .ok, .outOfRange, .outOfRange, .ok, .ok, .outOfRange,
        .outOfRange, .outOfRange, .ok, .outOfRange] ∧
    cellAlarm bench = true ∧ cellAlarm (after (.alarmSet (cell 0 0 0 0)) bench) = false := by decide +kernel

/-! ### Witnesses for the rack and the change protocol -/

/-- The raw level of a slot has differed for 20 ms. -/
def settling (i : Fin 12) (level : Bool) (s : State) : State :=
  s.setSlot i { slotAt s i with raw := level, settleTimer := some ⟨49980, 20⟩ }

/-- Arm A opened a change that deposits 301 in slot 0 and takes 302 from slot 2. -/
def depositing : State := after (.changeOpen (armA 0 302 0 0)) bench

/-- The deposit is complete and the pick waits. -/
def picking : State := after (.presenceSettleExpiry 0) (settling 0 true depositing)

/-- The pick is complete. -/
def finishing : State := after (.presenceSettleExpiry 2) (settling 2 false picking)

/-- Arm A with an empty head. -/
def emptyHead : State := { bench with registry := { bench.registry with entries := vput benchEntries 0 none } }

theorem witness_Presence :
    let gone (i : Fin 12) (level : Bool) := (slotAt (after (.presenceSettleExpiry i) (settling i level bench)) i).state
    (slotAt (after (.presenceRawChange 2 false) bench) 2).settleTimer = some ⟨50000, 20⟩ ∧
    slotAt (after (.presenceRawChange 2 true) bench) 2 = slotAt bench 2 ∧
    (slotAt (after (.presenceRawChange 2 false) inReset) 2).settleTimer = none ∧
    [gone 1 true, gone 3 false, gone 4 false, gone 2 false, gone 2 true] =
      [.unclaimed, .vacant, .blocked, .blocked, .stored] ∧
    ((entryAt (after (.presenceSettleExpiry 2) (settling 2 false bench)) 1).map Probe.location) = some .missing ∧
    (after (.presenceSettleExpiry 1) (settling 1 true bench)).attn.cell.rack.detail = 0b10010 ∧
    (slotAt (after (.presenceSettleExpiry 1) { settling 1 true bench with cellTime := 49999 }) 1).state = .vacant := by
  decide

/-- The hypotheses on a state with a change open: the slots, the changes, the registry and the zones are sound. -/
def changeHypotheses (s : State) : Prop := RackSound s ∧ ChangesSound s ∧ RegistrySound s ∧ ZonesSound s

theorem witness_depositing : changeHypotheses (settling 0 true depositing) :=
  ⟨rackSound_of_check (by decide +kernel) (by decide +kernel) (by decide +kernel) (by decide),
   ⟨changeSound_of_check (by decide) (by decide) (by decide) (by decide),
    changeSound_of_check (by decide) (by decide) (by decide) (by decide)⟩,
   registrySound_of_check (by decide) (by decide +kernel) (by decide),
   tableSound_of_check (by decide +kernel) (by decide +kernel) (by decide +kernel) (by decide +kernel),
   claimsSound_of_check (by decide) (by decide) (by decide)⟩

theorem witness_picking : changeHypotheses (settling 2 false picking) :=
  ⟨rackSound_of_check (by decide +kernel) (by decide +kernel) (by decide +kernel) (by decide),
   ⟨changeSound_of_check (by decide) (by decide) (by decide) (by decide),
    changeSound_of_check (by decide) (by decide) (by decide) (by decide)⟩,
   registrySound_of_check (by decide) (by decide +kernel) (by decide),
   tableSound_of_check (by decide +kernel) (by decide +kernel) (by decide +kernel) (by decide +kernel),
   claimsSound_of_check (by decide) (by decide) (by decide)⟩

theorem witness_finishing : changeHypotheses finishing :=
  ⟨rackSound_of_check (by decide +kernel) (by decide +kernel) (by decide +kernel) (by decide),
   ⟨changeSound_of_check (by decide) (by decide) (by decide) (by decide),
    changeSound_of_check (by decide) (by decide) (by decide) (by decide)⟩,
   registrySound_of_check (by decide) (by decide +kernel) (by decide),
   tableSound_of_check (by decide +kernel) (by decide +kernel) (by decide +kernel) (by decide +kernel),
   claimsSound_of_check (by decide) (by decide) (by decide)⟩

/-- A deposit that goes on to a pick, one that finds its take probe gone, one with nothing to take, and a pick. -/
theorem witness_AwaitedPresence :
    let phase (s : State) := ((s.rack.changes.get .a).phase, (s.rack.changes.get .a).outcome)
    let x := slotAt (settling 0 true depositing) 0
    x.raw ≠ x.settled ∧ (20 : Nat) ≤ ((settling 0 true depositing).cellTime - 49980).toNat ∧
    (settling 0 true depositing).resetHeld = false ∧
    phase depositing = (.deposit, .opened) ∧ (depositing.rack.changes.get .a).putSlot = some 0 ∧
    ((entryAt depositing 0).map Probe.location) = some (.head .a) ∧ (slotAt depositing 2).state = .stored ∧
    phase picking = (.pick, .deposited) ∧ (slotAt picking 2).lock = false ∧ phase finishing = (.finish, .picked) ∧
    (let lost := after (.presenceSettleExpiry 2) (settling 2 false depositing)
     phase (after (.presenceSettleExpiry 0) (settling 0 true lost)) = (.finish, .takeLost)) ∧
    (let only := after (.changeOpen (armA 0 0 0 0)) bench
     phase (after (.presenceSettleExpiry 0) (settling 0 true only)) = (.finish, .deposited)) := by decide

theorem witness_ChangeOpen :
    onArm .a (armA 0 302 0 0) bench ∧ RackSound bench ∧ RegistrySound bench ∧ ZonesSound bench ∧
    codes bench [.changeOpen (armB 0 302 0 0), .changeOpen (armA 0 302 0 0), .changeOpen (armA 0 0 0 0),
        .changeOpen (armA 0 301 0 0), .changeOpen (armA 0 303 0 0), .changeOpen (armA 0 999 0 0),
        .changeOpen (armA 0 65535 0 0), .changeOpen (armA 0 65536 0 0)] =
      [.state, .ok, .ok, .state, .noProbe, .noProbe, .noProbe, .outOfRange] ∧
    codes emptyHead [.changeOpen (armA 0 0 0 0), .changeOpen (armA 0 302 0 0)] = [.outOfRange, .ok] ∧
    (after (.changeOpen (armA 0 302 0 0)) emptyHead).rack.changes.a.phase = .pick ∧
    code (.changeOpen (armA 0 302 0 0)) depositing = .busy ∧
    code (.changeOpen (armA 0 302 0 0)) (claimed (fun n z => if n = 3 then Zone.reset else z) none none bench) = .notReady ∧
    code (.changeOpen (armA 0 302 0 0)) (claimed (fun n z => if n = 3 then { z with holder := some .b } else z) none none bench) =
      .notHeld ∧
    code (.changeOpen (armA 0 302 0 0)) (after (.probeReserve (cell 1 302 0 0)) bench) = .reserved ∧
    code (.changeOpen (armA 0 302 0 0)) (bench.setSlot 0 (slot .unclaimed none true)) = .slotBusy :=
  ⟨⟨rfl, rfl⟩, witness_rackSound, witness_registrySound, witness_zonesSound, by decide, by decide, by decide, by decide,
   by decide, by decide, by decide, by decide⟩

/-- The close that names the take probe mounts it (its Tcal of 15,000 has drifted, so it becomes DUE); one that names
another, or no head, ends in WRONG_PROBE; with nothing taken, id 0 closes. -/
theorem witness_ChangeClose :
    let only := after (.presenceSettleExpiry 0) (settling 0 true (after (.changeOpen (armA 0 0 0 0)) bench))
    let t := after (.changeClose (armA 0 302 0 0)) finishing
    onArm .a (armA 0 302 0 0) finishing ∧ RackSound finishing ∧ (finishing.rack.changes.get .a).phase = .finish ∧
    code (.changeClose (armA 0 302 0 0)) bench = .state ∧
    codes finishing [.changeClose (armA 0 65536 0 0), .changeClose (armA 0 65535 0 0), .changeClose (armA 0 302 0 0)] =
      [.outOfRange, .ok, .ok] ∧
    ((entryAt t 1).map fun p => (p.qual, p.reservation, p.location)) = some (.due, none, .head .a) ∧
    (t.rack.changes.a.outcome, t.touch.queues.a.blankTimer, t.attn.cell.probe.detail) = (.closed, some ⟨50000, 250⟩, 2) ∧
    (let u := after (.changeClose (armA 0 0 0 0)) finishing
     (u.rack.changes.a.outcome, u.sup.a.state, u.sup.a.recorded.changeFault, (entryAt u 1).map Probe.location) =
       (.wrongProbe, .stopped, true, some .missing)) ∧
    (after (.changeClose (armA 0 0 0 0)) only).rack.changes.a.outcome = .closed :=
  ⟨⟨rfl, by decide⟩, witness_finishing.1, by decide, by decide, by decide, by decide, by decide, by decide, by decide⟩

theorem witness_ChangeAbort :
    onArm .a (armA 0 0 0 0) depositing ∧ (depositing.rack.changes.get .a).phase = .deposit ∧
    (picking.rack.changes.get .a).phase = .pick ∧
    code (.changeAbort (armA 0 0 0 0)) bench = .state ∧ code (.changeAbort (armA 0 0 0 0)) finishing = .state ∧
    (slotAt (after (.changeAbort (armA 0 0 0 0)) depositing) 0).state = .vacant ∧
    slotAt (after (.changeAbort (armA 0 0 0 0)) picking) 2 = slotAt bench 2 :=
  ⟨⟨rfl, by decide⟩, by decide, by decide, by decide, by decide, by decide, by decide⟩

/-- A change runs out in each of its phases; 29,999 ms are not 30 s. -/
theorem witness_ChangeAndBlankTimers :
    let late (s : State) : State := { s with cellTime := 80000 }
    let outcome (s : State) := (s.rack.changes.a.outcome, s.sup.a.recorded.changeFault)
    RackSound (late depositing) ∧ RackSound (late finishing) ∧ (late depositing).resetHeld = false ∧
    (depositing.rack.changes.get .a).timer = some ⟨50000, 30000⟩ ∧
    outcome (after (.changeTimerExpiry .a) (late depositing)) = (.timedOut, true) ∧
    slotAt (after (.changeTimerExpiry .a) (late depositing)) 0 = slot .blocked none false ∧
    slotAt (after (.changeTimerExpiry .a) (late picking)) 2 = slot .blocked (some 1) true ∧
    (after (.changeTimerExpiry .a) (late finishing)).touch.queues.a.blankTimer = some ⟨80000, 250⟩ ∧
    outcome (after (.changeTimerExpiry .a) { depositing with cellTime := 79999 }) = (.opened, false) ∧
    (let s := bench.setQueue .a ⟨[], 0, some ⟨49750, 250⟩⟩
     (after (.blankTimerExpiry .a) s).touch.queues.a.blankTimer = none ∧
       (after (.blankTimerExpiry .a) { s with cellTime := 49999 }).touch.queues.a.blankTimer = some ⟨49750, 250⟩) :=
  ⟨rackSound_of_check (by decide +kernel) (by decide +kernel) (by decide +kernel) (by decide),
   rackSound_of_check (by decide +kernel) (by decide +kernel) (by decide +kernel) (by decide),
   by decide, by decide, by decide, by decide, by decide, by decide, by decide, by decide⟩

/-- Table 7.6: slot 5 holds a probe, 7 nothing, 4 is the home of the missing 303, 6 is unseated. -/
theorem witness_SlotService :
    codes bench [.slotService (cell 12 0 0 0), .slotService (cell 11 0 0 0), .slotService (cell 5 0 0 0)] =
      [.badSelector, .state, .ok] ∧
    (let served (i : Fin 12) (sel : Byte) (s : State) := (slotAt (after (.slotService (cell sel 0 0 0)) s) i)
     [served 5 5 bench, served 7 7 bench, served 4 4 bench, served 6 6 bench] =
       [slot .stored (some 3) true, slot .unclaimed none true, slot .stored (some 2) true, slot .vacant none false] ∧
     (served 5 5 (bench.setSlot 5 (slot .blocked (some 3) false))).state = .vacant) ∧
    ((entryAt (after (.slotService (cell 4 0 0 0)) bench) 2).map Probe.location) = some (.slot 4) := by decide

/-! ### Witnesses for touches and attention -/

theorem witness_Touch :
    let full := bench.setQueue .a ⟨List.replicate 32 (touchRecord 9), 9, none⟩
    onArm .a (armA 0 0 0 0) bench ∧ RackSound bench ∧
    codes bench [.touch (armB 0 0 0 0), .touch (armA 1 0 0 0), .touch (armA 2 0 0 0)] = [.state, .ok, .badSelector] ∧
    code (.touch (armA 0 0 0 0)) depositing = .state ∧ code (.touch (armA 0 0 0 0)) emptyHead = .noProbe ∧
    code (.touch (armA 0 0 0 0)) full = .queueFull ∧
    code (.touch (armA 0 0 0 0)) (bench.setQueue .a ⟨List.replicate 31 (touchRecord 9), 9, none⟩) = .ok ∧
    (let t := after (.touch (armA 1 0 0 0)) (bench.setQueue .a ⟨[], 5, some ⟨49900, 250⟩⟩)
     (t.touch.queues.a.records.map fun q => (q.sequence, q.tip, q.drift, q.blank)) = [(6, 1, false, true)]) :=
  ⟨⟨rfl, rfl⟩, witness_rackSound, by decide +kernel, by decide, by decide, by decide, by decide +kernel,
   by decide +kernel⟩

theorem witness_TouchHeadAndDrop :
    onCell (cell 0 2 0 0) bench ∧ QueuesSound bench ∧
    codes bench [.touchHead (cell 2 0 0 0), .touchHead (cell 0 3 0 0), .touchHead (cell 1 0 0 0),
        .touchHead (cell 1 2 0 0), .touchDrop (cell 2 4 0 0), .touchDrop (cell 1 4 0 0), .touchDrop (cell 0 5 0 0),
        .touchDrop (cell 0 4 0 0)] =
      [.badSelector, .badSelector, .empty, .ok, .badSelector, .empty, .stale, .ok] ∧
    answer (.touchHead (cell 0 0 0 0)) bench = ⟨.ok, 4, 0x0A09012D, 49000⟩ ∧
    answer (.touchHead (cell 0 1 0 0)) bench = ⟨.ok, 1, 0xFFFFFFFE, 3⟩ ∧
    answer (.touchDrop (cell 0 4 0 0)) bench = ⟨.ok, 1, 5, 0⟩ :=
  ⟨⟨rfl, rfl⟩, witness_queuesSound, by decide, by decide, by decide, by decide⟩

theorem witness_AttnEnable :
    onCell (cell 0 1 63 0) bench ∧ onArm .a (armA 0 1 15 0) bench ∧
    codes bench [.attnEnable (cell 0 1 63 0), .attnEnable (cell 0 2 63 0), .attnEnable (cell 0 0 64 0),
        .attnEnable (armA 0 0 15 0), .attnEnable (armA 0 0 16 0)] = [.ok, .outOfRange, .outOfRange, .ok, .outOfRange] ∧
    answer (.attnEnable (cell 0 0 0b101111 0)) bench = ⟨.ok, 0, 0b101111, 0x00001026⟩ ∧
    (after (.attnEnable (cell 0 0 0 0)) bench).attn.cell.rack = ⟨false, false, false, 0⟩ :=
  ⟨⟨rfl, rfl⟩, ⟨rfl, rfl⟩, by decide, by decide, by decide⟩

/-- Each source of the Cell link's unit and of Arm A's unit as the eligible one of highest rank. -/
theorem witness_AttnTakeAndDone :
    let cellUnit (u : CellUnit) : State := { bench with attn := { bench.attn with cell := u } }
    let armUnit (u : ArmUnit) : State := { bench with attn := { bench.attn with arms := bench.attn.arms.set .a u } }
    let u := Attention.reset.cell
    let v := ArmUnit.reset
    let take (s : State) := answer (.attnTake (cell 0 0 0 0)) s
    let takeA (s : State) := answer (.attnTake (armA 0 0 0 0)) s
    let done (s : State) := (answer (.attnDone (cell 0 0 0 0)) s).d0
    [take (cellUnit { u with fault := waiting 3 }), take (cellUnit { u with rack := waiting 5 }),
      take (cellUnit { u with model := waiting (some .span) }), take (cellUnit { u with sensor := waiting 9 }),
      take (cellUnit { u with probe := waiting 7 }), take (cellUnit { u with touch := waiting 1 }), take (cellUnit u)] =
      [⟨.ok, 1, 3, 0⟩, ⟨.ok, 2, 5, 0⟩, ⟨.ok, 3, 3, 0⟩, ⟨.ok, 4, 9, 0⟩, ⟨.ok, 5, 7, 0⟩, ⟨.ok, 6, 1, 0⟩, ⟨.none, 0, 0, 0⟩] ∧
    [takeA (armUnit { v with permit := waiting (some (true, .running)) }),
      takeA (armUnit { v with change := waiting (some (.idle, .closed)) }),
      takeA (armUnit { v with claim := waiting (some ⟨4, 2⟩) }), takeA (armUnit { v with comp := waiting (some .none) }),
      takeA (armUnit v)] =
      [⟨.ok, 1, 0x201, 0⟩, ⟨.ok, 2, 0x500, 0⟩, ⟨.ok, 3, 4, 2⟩, ⟨.ok, 4, 3, 0⟩, ⟨.none, 0, 0, 0⟩] ∧
    done bench = 5 ∧ (answer (.attnDone (armA 0 0 0 0)) bench).d0 = 4 ∧ code (.attnDone (armB 0 0 0 0)) bench = .none ∧
    done (cellUnit { u with fault := ⟨true, true, true, 1⟩, touch := ⟨true, false, true, 0⟩ }) = 1 := by decide

/-! ### Witnesses for what every step keeps -/

/-- The cell at work takes a step, with an empty queue and with a command in front. -/
theorem witness_steps :
    (∃ t, step bench = .next t) ∧
    (∃ t, step { bench with pending := [.changeOpen (armA 0 302 0 0)] } = .next t) ∧
    (∃ t, step { depositing with pending := [.changeAbort (armA 0 0 0 0)] } = .next t) :=
  ⟨⟨{ bench with cellTime := 50001 }, rfl⟩, ⟨_, rfl⟩, ⟨_, rfl⟩⟩

theorem witness_EveryStepKeeps :
    SupervisorsSound bench ∧ RegistrySound bench ∧ QueuesSound bench ∧ ZonesSound bench ∧ AttentionSound bench ∧
    PortsSound bench ∧ SensorsSound bench ∧ SequencerSound bench.temp.seq ∧ ModelSound bench ∧ RackSound bench ∧
    ChangesSound bench :=
  ⟨witness_supervisorsSound, witness_registrySound, witness_queuesSound, witness_zonesSound, witness_attentionSound,
   witness_portsSound, witness_sensorsSound, witness_sequencerSound, witness_modelSound, witness_rackSound,
   witness_changesSound⟩

end Sys2Proof.Tests
end

section
/-! PROOFS. Requests of the Cell link, each said once: what the end of their frame is on an arm link, and on the Cell
link from what the block makes of them. -/

namespace Sys2Proof.Machine

/-- A request that belongs to the Cell link alone is denied on the links of the arms. -/
theorem deniedToArms_of_cellLink {i : Instr} {r : Request} {s : State} {act : State → Act}
    (h : exec i s = .next (handleRequest .cellLink r.link act s)) : deniedToArms i r s := by
  rintro arm ⟨hl, ht⟩
  have hp : Access.permits .cellLink r.link = false := by simp [hl, Access.permits]
  rw [← hl] at ht
  rw [h, handleRequest_denied ht hp, writeReply_conclude_acceptFrame]

/-- On the Cell link an event that leaves the supervisors alone ends with the answer at the port. -/
theorem writeReply_conclude_cell {s t : State} (hsup : t.sup = s.sup) (reply : Reply) :
    writeReply .cell reply (conclude s .plain (acceptFrame .cell t)) = answered .cell reply t := by
  rw [conclude_same s _ fun arm => by rw [← hsup]; rfl]
  rfl

/-- A Cell request that its block refuses, with the frame accepted. -/
theorem handleRequest_cell_of_refuse {r : Request} {s : State} {act : State → Act} {code : ResultCode}
    (hc : onCell r s) (h : act (acceptFrame .cell s) = refuse code (acceptFrame .cell s)) :
    handleRequest .cellLink r.link act s = refusedOnCell code s := by
  obtain ⟨hl, ht⟩ := hc
  rw [hl, handleRequest_permitted ht rfl, h]
  exact writeReply_conclude_cell rfl _

/-- A Cell request that its block takes, with the frame accepted, leaving the supervisors alone. -/
theorem handleRequest_cell_of_okay {r : Request} {s t : State} {act : State → Act} {d0 d1 d2 : Word}
    (hc : onCell r s) (hsup : t.sup = s.sup)
    (h : act (acceptFrame .cell s) = okay (acceptFrame .cell t) d0 d1 d2) :
    handleRequest .cellLink r.link act s = answered .cell { code := .ok, d0 := d0, d1 := d1, d2 := d2 } t := by
  obtain ⟨hl, ht⟩ := hc
  rw [hl, handleRequest_permitted ht rfl, h]
  exact writeReply_conclude_cell hsup _

/-! ### What selectors and words name -/

/-- A selector at or above the table's size names no entry. -/
theorem indexOf_eq_none {n x : Nat} (h : n ≤ x) : indexOf n x = none := by simp [indexOf, h]

/-- A selector that is the number of an entry names it. -/
theorem indexOf_eq_some {n x : Nat} {i : Fin n} (h : i.val = x) : indexOf n x = some i := by
  subst h; simp [indexOf]

/-- A byte of a word as a quotient and a remainder. -/
theorem byteOf_eq (w : Word) (k : Nat) : byteOf w k = w.toNat / 2 ^ (8 * k) % 256 := by
  simp [byteOf, Nat.shiftRight_eq_div_pow]

/-- A role code names the role whose number it is (Table A.6). -/
theorem roleOfCode_num (x : Role) : roleOfCode x.num = some x := by cases x <;> rfl

/-- Numbers above 4 are no role codes (Table A.6). -/
theorem roleOfCode_eq_none {c : Nat} (h : 4 < c) : roleOfCode c = none := by
  obtain ⟨n, rfl⟩ := Nat.exists_eq_add_of_le h
  rw [show Nat.succ 4 + n = n + 5 by omega]
  rfl

/-- The numbers up to 4 are role codes (Table A.6). -/
theorem exists_role_num {c : Nat} (h : ¬ 4 < c) : ∃ x : Role, x.num = c := by
  have : c = 0 ∨ c = 1 ∨ c = 2 ∨ c = 3 ∨ c = 4 := by omega
  rcases this with rfl | rfl | rfl | rfl | rfl
  exacts [⟨.unused, rfl⟩, ⟨.scale, rfl⟩, ⟨.workpiece, rfl⟩, ⟨.air, rfl⟩, ⟨.rack, rfl⟩]

end Sys2Proof.Machine
end

section
/-! PROOFS. SENSOR_SET: the checks of Table 1.3 and the record started afresh (R3, R4). -/

namespace Sys2Proof.Machine

/-! ### The checks -/

/-- Another sensor of role RACK, as a statement (Table 1.3, check 4). -/
theorem otherRack_iff (s : State) (i : Fin 16) :
    otherRack s i = true ↔ ∃ j : Fin 16, j ≠ i ∧ (vget s.temp.sensors j).role = .rack := by
  simp [otherRack]

/-- ACTIVE holds the sensor's number in a byte of a sensor word of Table 2.2 (Table 1.3, check 5). -/
def namedInActive (s : State) (i : Fin 16) : Bool :=
  s.model.active.any fun im => decide (∃ j : Fin 6,
    (imageWord im (38 * j.val + 3)).toNat % 256 = i.val ∨ (imageWord im (38 * j.val + 3)).toNat / 256 % 256 = i.val)

theorem activeNames_eq_namedInActive (s : State) (i : Fin 16) : activeNames s i = namedInActive s i := by
  have place (j : Fin 6) : scaleIndex j 1 = 38 * j.val + 3 := by unfold scaleIndex; omega
  unfold activeNames namedInActive
  cases s.model.active with
  | none => rfl
  | some im => rw [Option.any_some, Bool.eq_iff_iff]; simp [primaryOf, secondaryOf, byteOf_eq, place]

/-- The first check of Table 1.3 that a SENSOR_SET of sensor `i` fails. -/
def sensorSetRefusal (r : Request) (i : Fin 16) (s : State) : Option ResultCode :=
  let role := r.d0.toNat % 256
  let n := r.d0.toNat / 256 % 256
  if s.temp.seq.state ≠ .stopped then some .busy
  else if 4 < role ∨ 65535 < r.d1.toNat ∨ r.d2.toNat < 1 ∨ 65535 < r.d2.toNat ∨ 7 < n then some .outOfRange
  else if role = 4 ∧ ∃ j : Fin 16, j ≠ i ∧ (vget s.temp.sensors j).role = .rack then some .outOfRange
  else if role ≠ 1 ∧ namedInActive s i = true then some .inUse
  else none

/-- The record that a taken SENSOR_SET leaves (R4). -/
def sensorSetRecord (r : Request) (x : Role) : Sensor :=
  { role := x, c0 := r.d1.setWidth 16, k := r.d2.setWidth 16, n := BitVec.ofNat 3 (r.d0.toNat / 256 % 256)
    state := if x = .unused then .off else .waiting
    lastCode := 0, lastClass := .good, tf := 0, nonGoodRun := 0, goodRun := 0, ordinal := 0, history := []
    leftValid := none }

theorem Role.num_eq_four {x : Role} : x.num = 4 ↔ x = .rack := by cases x <;> decide

theorem Role.num_eq_one {x : Role} : x.num = 1 ↔ x = .scale := by cases x <;> decide

/-! ### The act -/

theorem sensorSet_badSelector {r : Request} {s : State} (h : 16 ≤ r.sel.toNat) :
    sensorSet r s = refuse .badSelector s := by
  simp [sensorSet, indexOf_eq_none h]

/-- A role code that is none is refused as the range of any other operand is (R3). -/
theorem sensorSet_of_badRole {r : Request} {s : State} {i : Fin 16} (hi : i.val = r.sel.toNat)
    (h : 4 < r.d0.toNat % 256) :
    sensorSet r s = if s.temp.seq.state ≠ .stopped then refuse .busy s else refuse .outOfRange s := by
  simp [sensorSet, indexOf_eq_some hi, byteOf_eq, roleOfCode_eq_none h]

/-- With a role code that names a role, the first failing check of Table 1.3 decides, or the record is started afresh
(R3, R4). -/
theorem sensorSet_of_role {r : Request} {s : State} {i : Fin 16} {x : Role} (hi : i.val = r.sel.toNat)
    (hx : x.num = r.d0.toNat % 256) :
    sensorSet r s = (sensorSetRefusal r i s).elim
      (okay (if (vget s.temp.sensors i).state = .failed ∨ (vget s.temp.sensors i).state = .lockedOut then
        raiseSensor i (s.setSensor i (sensorSetRecord r x)) else s.setSensor i (sensorSetRecord r x)))
      fun code => refuse code s := by
  have role : roleOfCode (byteOf r.d0 0) = some x := by rw [byteOf_eq, ← roleOfCode_num x, hx]; simp
  have shift : byteOf r.d0 1 = r.d0.toNat / 256 % 256 := byteOf_eq r.d0 1
  have fresh : freshSensor x (BitVec.ofNat 16 r.d1.toNat) (BitVec.ofNat 16 r.d2.toNat)
      (BitVec.ofNat 3 (r.d0.toNat / 256 % 256)) = sensorSetRecord r x := by
    simp [freshSensor, sensorSetRecord, Sensor.reset]
  have known : ¬ 4 < x.num := by cases x <;> decide
  simp only [sensorSet, sensorSetRefusal, indexOf_eq_some hi, role, shift, fresh, otherRack_iff,
    activeNames_eq_namedInActive, ← hx, known, false_or, Role.num_eq_four, Role.num_eq_one, ne_eq,
    and_comm (a := namedInActive s i = true)]
  split_ifs <;> rfl

/-- A SENSOR_SET that fails a check of Table 1.3 is refused with the code of the first (R3). -/
theorem sensorSet_of_refusal {r : Request} {s : State} {i : Fin 16} {code : ResultCode} (hi : i.val = r.sel.toNat)
    (h : sensorSetRefusal r i s = some code) : sensorSet r s = refuse code s := by
  by_cases hrole : 4 < r.d0.toNat % 256
  · rw [sensorSet_of_badRole hi hrole]
    simp only [sensorSetRefusal, hrole, true_or, if_true] at h
    split_ifs at h ⊢ <;> cases h <;> rfl
  · obtain ⟨x, hx⟩ := exists_role_num hrole
    rw [sensorSet_of_role hi hx, h]; rfl

/-- A SENSOR_SET that passes every check of Table 1.3 is taken (R4). -/
theorem sensorSet_of_taken {r : Request} {s : State} {i : Fin 16} {x : Role} (hi : i.val = r.sel.toNat)
    (hx : x.num = r.d0.toNat % 256) (h : sensorSetRefusal r i s = none) :
    sensorSet r s = okay (if (vget s.temp.sensors i).state = .failed ∨ (vget s.temp.sensors i).state = .lockedOut then
      raiseSensor i (s.setSensor i (sensorSetRecord r x)) else s.setSensor i (sensorSetRecord r x)) := by
  rw [sensorSet_of_role hi hx, h]; rfl

/-! ### The statement -/

/-- Settles O13: the act is settled by the first failing check, and the end of the frame by the act. -/
theorem sensorSetStartsTheSensorAfresh : Obligations.SensorSetStartsTheSensorAfresh := by
  intro r s
  refine ⟨deniedToArms_of_cellLink rfl, fun hc => ⟨fun hsel => ?_, fun i hi =>
    ⟨fun code hcode => ?_, fun hnone x hx => ?_⟩⟩⟩
  · exact congrArg _ (handleRequest_cell_of_refuse hc (sensorSet_badSelector hsel))
  · exact congrArg _ (handleRequest_cell_of_refuse hc (sensorSet_of_refusal hi hcode))
  · have taken := sensorSet_of_taken (s := acceptFrame .cell s) hi hx hnone
    refine congrArg _ (handleRequest_cell_of_okay hc ?_ (taken.trans ?_))
    · split <;> rfl
    · rw [apply_ite (acceptFrame .cell)]; rfl

end Sys2Proof.Machine
end

section
/-! PROOFS. SEQ_LIST_SET, SENSOR_UNLOCK and TEMP_SET (R5, R18, R22). -/

namespace Sys2Proof.Machine

/-! ### The entries that SEQ_LIST_SET gives -/

/-- The bytes of a word from its value, least significant first. -/
theorem bytes_of_word (w : Word) :
    [byteOf w 0, byteOf w 1, byteOf w 2, byteOf w 3] =
      [w.toNat % 256, w.toNat / 256 % 256, w.toNat / 65536 % 256, w.toNat / 16777216] := by
  have top : w.toNat / 16777216 % 256 = w.toNat / 16777216 := Nat.mod_eq_of_lt (by omega)
  simp [byteOf_eq, top]

/-- The entry bytes are the twelve bytes of the data words in order (R5). -/
theorem entryBytes_eq (r : Request) :
    entryBytes r = [r.d0, r.d1, r.d2].flatMap fun w =>
      [w.toNat % 256, w.toNat / 256 % 256, w.toNat / 65536 % 256, w.toNat / 16777216] := by
  simp only [List.flatMap_cons, List.flatMap_nil, ← bytes_of_word]; rfl

/-- A byte above 15 names no sensor, so the entries are refused (R5). -/
theorem sensorNumbers_eq_none {bs : List Nat} (h : ∃ b ∈ bs, 15 < b) : sensorNumbers bs = none := by
  induction bs with
  | nil => simp at h
  | cons b bs ih =>
    by_cases hb : 15 < b
    · simp [sensorNumbers, indexOf, show ¬ b < 16 by omega]
    · have rest : ∃ c ∈ bs, 15 < c := by simpa [hb] using h
      simp [sensorNumbers, ih rest]

/-- Bytes up to 15 are the sensors of their numbers (R5). -/
theorem sensorNumbers_eq_some {bs : List Nat} (h : ¬ ∃ b ∈ bs, 15 < b) :
    sensorNumbers bs = some (bs.map (Fin.ofNat 16)) := by
  induction bs with
  | nil => rfl
  | cons b bs ih =>
    simp only [List.mem_cons, exists_eq_or_imp, not_or] at h
    have hb : b < 16 := by omega
    simp [sensorNumbers, ih h.2, indexOf, hb, Fin.ofNat, Nat.mod_eq_of_lt hb]

/-! ### The acts -/

/-- SEQ_LIST_SET by its checks in order (R5). -/
theorem seqListSet_eq (r : Request) (s : State) :
    seqListSet r s =
      if s.temp.seq.state ≠ .stopped then refuse .busy s
      else if s.temp.seq.list.length < r.sel.toNat ∨ (∃ b ∈ givenEntries r, 15 < b) ∨
          24 < r.sel.toNat + (givenEntries r).length ∨ r.sel.toNat + (givenEntries r).length = 0 then
        refuse .outOfRange s
      else okay (s.setSeq { s.temp.seq with
        list := s.temp.seq.list.take r.sel.toNat ++ (givenEntries r).map (Fin.ofNat 16) }) := by
  by_cases h : ∃ b ∈ givenEntries r, 15 < b
  · simp only [seqListSet, sensorNumbers_eq_none h, h, true_or, or_true, if_true]
  · simp only [seqListSet, sensorNumbers_eq_some h, h, false_or, List.length_map]

theorem sensorUnlock_badSelector {r : Request} {s : State} (h : 16 ≤ r.sel.toNat) :
    sensorUnlock r s = refuse .badSelector s := by
  simp [sensorUnlock, indexOf_eq_none h]

theorem sensorUnlock_of_sensor {r : Request} {s : State} {i : Fin 16} (hi : i.val = r.sel.toNat) :
    sensorUnlock r s =
      if (vget s.temp.sensors i).state ≠ .lockedOut then refuse .state s
      else okay (raiseSensor i (s.setSensor i { vget s.temp.sensors i with
        state := .waiting, history := [], nonGoodRun := 0, goodRun := 0, leftValid := none })) := by
  simp only [sensorUnlock, indexOf_eq_some hi]

/-! ### The requests on the Cell link -/

/-- SEQ_LIST_SET on the Cell link (R5). -/
theorem exec_seqListSet {r : Request} {s : State} (hc : onCell r s) :
    exec (.seqListSet r) s = .next (
      if s.temp.seq.state ≠ .stopped then refusedOnCell .busy s
      else if s.temp.seq.list.length < r.sel.toNat ∨ (∃ b ∈ givenEntries r, 15 < b) ∨
          24 < r.sel.toNat + (givenEntries r).length ∨ r.sel.toNat + (givenEntries r).length = 0 then
        refusedOnCell .outOfRange s
      else answered .cell { code := .ok, d0 := 0, d1 := 0, d2 := 0 } (s.setSeq { s.temp.seq with
        list := s.temp.seq.list.take r.sel.toNat ++ (givenEntries r).map (Fin.ofNat 16) })) := by
  refine congrArg Host.Outcome.next ?_
  have act := seqListSet_eq r (acceptFrame .cell s)
  rw [acceptFrame_temp] at act
  split_ifs at act ⊢
  · exact handleRequest_cell_of_refuse hc act
  · exact handleRequest_cell_of_refuse hc act
  · exact handleRequest_cell_of_okay hc rfl act

/-- SENSOR_UNLOCK of a sensor on the Cell link (R18). -/
theorem exec_sensorUnlock {r : Request} {s : State} {i : Fin 16} (hc : onCell r s) (hi : i.val = r.sel.toNat) :
    exec (.sensorUnlock r) s = .next (
      if (vget s.temp.sensors i).state ≠ .lockedOut then refusedOnCell .state s
      else answered .cell { code := .ok, d0 := 0, d1 := 0, d2 := 0 } (raiseSensor i (s.setSensor i
        { vget s.temp.sensors i with
          state := .waiting, history := [], nonGoodRun := 0, goodRun := 0, leftValid := none }))) := by
  refine congrArg Host.Outcome.next ?_
  have act := sensorUnlock_of_sensor (s := acceptFrame .cell s) hi
  rw [acceptFrame_temp] at act
  split_ifs at act ⊢
  · exact handleRequest_cell_of_refuse hc act
  · exact handleRequest_cell_of_okay hc rfl act

/-- TEMP_SET on the Cell link (R22). -/
theorem exec_tempSet {r : Request} {s : State} (hc : onCell r s) :
    exec (.tempSet r) s = .next (
      if 600 < r.d0.toNat ∨ 10000 < r.d1.toNat ∨ r.d2.toNat < 1 ∨ 8 < r.d2.toNat then refusedOnCell .outOfRange s
      else answered .cell { code := .ok, d0 := 0, d1 := 0, d2 := 0 }
        { s with temp := { s.temp with hold := r.d0.toNat, spreadLimit := r.d1.toNat, deglitch := r.d2.toNat } }) := by
  refine congrArg Host.Outcome.next ?_
  split_ifs with range
  · exact handleRequest_cell_of_refuse hc (if_pos range)
  · exact handleRequest_cell_of_okay hc rfl (if_neg range)

/-- Settles O14: the three requests on the Cell link, with the entry bytes written out. -/
theorem listUnlockAndSettingsAreWritten : Obligations.ListUnlockAndSettingsAreWritten := by
  refine ⟨fun r s => ⟨deniedToArms_of_cellLink rfl, fun hc => ?_⟩, fun r s =>
    ⟨deniedToArms_of_cellLink rfl, deniedToArms_of_cellLink rfl, fun hc => ⟨fun hsel => ?_, fun i hi => ?_, ?_⟩⟩⟩
  · dsimp only
    rw [← entryBytes_eq]
    exact exec_seqListSet hc
  · exact congrArg _ (handleRequest_cell_of_refuse hc (sensorUnlock_badSelector hsel))
  · exact exec_sensorUnlock hc hi
  · exact exec_tempSet hc

end Sys2Proof.Machine
end

section
/-! PROOFS. SEQ_START, SEQ_STOP and CONVERT_ONE in every sequencer state (R7, R10, R11). -/

namespace Sys2Proof.Machine

/-! ### The first convertible entry -/

/-- The entry that a round goes on with is the first from its position on whose sensor is not UNUSED (R8). -/
theorem nextEntry_of_first {s : State} {list pre post : List (Fin 16)} {k : Nat} {i : Fin 16}
    (hlist : list.drop k = pre ++ i :: post) (hi : convertible s i = true)
    (hpre : ∀ j ∈ pre, convertible s j = false) : nextEntry s list k = some (k + pre.length, i) := by
  have passed : ((pre.zipIdx k).findSome? fun e => if convertible s e.1 then some (e.2, e.1) else none) = none := by
    refine List.findSome?_eq_none_iff.mpr fun e he => ?_
    rw [hpre e.1 (List.fst_mem_of_mem_zipIdx he)]; rfl
  rw [nextEntry, hlist, List.zipIdx_append, List.findSome?_append, passed]
  simp [hi, Nat.add_comm]

theorem convertible_iff (s : State) (i : Fin 16) :
    convertible s i = true ↔ (vget s.temp.sensors i).role ≠ .unused := by simp [convertible]

/-! ### SEQ_START -/

/-- The first check that a SEQ_START fails (R7). -/
def seqStartRefusal (r : Request) (s : State) : Option ResultCode :=
  let q := s.temp.seq
  if q.state = .running then some .state
  else if q.state = .stopping ∨ q.state = .single then some .busy
  else if r.d0.toNat ≠ 0 ∧ (r.d0.toNat < 100 ∨ 10000 < r.d0.toNat) then some .outOfRange
  else if ∀ i ∈ q.list, (vget s.temp.sensors i).role = .unused then some .notReady
  else none

/-- SEQ_START by the sequencer's state and its checks in order (R7). -/
theorem seqStart_eq (r : Request) (s : State) :
    seqStart r s = (seqStartRefusal r s).elim
      (okay (s.setSeq (startRound s { s.temp.seq with state := .running, period := r.d0.toNat, position := 0 })))
      fun code => refuse code s := by
  have any : ¬ s.temp.seq.list.any (convertible s) = true ↔
      ∀ i ∈ s.temp.seq.list, (vget s.temp.sensors i).role = .unused := by simp [convertible]
  cases hq : s.temp.seq.state
  case stopped =>
    simp only [seqStart, seqStartRefusal, hq, any, reduceCtorEq, or_self, if_false]
    split_ifs <;> rfl
  all_goals simp [seqStart, seqStartRefusal, hq]

theorem seqStart_of_refusal {r : Request} {s : State} {code : ResultCode} (h : seqStartRefusal r s = some code) :
    seqStart r s = refuse code s := by rw [seqStart_eq, h]; rfl

/-- A SEQ_START that passes its checks starts the first round at the first convertible entry (R7, R8). -/
theorem seqStart_of_taken {r : Request} {s : State} {n : Nat} (h : seqStartRefusal r s = none)
    (hn : n < s.temp.seq.list.length) (hused : (vget s.temp.sensors s.temp.seq.list[n]).role ≠ .unused)
    (hfirst : ∀ i ∈ s.temp.seq.list.take n, (vget s.temp.sensors i).role = .unused) :
    seqStart r s = okay (s.setSeq { s.temp.seq with
      state := .running, period := r.d0.toNat, position := n, expired := false
      roundTimer := if r.d0 = 0 then none else some ⟨s.cellTime, r.d0.toNat⟩
      inFlight := some ⟨s.temp.seq.list[n], .list, s.cellTime⟩, inRound := true }) := by
  have entries : s.temp.seq.list.drop 0 = s.temp.seq.list.take n ++ s.temp.seq.list[n] :: s.temp.seq.list.drop (n + 1) := by
    simp
  have first : nextEntry s s.temp.seq.list 0 = some (n, s.temp.seq.list[n]) := by
    rw [nextEntry_of_first entries ((convertible_iff ..).mpr hused) fun j hj => by simp [convertible, hfirst j hj]]
    simp [hn.le]
  have period : r.d0.toNat = 0 ↔ r.d0 = 0 := BitVec.toNat_inj (y := 0)
  rw [seqStart_eq, h]
  simp [startRound, first, period, State.timer, State.conversion]

/-! ### SEQ_STOP and CONVERT_ONE -/

/-- SEQ_STOP acts in RUNNING alone: at once between rounds, after the conversion in flight otherwise (R10). -/
theorem seqStop_eq (s : State) :
    seqStop s = okay (
      if s.temp.seq.state = .running then
        if s.temp.seq.inFlight = none then s.setSeq { s.temp.seq with
          state := .stopped, position := 0, roundTimer := none, expired := false, inRound := false }
        else s.setSeq { s.temp.seq with state := .stopping, roundTimer := none, expired := false }
      else s) := by
  cases hq : s.temp.seq.state
  case running => cases hf : s.temp.seq.inFlight <;> simp [seqStop, stopSequencer, hq, hf]
  all_goals simp [seqStop, hq]

theorem convertOne_badSelector {r : Request} {s : State} (h : 16 ≤ r.sel.toNat) :
    convertOne r s = refuse .badSelector s := by
  simp [convertOne, indexOf_eq_none h]

/-- CONVERT_ONE by Table 1.5 (R11). -/
theorem convertOne_of_sensor {r : Request} {s : State} {i : Fin 16} (hi : i.val = r.sel.toNat) :
    convertOne r s =
      let q := s.temp.seq
      let started : Sequencer := { q with inFlight := some ⟨i, .single, s.cellTime⟩ }
      if (vget s.temp.sensors i).role = .unused then refuse .state s
      else if q.state = .stopped then okay (s.setSeq { started with state := .single })
      else if q.state = .running ∧ q.inFlight = none then okay (s.setSeq started)
      else if q.state = .running ∧ q.pendingSingle = none then okay (s.setSeq { q with pendingSingle := some i }) 1
      else refuse .busy s := by
  by_cases hrole : (vget s.temp.sensors i).role = .unused
  · simp [convertOne, indexOf_eq_some hi, convertible, hrole]
  · cases hq : s.temp.seq.state
    case running =>
      cases hf : s.temp.seq.inFlight <;> cases hp : s.temp.seq.pendingSingle <;>
        simp [convertOne, indexOf_eq_some hi, convertible, State.conversion, hrole, hq, hf, hp]
    all_goals simp [convertOne, indexOf_eq_some hi, convertible, State.conversion, hrole, hq]

/-! ### The requests on the Cell link -/

/-- SEQ_STOP on the Cell link (R10). -/
theorem exec_seqStop {r : Request} {s : State} (hc : onCell r s) :
    exec (.seqStop r) s = .next (answered .cell { code := .ok, d0 := 0, d1 := 0, d2 := 0 }
      (if s.temp.seq.state = .running then
        if s.temp.seq.inFlight = none then s.setSeq { s.temp.seq with
          state := .stopped, position := 0, roundTimer := none, expired := false, inRound := false }
        else s.setSeq { s.temp.seq with state := .stopping, roundTimer := none, expired := false }
      else s)) := by
  have act := seqStop_eq (acceptFrame .cell s)
  rw [acceptFrame_temp] at act
  refine congrArg Host.Outcome.next (handleRequest_cell_of_okay hc ?_ (act.trans ?_))
  · split_ifs <;> rfl
  · split_ifs <;> rfl

/-- CONVERT_ONE of a sensor on the Cell link (R11). -/
theorem exec_convertOne {r : Request} {s : State} {i : Fin 16} (hc : onCell r s) (hi : i.val = r.sel.toNat) :
    let q := s.temp.seq
    let took (d0 : Word) (q1 : Sequencer) : State :=
      answered .cell { code := .ok, d0 := d0, d1 := 0, d2 := 0 } (s.setSeq q1)
    let started : Sequencer := { q with inFlight := some ⟨i, .single, s.cellTime⟩ }
    exec (.convertOne r) s = .next (
      if (vget s.temp.sensors i).role = .unused then refusedOnCell .state s
      else if q.state = .stopped then took 0 { started with state := .single }
      else if q.state = .running ∧ q.inFlight = none then took 0 started
      else if q.state = .running ∧ q.pendingSingle = none then took 1 { q with pendingSingle := some i }
      else refusedOnCell .busy s) := by
  refine congrArg Host.Outcome.next ?_
  have act := convertOne_of_sensor (s := acceptFrame .cell s) hi
  simp only [acceptFrame_temp, acceptFrame_cellTime] at act
  split_ifs at act ⊢
  · exact handleRequest_cell_of_refuse hc act
  · exact handleRequest_cell_of_okay hc rfl act
  · exact handleRequest_cell_of_okay hc rfl act
  · exact handleRequest_cell_of_okay hc rfl act
  · exact handleRequest_cell_of_refuse hc act

/-- Settles O15: each request by its equation, SEQ_START by the first failing check or the first convertible entry. -/
theorem sequencerRequestsStartStopAndConvert : Obligations.SequencerRequestsStartStopAndConvert := by
  refine ⟨fun r s => ⟨deniedToArms_of_cellLink rfl, fun hc =>
      ⟨fun code hcode => ?_, fun hnone n hn hused hfirst => ?_⟩⟩,
    fun r s hc => exec_seqStop hc,
    fun r s => ⟨deniedToArms_of_cellLink rfl, fun hc => ⟨fun hsel => ?_, fun i hi => ?_⟩⟩⟩
  · exact congrArg _ (handleRequest_cell_of_refuse hc (seqStart_of_refusal (s := acceptFrame .cell s) hcode))
  · exact congrArg Host.Outcome.next (handleRequest_cell_of_okay hc rfl
      (seqStart_of_taken (s := acceptFrame .cell s) hnone hn hused hfirst))
  · exact congrArg _ (handleRequest_cell_of_refuse hc (convertOne_badSelector hsel))
  · exact exec_convertOne hc hi

end Sys2Proof.Machine
end

section
/-! PROOFS. The group values of the VALID sensors of a role (R21, Table 1.8). -/

namespace Sys2Proof.Machine

/-- The sensor has the role and is VALID (R21). -/
def validIn (s : State) (role : Role) (i : Fin 16) : Bool :=
  decide ((vget s.temp.sensors i).role = role ∧ (vget s.temp.sensors i).state = .valid)

/-- The VALID sensors of a role. -/
def validSet (s : State) (role : Role) : Finset (Fin 16) := Finset.univ.filter fun i => validIn s role i = true

/-! ### The list of temperatures and the set of sensors -/

theorem validTfs_eq (s : State) (role : Role) :
    validTfs s role = ((List.finRange 16).filter (validIn s role)).map fun i => (vget s.temp.sensors i).tf := by
  unfold validTfs
  induction List.finRange 16 with
  | nil => rfl
  | cons i l ih =>
    by_cases h : (vget s.temp.sensors i).role = role ∧ (vget s.temp.sensors i).state = .valid <;>
      simp [validIn, h, ih]

theorem mem_validTfs {s : State} {role : Role} {t : Int} :
    t ∈ validTfs s role ↔ ∃ i, validIn s role i = true ∧ (vget s.temp.sensors i).tf = t := by
  simp [validTfs_eq]

theorem validSet_eq (s : State) (role : Role) :
    validSet s role = ((List.finRange 16).filter (validIn s role)).toFinset := by
  ext i; simp [validSet]

theorem nodup_valid (s : State) (role : Role) : ((List.finRange 16).filter (validIn s role)).Nodup :=
  (List.nodup_finRange 16).filter _

/-- The list holds one temperature for each VALID sensor of the role. -/
theorem length_validTfs (s : State) (role : Role) : (validTfs s role).length = (validSet s role).card := by
  rw [validTfs_eq, List.length_map, validSet_eq, List.toFinset_card_of_nodup (nodup_valid s role)]

/-- The temperatures of the list add up to those of the VALID sensors of the role. -/
theorem sum_validTfs (s : State) (role : Role) :
    (validTfs s role).sum = ∑ i ∈ validSet s role, (vget s.temp.sensors i).tf := by
  rw [validTfs_eq, validSet_eq, List.sum_toFinset _ (nodup_valid s role)]

theorem validTfs_eq_nil {s : State} {role : Role} : validTfs s role = [] ↔ (validSet s role).card = 0 := by
  rw [← length_validTfs, List.length_eq_zero_iff]

/-! ### Mean, spread and rack reading -/

/-- The mean of a role is the rounded quotient of the sum by the count, absent at count 0 (R21). -/
theorem meanOf_validTfs (s : State) (role : Role) :
    meanOf (validTfs s role) = if (validSet s role).card = 0 then none
      else some (roundDiv (∑ i ∈ validSet s role, (vget s.temp.sensors i).tf) (validSet s role).card) := by
  simp only [meanOf, List.isEmpty_iff, validTfs_eq_nil, sum_validTfs, length_validTfs]

theorem spreadOf_eq_none {ts : List Int} : spreadOf ts = none ↔ ts = [] := by
  cases ts <;> simp [spreadOf]

/-- The spread is the difference of the largest and the smallest temperature (Table 1.8). -/
theorem spreadOf_eq_some {ts : List Int} {hi lo : Int} (hhi : hi ∈ ts) (hlo : lo ∈ ts)
    (h : ∀ t ∈ ts, lo ≤ t ∧ t ≤ hi) : spreadOf ts = some (hi - lo) := by
  have largest : ts.max? = some hi := List.max?_eq_some_iff.mpr ⟨hhi, fun t ht => (h t ht).2⟩
  have smallest : ts.min? = some lo := List.min?_eq_some_iff.mpr ⟨hlo, fun t ht => (h t ht).1⟩
  cases ts with
  | nil => simp at hhi
  | cons t ts =>
    rw [List.max?_cons', Option.some_inj] at largest
    rw [List.min?_cons', Option.some_inj] at smallest
    rw [spreadOf, largest, smallest]

/-- A VALID sensor that alone has role RACK gives the rack temperature (Table 1.8). -/
theorem rackReading_of_sensor {s : State} {i : Fin 16} (hi : validIn s .rack i = true)
    (hone : ∀ j : Fin 16, (vget s.temp.sensors j).role = .rack → j = i) :
    rackReading s = (some (vget s.temp.sensors i).tf, .sensor) := by
  have only : ∀ t ∈ validTfs s .rack, t = (vget s.temp.sensors i).tf := by
    intro t ht
    obtain ⟨j, hj, rfl⟩ := mem_validTfs.mp ht
    rw [hone j (of_decide_eq_true hj).1]
  have some_valid : (vget s.temp.sensors i).tf ∈ validTfs s .rack := mem_validTfs.mpr ⟨i, hi, rfl⟩
  cases h : validTfs s .rack with
  | nil => simp [h] at some_valid
  | cons t ts => simp [rackReading, h, only t (by simp [h])]

/-- With no VALID sensor of role RACK the air mean stands for the rack temperature (Table 1.8). -/
theorem rackReading_of_air {s : State} (h : (validSet s .rack).card = 0) :
    rackReading s = (airMean s, if (validSet s .air).card = 0 then .none else .air) := by
  rw [rackReading, validTfs_eq_nil.mpr h, airMean, meanOf_validTfs]
  split_ifs <;> rfl

/-- Settles O18: each group value by the set of the VALID sensors of its role. -/
theorem groupValuesAreOfValidSensors : Obligations.GroupValuesAreOfValidSensors := by
  intro s
  refine ⟨meanOf_validTfs s .workpiece, meanOf_validTfs s .air, length_validTfs s .workpiece,
    spreadOf_eq_none.trans validTfs_eq_nil, fun i j hi hj hbounds => ?_, fun i hi hone => rackReading_of_sensor hi hone,
    fun h => ?_⟩
  · refine spreadOf_eq_some (mem_validTfs.mpr ⟨i, hi, rfl⟩) (mem_validTfs.mpr ⟨j, hj, rfl⟩) fun t ht => ?_
    obtain ⟨k, hk, rfl⟩ := mem_validTfs.mp ht
    exact hbounds k hk
  · exact (rackReading_of_air h).trans (congrArg (·, _) (meanOf_validTfs s .air))

end Sys2Proof.Machine
end

section
/-! PROOFS. The completion of a conversion: the class of the converter code, the judgement of the sample and what the
event leaves (R6, R13 to R18, R20). -/

namespace Sys2Proof.Machine

/-! ### Frame clauses -/

theorem Block.same_trans {s t u : State} {b : Block} (h1 : b.same s t) (h2 : b.same t u) : b.same s u := by
  cases b <;> simp_all [Block.same]

/-- What two events in a row both leave alone is left alone. -/
theorem unchangedBut_trans {l : List Block} {s t u : State} (h1 : unchangedBut l s t) (h2 : unchangedBut l t u) :
    unchangedBut l s u := fun b hb => Block.same_trans (h1 b hb) (h2 b hb)

/-- A frame clause holds with more blocks named. -/
theorem unchangedBut_mono {l l' : List Block} {s t : State} (hl : l ⊆ l') (h : unchangedBut l s t) :
    unchangedBut l' s t := fun b hb => h b fun hm => hb (hl hm)

theorem setSensor_unchangedBut (s : State) (i : Fin 16) (x : Sensor) : unchangedBut [.sensors] s (s.setSensor i x) := by
  intro b hb; cases b <;> simp_all [Block.same]

theorem setSeq_unchangedBut (s : State) (q : Sequencer) : unchangedBut [.sequencer] s (s.setSeq q) := by
  intro b hb; cases b <;> simp_all [Block.same]

theorem raiseSensor_unchangedBut (s : State) (i : Fin 16) : unchangedBut [.sensorSource] s (raiseSensor i s) := by
  intro b hb; cases b <;> simp_all [Block.same]

/-! ### Rounding and the class of a code (Table 1.6) -/

/-- The remainder of a rounded quotient: at most half the divisor, with a half rounded away from zero. -/
theorem roundDiv_remainder (num : Int) {den : Int} (h : 0 < den) :
    ∃ m, 0 ≤ m ∧ m < 2 * den ∧ (0 ≤ num → 2 * (roundDiv num den * den) = 2 * num + den - m) ∧
      (num < 0 → 2 * (roundDiv num den * den) = 2 * num - den + m) := by
  have divided (a : Int) : 2 * (a / (2 * den) * den) = a - a % (2 * den) := by
    have := Int.mul_ediv_add_emod a (2 * den)
    linear_combination this
  by_cases hnum : 0 ≤ num
  · refine ⟨(2 * num + den) % (2 * den), Int.emod_nonneg _ (by omega), Int.emod_lt_of_pos _ (by omega),
      fun _ => ?_, fun hneg => absurd hnum (by omega)⟩
    rw [roundDiv, if_pos hnum, divided]
  · refine ⟨(2 * -num + den) % (2 * den), Int.emod_nonneg _ (by omega), Int.emod_lt_of_pos _ (by omega),
      fun hpos => absurd hpos hnum, fun _ => ?_⟩
    rw [roundDiv, if_neg hnum]
    linear_combination -divided (2 * -num + den)

/-- A rounded quotient is the nearest integer, halves away from zero (Conventions). -/
theorem roundDiv_nearest (num : Int) {den : Int} (h : 0 < den) :
    2 * (num - roundDiv num den * den).natAbs ≤ den.natAbs ∧
      (2 * (num - roundDiv num den * den).natAbs = den.natAbs → num.natAbs < (roundDiv num den * den).natAbs) := by
  obtain ⟨m, hm0, hm, hpos, hneg⟩ := roundDiv_remainder num h
  generalize roundDiv num den * den = p at *
  omega

/-- The class and the computed T of a code, by the rows of Table 1.6 in order (R13). -/
theorem classify_rows (c0 k code : Half) :
    let t := roundDiv (((code.toNat : Int) - (c0.toNat : Int)) * (k.toNat : Int)) 256
    (classify c0 k code).1 = (if 65000 ≤ code.toNat then .openLead else if code.toNat ≤ 500 then .short
      else if t < -20000 ∨ 60000 < t then .range else .good) ∧
    ((classify c0 k code).1 = .good → (classify c0 k code).2 = t ∧ -20000 ≤ t ∧ t ≤ 60000) := by
  intro t
  by_cases lead : 65000 ≤ code.toNat
  · simp [classify, lead]
  by_cases short : code.toNat ≤ 500
  · simp [classify, lead, short]
  by_cases low : t < -20000
  · simp [classify, minTemp, lead, short, t, low]
  by_cases high : 60000 < t
  · simp [classify, minTemp, maxTemp, lead, short, t, low, high]
  · simp only [classify, minTemp, maxTemp, lead, short, t, low, high, if_false, or_self, true_and]
    exact fun _ => ⟨by omega, by omega⟩

/-! ### The judgement of a sample (Table 1.7) -/

@[simp] theorem recordSample_state (code : Half) (x : Sensor) : (recordSample code x).state = x.state := rfl
@[simp] theorem recordSample_tf (code : Half) (x : Sensor) : (recordSample code x).tf = x.tf := rfl
@[simp] theorem recordSample_n (code : Half) (x : Sensor) : (recordSample code x).n = x.n := rfl
@[simp] theorem recordSample_leftValid (code : Half) (x : Sensor) : (recordSample code x).leftValid = x.leftValid := rfl
@[simp] theorem recordSample_goodRun (code : Half) (x : Sensor) : (recordSample code x).goodRun = x.goodRun := rfl
@[simp] theorem recordSample_nonGoodRun (code : Half) (x : Sensor) :
    (recordSample code x).nonGoodRun = x.nonGoodRun := rfl

/-- The record of a sensor that enters FAILED: its ordinal joins the history, and the sixth failure locks it out (R16). -/
def failedRecord (x : Sensor) (leftValid : Option Word) : Sensor :=
  { x with history := x.history ++ [x.ordinal], nonGoodRun := 0, goodRun := 0, leftValid := leftValid
           state := if 5 ≤ x.history.length then .lockedOut else .failed }

theorem countNonGood_eq (d run : Nat) (x : Sensor) :
    countNonGood d run x = if d ≤ run then failedRecord x x.leftValid else { x with nonGoodRun := run } := by
  simp [countNonGood, enterFailed, failedRecord]

/-- The record after a completion, by the state before it (Table 1.7). -/
def judgedRecord (d : Nat) (now : Word) (code : Half) (x : Sensor) : Sensor :=
  let good := (classify x.c0 x.k code).1 = .good
  let t := (classify x.c0 x.k code).2
  let seen := recordSample code x
  let filtered := x.tf + roundDiv (t - x.tf) (2 ^ x.n.toNat)
  match x.state with
  | .off => seen
  | .waiting =>
    if good then { seen with tf := t, nonGoodRun := 0, state := .valid }
    else if d ≤ x.nonGoodRun + 1 then failedRecord seen x.leftValid else { seen with nonGoodRun := x.nonGoodRun + 1 }
  | .valid =>
    if good then { seen with tf := filtered }
    else if d ≤ 1 then failedRecord seen (some now)
    else { seen with state := .suspect, nonGoodRun := 1, leftValid := some now }
  | .suspect =>
    if good then { seen with tf := filtered, nonGoodRun := 0, leftValid := none, state := .valid }
    else if d ≤ x.nonGoodRun + 1 then failedRecord seen x.leftValid else { seen with nonGoodRun := x.nonGoodRun + 1 }
  | .failed =>
    if good then
      if d ≤ x.goodRun + 1 then { seen with tf := t, goodRun := 0, nonGoodRun := 0, leftValid := none, state := .valid }
      else { seen with goodRun := x.goodRun + 1 }
    else { seen with goodRun := 0 }
  | .lockedOut => seen

/-- The judgement of a recorded sample is Table 1.7, state by state. -/
theorem completeSample_eq (d : Nat) (now : Word) (code : Half) (x : Sensor) :
    completeSample d now code x = judgedRecord d now code x := by
  simp only [completeSample, judgeSample, judgedRecord, recordSample_state, recordSample_goodRun,
    recordSample_nonGoodRun, countNonGood_eq, filterStep, recordSample_tf, recordSample_n, decide_eq_true_eq]
  cases x.state
  case valid => split_ifs <;> rfl
  case off | waiting | suspect | failed | lockedOut => rfl

/-! ### The event -/

/-- A conversion 4 ms in flight completes (R6). -/
theorem exec_conversionCompletion_of_due {code : Half} {s : State} {c : Conversion}
    (hf : s.temp.seq.inFlight = some c) (hr : s.resetHeld = false) (hage : 4 ≤ (s.cellTime - c.start).toNat) :
    exec (.conversionCompletion code) s = .next (completeConversion code c s) := by
  have due : conversionDue s = true := by
    simp only [conversionDue, hf, State.reached, hr, State.age, conversionMs, hage, decide_true, Bool.not_false,
      Bool.and_self]
  show execConversionCompletion code s = _
  simp [execConversionCompletion, hf, due]

/-- The completion gives the judged record to its sensor alone. -/
theorem vget_completeConversion (code : Half) (c : Conversion) (s : State) (i : Fin 16) :
    vget (completeConversion code c s).temp.sensors i =
      if i = c.sensor then completeSample s.temp.deglitch s.cellTime code (vget s.temp.sensors c.sensor)
      else vget s.temp.sensors i := by
  unfold completeConversion
  dsimp only
  split_ifs <;> simp [*]

/-- A single conversion and a reported change of state raise SENSOR attention (R12, R20). -/
theorem sensorSource_completeConversion (code : Half) (c : Conversion) (s : State) :
    (completeConversion code c s).attn.cell.sensor =
      if c.kind = .single ∨ reportsChange (vget s.temp.sensors c.sensor).state
          (completeSample s.temp.deglitch s.cellTime code (vget s.temp.sensors c.sensor)).state = true then
        s.attn.cell.sensor.raise (addMark · c.sensor.val)
      else s.attn.cell.sensor := by
  unfold completeConversion
  dsimp only
  split_ifs <;> rfl

/-- A completion moves no block but the sensors, the sequencer and the SENSOR source. -/
theorem completeConversion_unchangedBut (code : Half) (c : Conversion) (s : State) :
    unchangedBut [.sensors, .sequencer, .sensorSource] s (completeConversion code c s) := by
  have sensors (x : Sensor) := unchangedBut_mono (l' := [.sensors, .sequencer, .sensorSource]) (by simp)
    (setSensor_unchangedBut s c.sensor x)
  have source (t : State) := unchangedBut_mono (l' := [.sensors, .sequencer, .sensorSource]) (by simp)
    (raiseSensor_unchangedBut t c.sensor)
  have seq (t : State) (q : Sequencer) := unchangedBut_mono (l' := [.sensors, .sequencer, .sensorSource]) (by simp)
    (setSeq_unchangedBut t q)
  unfold completeConversion
  dsimp only
  split_ifs
  · exact unchangedBut_trans (sensors _) (unchangedBut_trans (source _) (seq _ _))
  · exact unchangedBut_trans (sensors _) (seq _ _)

/-- Settles O16: the rounding and the rows of Table 1.6, then the event by what it leaves in each record. -/
theorem completionClassifiesAndJudgesTheSample : Obligations.CompletionClassifiesAndJudgesTheSample := by
  refine ⟨⟨fun num den h => roundDiv_nearest num h, classify_rows⟩, fun code s c hf hr hage => ?_⟩
  intro x _ good t d seen failed filtered judged
  have hjudged : completeSample d s.cellTime code x = judged := completeSample_eq ..
  refine ⟨completeConversion code c s, exec_conversionCompletion_of_due hf hr hage, ?_, fun i hi => ?_, ?_,
    completeConversion_unchangedBut code c s⟩
  · rw [vget_completeConversion, if_pos rfl]; exact hjudged
  · rw [vget_completeConversion, if_neg hi]
  · rw [← hjudged, sensorSource_completeConversion]
    simp only [reportsChange, decide_eq_true_eq]; rfl

end Sys2Proof.Machine
end

section
/-! PROOFS. MODEL_LOAD, MODEL_REVERT and MODEL_CHECK: the ranges of Table 2.2, the checks of Table 2.3 and what they
write (R28, R29, R30). -/

namespace Sys2Proof.Machine

/-! ### The ranges of Table 2.2 -/

/-- The word lies in the range of field `k` of a scale (Table 2.2), the sensor word as a low byte and the rest. -/
abbrev fieldInRange (k : Nat) (w : Word) : Prop :=
  (k = 0 ∧ w.toNat ≤ 30000) ∨
  (k = 1 ∧ w.toNat % 256 ≤ 15 ∧ (w.toNat / 256 ≤ 15 ∨ w.toNat / 256 = 255)) ∨
  (k = 2 ∧ -2000000000 ≤ w.toInt ∧ w.toInt ≤ 2000000000) ∨
  (k = 3 ∧ 1 ≤ w.toNat ∧ w.toNat ≤ 100000000) ∨ (k = 4 ∧ 2 ≤ w.toNat ∧ w.toNat ≤ 33) ∨
  (5 ≤ k ∧ -32767 ≤ w.toInt ∧ w.toInt ≤ 32767)

/-- The word lies in the range of the word at index `n` of an image: the format word, the workpiece coefficient, or a
field of one of the six scales (Table 2.2). -/
def wordFits (n : Nat) (w : Word) : Bool := decide (
  n = 0 ∨ (n = 1 ∧ w.toNat ≤ 30000) ∨ ∃ j : Fin 6, ∃ k : Fin 38, n = 2 + 38 * j.val + k.val ∧ fieldInRange k.val w)

/-- The four bytes of a sensor word, the upper two 0, as a low byte and the rest. -/
theorem sensorWord_iff (w : Word) :
    (byteOf w 0 ≤ 15 ∧ (byteOf w 1 ≤ 15 ∨ byteOf w 1 = 255) ∧ byteOf w 2 = 0 ∧ byteOf w 3 = 0) ↔
      w.toNat % 256 ≤ 15 ∧ (w.toNat / 256 ≤ 15 ∨ w.toNat / 256 = 255) := by
  have bound : w.toNat < 4294967296 := w.isLt
  simp only [byteOf_eq]
  omega

theorem inCounts_iff {x : Int} : inCounts x = true ↔ -2000000000 ≤ x ∧ x ≤ 2000000000 := by
  unfold inCounts maxCount; exact decide_eq_true_iff

theorem wordInRange_scaleIndex (j : Fin 6) (k : Fin 38) (w : Word) :
    wordInRange (scaleIndex j k.val) w = true ↔ fieldInRange k.val w := by
  have place : (scaleIndex j k.val - 2) % 38 = k.val := by unfold scaleIndex; omega
  have notHead : scaleIndex j k.val ≠ 0 ∧ scaleIndex j k.val ≠ 1 := by unfold scaleIndex; omega
  simp only [wordInRange, notHead, if_false, place]
  obtain ⟨k, hk⟩ := k
  match k with
  | 0 | 2 | 3 | 4 => simp [fieldInRange, inCounts_iff]
  | 1 => simpa [fieldInRange] using sensorWord_iff w
  | k + 5 => simp [fieldInRange]

/-- An index of an image past its two head words is that of one field of one scale. -/
theorem exists_scaleIndex {n : Nat} (h2 : 2 ≤ n) (h : n < 230) : ∃ (j : Fin 6) (k : Fin 38), n = scaleIndex j k.val :=
  ⟨⟨(n - 2) / 38, by omega⟩, ⟨(n - 2) % 38, by omega⟩, by simp only [scaleIndex]; omega⟩

theorem wordFits_scaleIndex (j : Fin 6) (k : Fin 38) (w : Word) :
    wordFits (scaleIndex j k.val) w = true ↔ fieldInRange k.val w := by
  unfold wordFits scaleIndex
  rw [decide_eq_true_eq]
  constructor
  · rintro (h | ⟨h, -⟩ | ⟨j', k', h, range⟩)
    · omega
    · omega
    · rwa [show k'.val = k.val by omega] at range
  · exact fun range => .inr (.inr ⟨j, k, rfl, range⟩)

/-- Inside an image the two ways to say the range of a word agree. -/
theorem wordInRange_eq_wordFits {n : Nat} (h : n < 230) (w : Word) : wordInRange n w = wordFits n w := by
  by_cases h0 : n = 0
  · simp [wordInRange, wordFits, h0]
  by_cases h1 : n = 1
  · have noField (j : Fin 6) (k : Fin 38) : ¬ 1 = 2 + 38 * j.val + k.val := by omega
    simp [wordInRange, wordFits, h1, noField]
  · obtain ⟨j, k, rfl⟩ := exists_scaleIndex (by omega) h
    rw [Bool.eq_iff_iff, wordInRange_scaleIndex, wordFits_scaleIndex]

/-! ### MODEL_LOAD -/

@[simp] theorem vget_writeWord (im : Image) (n : Nat) (w : Word) (i : Fin 230) :
    vget (writeWord im n w) i = if i.val = n then w else vget im i := by
  unfold writeWord
  split
  · simp [Fin.ext_iff]
  · rw [if_neg (by omega)]

/-- The first check of Table 2.3 that a MODEL_LOAD fails. -/
def modelLoadRefusal (r : Request) (s : State) : Option ResultCode :=
  let first := r.sel.toNat
  let count := r.d0.toNat
  if s.model.check.isSome then some .busy
  else if 229 < first ∨ (count = 2 ∧ 228 < first) then some .badSelector
  else if count ≠ 1 ∧ count ≠ 2 then some .outOfRange
  else if wordFits first r.d1 = false ∨ (count = 2 ∧ wordFits (first + 1) r.d2 = false) then some .outOfRange
  else none

/-- STAGING as a taken MODEL_LOAD leaves it: one word written, or two (R28). -/
def loadedImage (r : Request) (im : Image) : Image := Vector.ofFn fun i =>
  if i.val = r.sel.toNat then r.d1 else if r.d0.toNat = 2 ∧ i.val = r.sel.toNat + 1 then r.d2 else vget im i

theorem writeWord_eq_loadedImage {r : Request} (h : r.d0.toNat = 1) (im : Image) :
    writeWord im r.sel.toNat r.d1 = loadedImage r im :=
  vext fun i => by simp [loadedImage, h]

theorem writeWord_writeWord_eq_loadedImage {r : Request} (h : r.d0.toNat = 2) (im : Image) :
    writeWord (writeWord im r.sel.toNat r.d1) (r.sel.toNat + 1) r.d2 = loadedImage r im := by
  refine vext fun i => ?_
  by_cases low : i.val = r.sel.toNat
  · simp [loadedImage, low]
  · simp [loadedImage, low, h]

/-- The first failing check of Table 2.3 decides, or STAGING is written (R28). -/
theorem modelLoad_eq (r : Request) (s : State) :
    modelLoad r s = (modelLoadRefusal r s).elim (okay (s.setStaging (loadedImage r s.model.staging)))
      fun code => refuse code s := by
  have past : 229 < r.sel.toNat + 1 ↔ 228 < r.sel.toNat := by omega
  simp only [modelLoad, modelLoadRefusal, past]
  by_cases busy : s.model.check.isSome = true
  · rw [if_pos busy, if_pos busy]; rfl
  rw [if_neg busy, if_neg busy]
  by_cases sel : 229 < r.sel.toNat ∨ (r.d0.toNat = 2 ∧ 228 < r.sel.toNat)
  · rw [if_pos sel, if_pos sel]; rfl
  rw [if_neg sel, if_neg sel]
  have first := wordInRange_eq_wordFits (n := r.sel.toNat) (by omega) r.d1
  by_cases one : r.d0.toNat = 1
  · cases fits : wordFits r.sel.toNat r.d1 <;> simp [one, first, fits, writeWord_eq_loadedImage one]
  by_cases two : r.d0.toNat = 2
  · have second := wordInRange_eq_wordFits (n := r.sel.toNat + 1) (by omega) r.d2
    cases fits1 : wordFits r.sel.toNat r.d1 <;> cases fits2 : wordFits (r.sel.toNat + 1) r.d2 <;>
      simp [two, first, second, fits1, fits2, writeWord_writeWord_eq_loadedImage two]
  · simp [one, two]

/-! ### The requests on the Cell link -/

@[simp] theorem modelLoadRefusal_acceptFrame (r : Request) (l : Link) (s : State) :
    modelLoadRefusal r (acceptFrame l s) = modelLoadRefusal r s := by
  simp only [modelLoadRefusal, acceptFrame_model]

theorem acceptFrame_cell_setStaging (s : State) (im : Image) :
    acceptFrame .cell (s.setStaging im) = (acceptFrame .cell s).setStaging im := rfl

/-- MODEL_LOAD on the Cell link, refused by the first check it fails (R28). -/
theorem exec_modelLoad_of_refusal {r : Request} {s : State} {code : ResultCode} (hc : onCell r s)
    (h : modelLoadRefusal r s = some code) : exec (.modelLoad r) s = .next (refusedOnCell code s) := by
  refine congrArg Host.Outcome.next (handleRequest_cell_of_refuse hc ?_)
  rw [modelLoad_eq, modelLoadRefusal_acceptFrame, h]
  rfl

/-- MODEL_LOAD on the Cell link, taken (R28). -/
theorem exec_modelLoad_of_taken {r : Request} {s : State} (hc : onCell r s) (h : modelLoadRefusal r s = none) :
    exec (.modelLoad r) s = .next (answered .cell { code := .ok, d0 := 0, d1 := 0, d2 := 0 }
      (s.setStaging (loadedImage r s.model.staging))) := by
  refine congrArg Host.Outcome.next (handleRequest_cell_of_okay hc (State.setStaging_sup ..) ?_)
  rw [modelLoad_eq, modelLoadRefusal_acceptFrame, h, acceptFrame_cell_setStaging, acceptFrame_model]
  rfl

/-- MODEL_REVERT on the Cell link (R29). -/
theorem exec_modelRevert {r : Request} {s : State} (hc : onCell r s) :
    exec (.modelRevert r) s = .next (
      if s.model.check.isSome then refusedOnCell .busy s
      else answered .cell { code := .ok, d0 := 0, d1 := 0, d2 := 0 }
        (s.setStaging (s.model.active.getD Image.zero))) := by
  refine congrArg Host.Outcome.next ?_
  split_ifs with busy
  · exact handleRequest_cell_of_refuse hc (if_pos busy)
  · exact handleRequest_cell_of_okay hc rfl (if_neg busy)

/-- MODEL_CHECK on the Cell link (R30). -/
theorem exec_modelCheck {r : Request} {s : State} (hc : onCell r s) :
    exec (.modelCheck r) s = .next (
      if s.model.check.isSome then refusedOnCell .busy s
      else answered .cell { code := .ok, d0 := 0, d1 := 0, d2 := 0 }
        { s with model := { s.model with check := some ⟨r.d0, s.cellTime⟩ } }) := by
  refine congrArg Host.Outcome.next ?_
  split_ifs with busy
  · exact handleRequest_cell_of_refuse hc (if_pos busy)
  · exact handleRequest_cell_of_okay hc rfl (if_neg busy)

/-- Settles O20: MODEL_LOAD by its first failing check, and the three requests on the Cell link. -/
theorem stagingIsWrittenThroughItsChecks : Obligations.StagingIsWrittenThroughItsChecks := by
  refine fun r s => ⟨deniedToArms_of_cellLink rfl, deniedToArms_of_cellLink rfl, fun hc => ?_⟩
  intro first count fits refusal
  have hrefusal : refusal = modelLoadRefusal r s := rfl
  rw [hrefusal]
  exact ⟨fun code h => exec_modelLoad_of_refusal hc h, exec_modelLoad_of_taken hc, exec_modelRevert hc,
    exec_modelCheck hc⟩

end Sys2Proof.Machine
end

section
/-! PROOFS. The CRC-32 of the model check: its recurrence, and that a wrong byte is always seen (R35). -/

namespace Sys2Proof.Machine

/-! ### The register -/

theorem crc32Shift_eq (reg : Word) :
    crc32Shift reg = (reg >>> 1) ^^^ (if reg.getLsbD 0 then 0xEDB88320#32 else 0#32) := by
  unfold crc32Shift; split <;> simp

/-- The polynomial's top bit is set, so the bit shifted out stands at the top of the register. -/
theorem crc32Shift_getLsbD_top (reg : Word) : (crc32Shift reg).getLsbD 31 = reg.getLsbD 0 := by
  rw [crc32Shift_eq, BitVec.getLsbD_xor, BitVec.getLsbD_ushiftRight]
  cases reg.getLsbD 0 <;> simp

/-- No shift of the register loses anything: the lowest bit stands at the top, and the others are shifted. -/
theorem crc32Shift_injective : Function.Injective crc32Shift := by
  intro x y h
  have low : x.getLsbD 0 = y.getLsbD 0 := by rw [← crc32Shift_getLsbD_top, h, crc32Shift_getLsbD_top]
  have high : x >>> 1 = y >>> 1 := by
    rwa [crc32Shift_eq, crc32Shift_eq, low, BitVec.xor_left_inj] at h
  refine BitVec.eq_of_getLsbD_eq fun i _ => ?_
  cases i with
  | zero => exact low
  | succ i => simpa [Nat.add_comm] using congrArg (·.getLsbD i) high

theorem repeat_injective {α : Type} {f : α → α} (hf : Function.Injective f) (n : Nat) :
    Function.Injective (Nat.repeat f n) := by
  induction n with
  | zero => exact Function.injective_id
  | succ n ih => exact hf.comp ih

/-- The same byte combined into two registers leaves them different. -/
theorem crc32Byte_injective (b : Byte) : Function.Injective (crc32Byte · b) := fun x y h => by
  simpa using repeat_injective crc32Shift_injective 8 h

/-- Two bytes combined into the same register leave it different. -/
theorem crc32Byte_injective_byte (reg : Word) : Function.Injective (crc32Byte reg) := fun b c h => by
  have wide : b.setWidth 32 = c.setWidth 32 := by simpa using repeat_injective crc32Shift_injective 8 h
  simpa using congrArg (BitVec.setWidth 8) wide

theorem foldl_crc32Byte_injective (bytes : List Byte) : Function.Injective (bytes.foldl crc32Byte) := by
  induction bytes with
  | nil => exact Function.injective_id
  | cons b bytes ih => exact ih.comp (crc32Byte_injective b)

/-! ### The CRC-32 of a run of bytes -/

/-- The register before the final exclusive-or. -/
theorem crc32_xor (bytes : List Byte) : crc32 bytes ^^^ 0xFFFFFFFF#32 = bytes.foldl crc32Byte 0xFFFFFFFF#32 := by
  rw [crc32, BitVec.xor_assoc, BitVec.xor_self, BitVec.xor_zero]

/-- The check value: the CRC-32 of the characters 1 to 9 (R35). -/
theorem crc32_digits :
    crc32 [0x31, 0x32, 0x33, 0x34, 0x35, 0x36, 0x37, 0x38, 0x39] = 0xCBF43926#32 := by decide +kernel

/-- One byte more is combined into the register. -/
theorem crc32_append_byte (bytes : List Byte) (b : Byte) :
    crc32 (bytes ++ [b]) ^^^ 0xFFFFFFFF#32 = crc32Byte (crc32 bytes ^^^ 0xFFFFFFFF#32) b := by
  simp only [crc32_xor, List.foldl_append, List.foldl_cons, List.foldl_nil]

/-- Runs of bytes that differ in one byte alone have different CRC-32s. -/
theorem crc32_ne_of_byte_ne (pre post : List Byte) {b c : Byte} (h : b ≠ c) :
    crc32 (pre ++ b :: post) ≠ crc32 (pre ++ c :: post) := by
  intro heq
  have regs := congrArg (· ^^^ 0xFFFFFFFF#32) heq
  simp only [crc32_xor, List.foldl_append, List.foldl_cons] at regs
  exact h (crc32Byte_injective_byte _ (foldl_crc32Byte_injective post regs))

theorem crc32_set_ne {bytes : List Byte} {n : Nat} (hn : n < bytes.length) {b : Byte} (h : b ≠ bytes[n]) :
    crc32 (bytes.set n b) ≠ crc32 bytes := by
  simpa [List.set_eq_take_append_cons_drop, hn] using crc32_ne_of_byte_ne (bytes.take n) (bytes.drop (n + 1)) h

/-- Turning one bit of a byte changes the byte. -/
theorem xor_bit_ne (b : Byte) (k : Fin 8) : b ^^^ (1#8 <<< k.val) ≠ b := by
  have bit : ∀ k : Fin 8, 1#8 <<< k.val ≠ 0#8 := by decide
  intro h
  exact bit k (by simpa using congrArg (b ^^^ ·) h)

end Sys2Proof.Machine
end

section
/-! PROOFS. The completion of a model check: the four tests in order, the record, the commit of a passed image alone,
and MODEL attention (R32 to R37, R39). -/

namespace Sys2Proof.Machine

/-! ### The tests -/

theorem nodesPass_iff {im : Image} {j : Fin 6} :
    nodesPass im j = true ↔ 2 ≤ nodeCount im j ∧ nodeCount im j ≤ 33 ∧
      ∀ i : Fin 33, nodeCount im j ≤ i.val → imageWord im (scaleIndex j (5 + i.val)) = 0 := by
  simp [nodesPass, Fin.forall_iff, or_iff_not_imp_left, and_assoc]

theorem spanPass_iff {im : Image} {j : Fin 6} :
    spanPass im j = true ↔ 1 ≤ scaleSpacing im j ∧ scaleSpacing im j ≤ 100000000 ∧
      scaleX0 im j + ((nodeCount im j : Int) - 1) * scaleSpacing im j ≤ maxCount := by
  simp [spanPass]

theorem isScale_iff {s : State} {n : Nat} :
    isScale s n = true ↔ ∃ i : Fin 16, i.val = n ∧ (vget s.temp.sensors i).role = .scale := by
  by_cases h : n < 16
  · simp [isScale, indexOf, h, Fin.exists_iff]
  · have none_named (i : Fin 16) : i.val ≠ n := by omega
    simp [isScale, indexOf, h, none_named]

theorem assignPass_iff {s : State} {im : Image} {j : Fin 6} :
    assignPass s im j = true ↔
      isScale s (primaryOf im j) = true ∧ (secondaryOf im j = 255 ∨ isScale s (secondaryOf im j) = true) := by
  simp [assignPass]

/-! ### The first failing scale -/

theorem firstFailing_eq_none {test : Fin 6 → Bool} (h : ∀ j, test j = true) : firstFailing test = none := by
  simp [firstFailing, h]

theorem firstFailing_eq_some {test : Fin 6 → Bool} {j : Fin 6} (hj : ¬ test j = true)
    (before : ∀ i < j, test i = true) : firstFailing test = some j := by
  refine List.find?_eq_some_iff_getElem.mpr ⟨by simpa using hj, j.val, by simp, by simp, fun i hi => ?_⟩
  simpa using before ⟨i, by omega⟩ hi

/-! ### The record of a check -/

section Record
variable {s : State} {expected : Word} {j : Fin 6}

/-- A check that fails NODES (R32, R37). -/
theorem checkStaging_of_nodes (h : firstFailing (nodesPass s.model.staging) = some j) :
    checkStaging s expected = ⟨.nodes, some j, some expected, none⟩ := by
  simp only [checkStaging, h]

/-- A check that passes NODES and fails SPAN (R33, R37). -/
theorem checkStaging_of_span (nodes : firstFailing (nodesPass s.model.staging) = none)
    (h : firstFailing (spanPass s.model.staging) = some j) :
    checkStaging s expected = ⟨.span, some j, some expected, none⟩ := by
  simp only [checkStaging, nodes, h]

/-- A check that passes NODES and SPAN and fails ASSIGN (R34, R37). -/
theorem checkStaging_of_assign (nodes : firstFailing (nodesPass s.model.staging) = none)
    (span : firstFailing (spanPass s.model.staging) = none)
    (h : firstFailing (assignPass s s.model.staging) = some j) :
    checkStaging s expected = ⟨.assign, some j, some expected, none⟩ := by
  simp only [checkStaging, nodes, span, h]

/-- A check that passes the tests of the scales and fails CRC (R35, R37). -/
theorem checkStaging_of_crc (nodes : firstFailing (nodesPass s.model.staging) = none)
    (span : firstFailing (spanPass s.model.staging) = none)
    (assign : firstFailing (assignPass s s.model.staging) = none)
    (h : crc32 (imageBytes s.model.staging) ≠ expected) :
    checkStaging s expected = ⟨.crc, none, some expected, some (crc32 (imageBytes s.model.staging))⟩ := by
  simp only [checkStaging, nodes, span, assign, h, if_false]

/-- A check that passes all four tests (R36). -/
theorem checkStaging_of_passed (nodes : firstFailing (nodesPass s.model.staging) = none)
    (span : firstFailing (spanPass s.model.staging) = none)
    (assign : firstFailing (assignPass s s.model.staging) = none)
    (h : crc32 (imageBytes s.model.staging) = expected) :
    checkStaging s expected = ⟨.passed, none, some expected, some (crc32 (imageBytes s.model.staging))⟩ := by
  simp only [checkStaging, nodes, span, assign, h, if_true]

end Record

/-! ### The event -/

/-- Two milliseconds after it was taken a check completes (R30). -/
theorem exec_modelCheckCompletion_of_due {s : State} {c : RunningCheck} (hcheck : s.model.check = some c)
    (hr : s.resetHeld = false) (hage : 2 ≤ (s.cellTime - c.start).toNat) :
    exec .modelCheckCompletion s = .next (completeCheck c s) := by
  have due : modelCheckDue s = true := by
    simp only [modelCheckDue, hcheck, State.reached, hr, State.age, modelCheckMs, hage, decide_true, Bool.not_false,
      Bool.and_self]
  show execModelCheckCompletion s = _
  simp only [execModelCheckCompletion, hcheck, due, if_true]

/-- A check that does not pass leaves its record and changes neither image nor the commit count (R37, R39). -/
theorem completeCheck_of_failed {s : State} {c : RunningCheck} {record : CheckRecord}
    (h : checkStaging s c.expected = record) (failed : record.result ≠ .passed) :
    completeCheck c s =
      raiseModel record.result { s with model := { s.model with check := none, last := record } } := by
  simp only [completeCheck, h, failed, if_false]

/-- A check that passes copies STAGING into ACTIVE and counts a commit (R36, R39). -/
theorem completeCheck_of_passed {s : State} {c : RunningCheck} {record : CheckRecord}
    (h : checkStaging s c.expected = record) (passed : record.result = .passed) :
    completeCheck c s = raiseModel .passed { s with model := { s.model with
      check := none, last := record, active := some s.model.staging, commitCount := s.model.commitCount + 1 } } := by
  simp only [completeCheck, h, passed, if_true]

/-- Settles O21: each test by its words, the record by the first test that fails, and the CRC-32 by its register. -/
theorem modelCheckCommitsOnlyAPassedImage : Obligations.ModelCheckCommitsOnlyAPassedImage := by
  refine ⟨fun s c hcheck hr hage => ?_, crc32_digits, fun bytes b => ?_, by decide, fun bytes n k hn =>
    crc32_set_ne hn (xor_bit_ne _ k)⟩
  · intro im word nodes span scaleSensor assign crc completed failedAt
    have due := exec_modelCheckCompletion_of_due hcheck hr hage
    have nodes_iff (j : Fin 6) : nodes j ↔ nodesPass im j = true := nodesPass_iff.symm
    have span_iff (j : Fin 6) : span j ↔ spanPass im j = true := by
      rw [spanPass_iff]
      simp only [span, word, scaleSpacing, scaleX0, nodeCount, scaleIndex, maxCount]
      omega
    have assign_iff (j : Fin 6) : assign j ↔ assignPass s im j = true := by
      simp only [assignPass_iff, isScale_iff, primaryOf, secondaryOf, byteOf_eq]
      simp [assign, scaleSensor, word, scaleIndex]
    have failed {result : CheckResult} {j : Fin 6} (hne : result ≠ .passed)
        (h : checkStaging s c.expected = ⟨result, some j, some c.expected, none⟩) : failedAt result j :=
      due.trans (congrArg _ (completeCheck_of_failed h hne))
    simp only [nodes_iff, span_iff, assign_iff]
    refine ⟨fun j hj before => ?_, fun hn j hj before => ?_, fun hn hs j hj before => ?_, fun hn hs ha hcrc => ?_,
      fun hn hs ha hcrc => ?_⟩
    · exact failed (by decide) (checkStaging_of_nodes (firstFailing_eq_some hj before))
    · exact failed (by decide) (checkStaging_of_span (firstFailing_eq_none hn) (firstFailing_eq_some hj before))
    · exact failed (by decide) (checkStaging_of_assign (firstFailing_eq_none hn) (firstFailing_eq_none hs)
        (firstFailing_eq_some hj before))
    · have record := checkStaging_of_crc (firstFailing_eq_none hn) (firstFailing_eq_none hs)
        (firstFailing_eq_none ha) hcrc
      exact due.trans (congrArg _ (completeCheck_of_failed record nofun))
    · have record := checkStaging_of_passed (firstFailing_eq_none hn) (firstFailing_eq_none hs)
        (firstFailing_eq_none ha) hcrc
      exact due.trans (congrArg _ (completeCheck_of_passed record rfl))
  · rw [crc32_append_byte, crc32Byte, funext crc32Shift_eq]

end Sys2Proof.Machine
end

section
/-! PROOFS. The scale and workpiece temperatures of the compensation unit (R43 to R45, Tables 3.2 and 3.3). -/

namespace Sys2Proof.Machine

/-- The primary sensor number is the low byte of the sensor word (Table 2.2). -/
theorem primaryOf_eq (im : Image) (j : Fin 6) :
    primaryOf im j = (imageWord im (38 * j.val + 3)).toNat % 256 := by
  rw [primaryOf, byteOf_eq, scaleIndex, show 2 + 38 * j.val + 1 = 38 * j.val + 3 by omega]
  simp

/-- The secondary sensor number is the next byte of the sensor word (Table 2.2). -/
theorem secondaryOf_eq (im : Image) (j : Fin 6) :
    secondaryOf im j = (imageWord im (38 * j.val + 3)).toNat / 256 % 256 := by
  rw [secondaryOf, byteOf_eq, scaleIndex, show 2 + 38 * j.val + 1 = 38 * j.val + 3 by omega]
  simp

theorem sensorAt_of_val {s : State} {i : Fin 16} {n : Nat} (h : i.val = n) :
    sensorAt s n = some (vget s.temp.sensors i) := by
  rw [sensorAt, indexOf_eq_some h]; rfl

theorem sensorAt_eq_some {s : State} {n : Nat} {x : Sensor} (h : sensorAt s n = some x) :
    ∃ i : Fin 16, i.val = n ∧ vget s.temp.sensors i = x := by
  by_cases hn : n < 16
  · rw [sensorAt_of_val (i := ⟨n, hn⟩) rfl, Option.some_inj] at h
    exact ⟨⟨n, hn⟩, rfl, h⟩
  · rw [sensorAt, indexOf_eq_none (by omega)] at h
    exact nomatch h

theorem holds_iff {s : State} {x : Sensor} :
    holds s x = true ↔ ∃ t ∈ x.leftValid, (s.cellTime - t).toNat < s.temp.hold * 1000 := by
  cases h : x.leftValid with
  | none => simp [holds, h]
  | some t =>
    simp only [holds, h, State.age, Option.mem_some_iff, exists_eq_left']
    exact decide_eq_true_iff

/-- The last two steps of both chains: the air mean, SUBSTITUTED, and otherwise no temperature. -/
def airTemperature (s : State) : Temperature := (airMean s).elim ⟨none, .none⟩ fun t => ⟨some t, .substituted⟩

theorem airTemperature_value (s : State) : (airTemperature s).value = airMean s := by
  unfold airTemperature; cases airMean s <;> rfl

theorem substituteTemperature_of_valid {s : State} {y : Sensor} (h : y.state = .valid) :
    substituteTemperature s (some y) = ⟨some y.tf, .substituted⟩ := by simp [substituteTemperature, h]

theorem substituteTemperature_of_not_valid {s : State} {secondary : Option Sensor}
    (h : ∀ y ∈ secondary, y.state ≠ .valid) : substituteTemperature s secondary = airTemperature s := by
  cases secondary with
  | none => cases hair : airMean s <;> simp [substituteTemperature, airTemperature, hair]
  | some y =>
    have hy : y.state ≠ .valid := h y rfl
    cases hair : airMean s <;> simp [substituteTemperature, airTemperature, hair, hy]

/-- The chain of Table 3.2 for a scale whose primary number is that of a sensor. -/
theorem scaleTemperature_of_primary {s : State} {im : Image} {j : Fin 6} {i : Fin 16} (h : i.val = primaryOf im j) :
    scaleTemperature s im j =
      if (vget s.temp.sensors i).state = .valid then ⟨some (vget s.temp.sensors i).tf, .full⟩
      else if ((vget s.temp.sensors i).state = .suspect ∨ (vget s.temp.sensors i).state = .failed) ∧
          holds s (vget s.temp.sensors i) then ⟨some (vget s.temp.sensors i).tf, .held⟩
      else substituteTemperature s (sensorAt s (secondaryOf im j)) := by
  simp only [scaleTemperature, sensorAt_of_val h]

/-- The chain of Table 3.3. -/
theorem workpieceTemperature_eq (s : State) :
    workpieceTemperature s = (workpieceMean s).elim (airTemperature s) fun t => ⟨some t, .full⟩ := by
  cases h : workpieceMean s <;> cases hair : airMean s <;> simp [workpieceTemperature, airTemperature, h, hair]

/-- Settles O22: the chain of Table 3.2 by the state of the primary, then by that of the secondary. -/
theorem temperatureChainsTakeTheFirstStep : Obligations.TemperatureChainsTakeTheFirstStep := by
  intro s im j i hi second x held
  rw [← primaryOf_eq] at hi
  have second_eq : secondaryOf im j = second := secondaryOf_eq im j
  have held_iff : (x.state = .suspect ∨ x.state = .failed) ∧ holds s x = true ↔ held := and_congr_right' holds_iff
  have chain := scaleTemperature_of_primary (s := s) hi
  rw [second_eq] at chain
  refine ⟨fun hv => chain.trans (if_pos hv), fun hh => ?_, fun hv hh => ?_, workpieceTemperature_eq s⟩
  · have hv : x.state ≠ .valid := by rcases hh.1 with h | h <;> simp [h]
    exact chain.trans ((if_neg hv).trans (if_pos (held_iff.mpr hh)))
  · replace chain := chain.trans ((if_neg hv).trans (if_neg (mt held_iff.mp hh)))
    refine ⟨fun k hk hvalid => ?_, fun hsecond => chain.trans (substituteTemperature_of_not_valid fun y hy => ?_)⟩
    · rw [chain, sensorAt_of_val hk, substituteTemperature_of_valid hvalid]
    · obtain ⟨k, hk, rfl⟩ := sensorAt_eq_some hy
      exact hsecond k hk

end Sys2Proof.Machine
end

section
/-! PROOFS. The corrected value of one axis: the geometric term between the nodes, the clamps and the quality (R46 to
R51). -/

namespace Sys2Proof.Machine

/-! ### The words of a scale (Table 2.2) -/

theorem scaleAlpha_eq (im : Image) (j : Fin 6) : scaleAlpha im j = (imageWord im (38 * j.val + 2)).toNat := by
  rw [scaleAlpha, scaleIndex, show 2 + 38 * j.val + 0 = 38 * j.val + 2 by omega]

theorem scaleX0_eq (im : Image) (j : Fin 6) : scaleX0 im j = (imageWord im (38 * j.val + 4)).toInt := by
  rw [scaleX0, scaleIndex, show 2 + 38 * j.val + 2 = 38 * j.val + 4 by omega]

theorem scaleSpacing_eq (im : Image) (j : Fin 6) : scaleSpacing im j = (imageWord im (38 * j.val + 5)).toNat := by
  rw [scaleSpacing, scaleIndex, show 2 + 38 * j.val + 3 = 38 * j.val + 5 by omega]

theorem nodeCount_eq (im : Image) (j : Fin 6) : nodeCount im j = (imageWord im (38 * j.val + 6)).toNat := by
  rw [nodeCount, scaleIndex, show 2 + 38 * j.val + 4 = 38 * j.val + 6 by omega]

theorem nodeAt_eq (im : Image) (j : Fin 6) (i : Nat) :
    nodeAt im j i = (imageWord im (38 * j.val + 7 + i)).toInt := by
  rw [nodeAt, scaleIndex, show 2 + 38 * j.val + (5 + i) = 38 * j.val + 7 + i by omega]

/-! ### The geometric term (R50) -/

section Geometric
variable {im : Image} {j : Fin 6} {p : Int}

theorem geometricTerm_before (h : p < scaleX0 im j) : geometricTerm im j p = nodeAt im j 0 := if_pos h

theorem geometricTerm_beyond (hd : 1 ≤ scaleSpacing im j) (hn : 2 ≤ nodeCount im j)
    (h : scaleX0 im j + ((nodeCount im j : Int) - 1) * scaleSpacing im j ≤ p) :
    geometricTerm im j p = nodeAt im j (nodeCount im j - 1) := by
  have travel : 0 ≤ ((nodeCount im j : Int) - 1) * scaleSpacing im j := mul_nonneg (by omega) (by omega)
  exact (if_neg (by omega)).trans (if_pos h)

/-- Between node `i` and the next, `f` counts past node `i`, the term is interpolated. -/
theorem geometricTerm_between {i : Nat} {f : Int} (hi : i + 1 < nodeCount im j) (hf : 0 ≤ f)
    (hfd : f < scaleSpacing im j) (hp : p = scaleX0 im j + i * scaleSpacing im j + f) :
    geometricTerm im j p =
      nodeAt im j i + roundDiv ((nodeAt im j (i + 1) - nodeAt im j i) * f) (scaleSpacing im j) := by
  have past : 0 ≤ (i : Int) * scaleSpacing im j := mul_nonneg (by omega) (by omega)
  have within : ((i : Int) + 1) * scaleSpacing im j ≤ ((nodeCount im j : Int) - 1) * scaleSpacing im j :=
    mul_le_mul_of_nonneg_right (by omega) (by omega)
  have next : ((i : Int) + 1) * scaleSpacing im j = i * scaleSpacing im j + scaleSpacing im j := add_one_mul _ _
  have index : (p - scaleX0 im j) / scaleSpacing im j = i := by
    rw [hp, show scaleX0 im j + i * scaleSpacing im j + f - scaleX0 im j = f + i * scaleSpacing im j by omega,
      Int.add_mul_ediv_right _ _ (by omega), Int.ediv_eq_zero_of_lt hf hfd, zero_add]
  have rest : p - scaleX0 im j - i * scaleSpacing im j = f := by omega
  rw [geometricTerm, if_neg (by omega), if_neg (by omega)]
  simp only [index, Int.toNat_natCast, rest]

/-- A position on the mapped travel, before its end, lies between a node and the next. -/
theorem exists_between (hd : 1 ≤ scaleSpacing im j) (hlow : scaleX0 im j ≤ p)
    (hhigh : p < scaleX0 im j + ((nodeCount im j : Int) - 1) * scaleSpacing im j) :
    ∃ (i : Nat) (f : Int), i + 1 < nodeCount im j ∧ 0 ≤ f ∧ f < scaleSpacing im j ∧
      p = scaleX0 im j + i * scaleSpacing im j + f := by
  have nonneg : 0 ≤ (p - scaleX0 im j) / scaleSpacing im j := Int.ediv_nonneg (by omega) (by omega)
  have below : (p - scaleX0 im j) / scaleSpacing im j < (nodeCount im j : Int) - 1 :=
    Int.ediv_lt_of_lt_mul (by omega) (by omega)
  have divided := Int.ediv_mul_add_emod (p - scaleX0 im j) (scaleSpacing im j)
  obtain ⟨i, hi⟩ := Int.eq_ofNat_of_zero_le nonneg
  rw [hi] at divided below
  exact ⟨i, (p - scaleX0 im j) % scaleSpacing im j, by omega, Int.emod_nonneg _ (by omega),
    Int.emod_lt_of_pos _ (by omega), by omega⟩

end Geometric

/-! ### Clamps and qualities -/

theorem clampCount_eq (x : Int) : clampCount x = max (-2000000000) (min 2000000000 x) := by
  unfold clampCount maxCount; split_ifs <;> omega

theorem Quality.worse_eq (p q : Quality) : p.worse q = p ∨ p.worse q = q := by
  unfold Quality.worse; split_ifs <;> simp

theorem Quality.rank_worse (p q : Quality) : (p.worse q).rank = max p.rank q.rank := by
  unfold Quality.worse; split_ifs <;> omega

/-! ### One axis -/

theorem correctAxis_empty {s : State} (h : s.model.active = none) (tw : Temperature) (j : Fin 6) (raw : Int) :
    correctAxis s tw j raw = ⟨clampCount raw, .none, decide (clampCount raw ≠ raw)⟩ := by
  rw [correctAxis, h]

/-- The sum p + c + e of the clamped raw word and its two corrections, before it saturates (R47, R51). -/
def correctedSum (s : State) (im : Image) (tw : Temperature) (j : Fin 6) (p : Int) : Int :=
  p + thermalTerm (scaleAlpha im j) (workpieceAlpha im) p (scaleTemperature s im j).value tw.value +
    geometricTerm im j p

theorem correctAxis_active {s : State} {im : Image} (h : s.model.active = some im) (tw : Temperature) (j : Fin 6)
    (raw : Int) : correctAxis s tw j raw =
      { value := clampCount (correctedSum s im tw j (clampCount raw))
        quality := (scaleTemperature s im j).quality.worse tw.quality
        sat := decide (clampCount raw ≠ raw) || decide (clampCount (correctedSum s im tw j (clampCount raw)) ≠
          correctedSum s im tw j (clampCount raw)) } := by
  rw [correctAxis, h]; rfl

/-- Settles O23: the geometric term by the place of the position, and the axis by ACTIVE. -/
theorem axesAreCorrectedByTheModel : Obligations.AxesAreCorrectedByTheModel := by
  refine ⟨fun im j p => ?_, fun s j raw => ?_⟩
  · intro x0 d n node hd hn
    simp only [x0, d, n, node, ← scaleX0_eq, ← scaleSpacing_eq, ← nodeCount_eq, ← nodeAt_eq] at hd hn ⊢
    exact ⟨geometricTerm_before, geometricTerm_beyond hd hn, fun i f => geometricTerm_between⟩
  · intro bound p tw
    have bound_eq : bound = clampCount := funext fun x => (clampCount_eq x).symm
    refine ⟨fun h => ?_, fun im him => ?_⟩
    · simp only [p, bound_eq, correctAxis_empty h]
    · intro ts alphaS alphaW c sum got
      have thermal : c = thermalTerm (scaleAlpha im j) (workpieceAlpha im) p ts.value tw.value := by
        simp only [c, scaleAlpha_eq]
        unfold thermalTerm
        cases ts.value <;> cases tw.value <;> rfl
      have sum_eq : sum = correctedSum s im tw j (clampCount raw) := by
        simp only [sum, thermal, p, bound_eq]; rfl
      have got_eq := correctAxis_active him tw j raw
      rw [← sum_eq] at got_eq
      have quality : got.quality = ts.quality.worse tw.quality := congrArg Corrected.quality got_eq
      rw [quality, Quality.rank_worse, bound_eq]
      refine ⟨congrArg Corrected.value got_eq, ?_, Quality.worse_eq _ _, le_max_left _ _, le_max_right _ _⟩
      simp only [p, bound_eq, Bool.decide_or]
      exact congrArg Corrected.sat got_eq

end Sys2Proof.Machine
end

section
/-! PROOFS. The bounds of the corrections: rounded quotients and temperatures within their ranges, then the thermal and
the geometric term (R52). -/

namespace Sys2Proof.Machine

/-! ### Rounded quotients -/

/-- A quotient between two integers rounds to a value between them. -/
theorem roundDiv_mem_Icc {num den lo hi : Int} (hden : 0 < den) (hlo : lo * den ≤ num) (hhi : num ≤ hi * den) :
    lo ≤ roundDiv num den ∧ roundDiv num den ≤ hi := by
  have near := (roundDiv_nearest num hden).1
  constructor
  · by_contra below
    have step : (roundDiv num den + 1) * den ≤ lo * den := mul_le_mul_of_nonneg_right (by omega) hden.le
    rw [add_one_mul] at step
    omega
  · by_contra above
    have step : (hi + 1) * den ≤ roundDiv num den * den := mul_le_mul_of_nonneg_right (by omega) hden.le
    rw [add_one_mul] at step
    omega

theorem meanOf_mem_Icc {tfs : List Int} {lo hi t : Int} (h : ∀ x ∈ tfs, lo ≤ x ∧ x ≤ hi) (ht : meanOf tfs = some t) :
    lo ≤ t ∧ t ≤ hi := by
  cases tfs with
  | nil => exact nomatch ht
  | cons x xs =>
    obtain rfl : roundDiv (x :: xs).sum (x :: xs).length = t := Option.some_inj.mp ht
    have low := List.card_nsmul_le_sum (x :: xs) lo fun y hy => (h y hy).1
    have high := List.sum_le_card_nsmul (x :: xs) hi fun y hy => (h y hy).2
    rw [nsmul_eq_mul, mul_comm] at low high
    exact roundDiv_mem_Icc (by simp) low high

/-! ### Temperatures -/

/-- A temperature that is present lies within −20,000 and +60,000 mK (R13, R21). -/
def Temperature.InRange (T : Temperature) : Prop := ∀ t ∈ T.value, minTemp ≤ t ∧ t ≤ maxTemp

section Temperatures
variable {s : State} (hs : SensorsSound s)
include hs

theorem mean_inRange (role : Role) {t : Int} (ht : meanOf (validTfs s role) = some t) :
    minTemp ≤ t ∧ t ≤ maxTemp := by
  refine meanOf_mem_Icc (fun x hx => ?_) ht
  obtain ⟨i, -, rfl⟩ := mem_validTfs.mp hx
  exact ⟨(hs.1 i).low, (hs.1 i).high⟩

theorem airTemperature_inRange : (airTemperature s).InRange := fun _ ht =>
  mean_inRange hs .air ((airTemperature_value s).symm.trans ht)

theorem workpieceTemperature_inRange : (workpieceTemperature s).InRange := by
  rw [workpieceTemperature_eq]
  cases h : workpieceMean s with
  | none => exact airTemperature_inRange hs
  | some t => exact fun _ ht => mean_inRange hs .workpiece (h.trans ht)

/-- The temperature of a sensor of the table is in range, whatever the quality it is given. -/
theorem sensorTemperature_inRange {n : Nat} {x : Sensor} (h : sensorAt s n = some x) (q : Quality) :
    Temperature.InRange ⟨some x.tf, q⟩ := by
  obtain ⟨i, -, rfl⟩ := sensorAt_eq_some h
  rintro _ ⟨⟩
  exact ⟨(hs.1 i).low, (hs.1 i).high⟩

theorem substituteTemperature_inRange (n : Nat) : (substituteTemperature s (sensorAt s n)).InRange := by
  by_cases h : ∃ y ∈ sensorAt s n, y.state = .valid
  · obtain ⟨y, hy, hvalid⟩ := h
    rw [hy, substituteTemperature_of_valid hvalid]
    exact sensorTemperature_inRange hs hy _
  · rw [substituteTemperature_of_not_valid (by simpa using h)]
    exact airTemperature_inRange hs

theorem scaleTemperature_inRange (im : Image) (j : Fin 6) : (scaleTemperature s im j).InRange := by
  have substitute := substituteTemperature_inRange hs (secondaryOf im j)
  cases h : sensorAt s (primaryOf im j) with
  | none => simpa only [scaleTemperature, h] using substitute
  | some x =>
    simp only [scaleTemperature, h]
    split_ifs
    exacts [sensorTemperature_inRange hs h _, sensorTemperature_inRange hs h _, substitute]

end Temperatures

/-! ### The two terms -/

/-- A coefficient of at most 30,000 and a temperature in range, 40,000 mK at most from 20,000 mK. -/
theorem expansion_natAbs_le {alpha t : Int} (h0 : 0 ≤ alpha) (h : alpha ≤ 30000) (ht : minTemp ≤ t ∧ t ≤ maxTemp) :
    (alpha * (t - 20000)).natAbs ≤ 1200000000 := by
  have far : (t - 20000).natAbs ≤ 40000 := by unfold minTemp maxTemp at ht; omega
  calc (alpha * (t - 20000)).natAbs = alpha.natAbs * (t - 20000).natAbs := Int.natAbs_mul ..
    _ ≤ 30000 * 40000 := Nat.mul_le_mul (by omega) far

/-- The thermal term is at most 0.0024 of the position and half a count (R52). -/
theorem thermalTerm_bound {alphaS alphaW : Int} (hS : 0 ≤ alphaS ∧ alphaS ≤ 30000) (hW : 0 ≤ alphaW ∧ alphaW ≤ 30000)
    {ts tw : Temperature} (hts : ts.InRange) (htw : tw.InRange) (p : Int) :
    10000 * (thermalTerm alphaS alphaW p ts.value tw.value).natAbs ≤ 24 * p.natAbs + 5000 := by
  cases hs : ts.value with
  | none => simp [thermalTerm]
  | some a =>
    cases hw : tw.value with
    | none => simp [thermalTerm]
    | some b =>
      have scale := expansion_natAbs_le hS.1 hS.2 (hts a hs)
      have piece := expansion_natAbs_le hW.1 hW.2 (htw b hw)
      simp only [thermalTerm]
      generalize hk : alphaS * (a - 20000) - alphaW * (b - 20000) = k
      have expansion : (p * k).natAbs ≤ p.natAbs * 2400000000 := by
        rw [Int.natAbs_mul]; exact Nat.mul_le_mul_left _ (by omega)
      have near := (roundDiv_nearest (p * k) (den := 1000000000000) (by decide)).1
      omega

/-- An interpolated value lies between bounds of both of its ends. -/
theorem interpolated_mem_Icc {a b f d lo hi : Int} (hf : 0 ≤ f) (hfd : f < d) (ha : lo ≤ a ∧ a ≤ hi)
    (hb : lo ≤ b ∧ b ≤ hi) : lo ≤ a + roundDiv ((b - a) * f) d ∧ a + roundDiv ((b - a) * f) d ≤ hi := by
  obtain ⟨hla, hah⟩ := ha
  obtain ⟨hlb, hbh⟩ := hb
  have between : lo - a ≤ roundDiv ((b - a) * f) d ∧ roundDiv ((b - a) * f) d ≤ hi - a :=
    roundDiv_mem_Icc (by omega) (by nlinarith) (by nlinarith)
  omega

/-- The geometric term of a checked scale stays within the range of its nodes (R52). -/
theorem geometricTerm_mem_Icc {im : Image} {j : Fin 6} (nodes : nodesPass im j = true) (span : spanPass im j = true)
    {lo hi : Int} (hbound : ∀ i : Fin 33, lo ≤ nodeAt im j i ∧ nodeAt im j i ≤ hi) (p : Int) :
    lo ≤ geometricTerm im j p ∧ geometricTerm im j p ≤ hi := by
  obtain ⟨two, most, -⟩ := nodesPass_iff.mp nodes
  obtain ⟨hd, -, -⟩ := spanPass_iff.mp span
  have bound {i : Nat} (mapped : i < nodeCount im j) := hbound ⟨i, by omega⟩
  by_cases before : p < scaleX0 im j
  · rw [geometricTerm_before before]; exact bound (by omega)
  by_cases beyond : scaleX0 im j + ((nodeCount im j : Int) - 1) * scaleSpacing im j ≤ p
  · rw [geometricTerm_beyond hd two beyond]; exact bound (by omega)
  obtain ⟨i, f, next, hf, hfd, hp⟩ := exists_between hd (not_lt.mp before) (not_le.mp beyond)
  rw [geometricTerm_between next hf hfd hp]
  exact interpolated_mem_Icc hf hfd (bound (by omega)) (bound next)

theorem clampCount_natAbs_le (x : Int) : (clampCount x).natAbs ≤ 2000000000 := by rw [clampCount_eq]; omega

/-- Settles O24: each bound from the ranges of a checked image and of the sensors' temperatures. -/
theorem correctionsKeepTheirBounds : Obligations.CorrectionsKeepTheirBounds := by
  intro s im j raw hmodel hs him p c
  obtain ⟨⟨hW, scales⟩, checked⟩ := hmodel.2 im him
  obtain ⟨hS, hnodes⟩ := scales j
  obtain ⟨nodes, span, -⟩ := checked j
  refine ⟨thermalTerm_bound ⟨Int.natCast_nonneg _, hS⟩ ⟨Int.natCast_nonneg _, hW⟩ (scaleTemperature_inRange hs im j)
    (workpieceTemperature_inRange hs) p, ?_, ?_⟩
  · have := geometricTerm_mem_Icc nodes span hnodes p
    omega
  · rw [correctAxis_active him]
    exact clampCount_natAbs_le _

end Sys2Proof.Machine
end

section
/-! PROOFS. What the shared operations of an event leave alone, as frame clauses: writes of one record, attention, a
cause brought up to date, the judgement of the arms and the two ends of a frame. -/

namespace Sys2Proof.Machine

/-! ### Writes of one record -/

/-- What two events in a row change is what either changes. -/
theorem unchangedBut_append {l l' : List Block} {s t u : State} (h1 : unchangedBut l s t) (h2 : unchangedBut l' t u) :
    unchangedBut (l ++ l') s u :=
  unchangedBut_trans (unchangedBut_mono (by simp) h1) (unchangedBut_mono (by simp) h2)

theorem unchangedBut_refl (l : List Block) (s : State) : unchangedBut l s s := by
  intro b _; cases b <;> simp [Block.same]

theorem modPort_unchangedBut (s : State) (l : Link) (f : Port → Port) : unchangedBut [.port l] s (s.modPort l f) := by
  intro b hb; cases b <;> simp_all [Block.same]

theorem setZoneTable_unchangedBut (s : State) (t : Vector Zone 16) :
    unchangedBut [.zoneTable] s (s.setZoneTable t) := by
  intro b hb; cases b <;> simp_all [Block.same]

theorem setClaim_unchangedBut (s : State) (arm : Arm) (c : Option Claim) :
    unchangedBut [.claim arm] s (s.setClaim arm c) := by
  intro b hb; cases b <;> simp_all [Block.same]

theorem setGuard_unchangedBut (s : State) (arm : Arm) (g : Option GuardRecord) :
    unchangedBut [.guard arm] s (s.setGuard arm g) := by
  intro b hb; cases b <;> simp_all [Block.same]

/-- A supervisor rewritten with its settings and its input line kept. -/
theorem setSup_unchangedBut {s : State} {arm : Arm} {v : Supervisor} (hset : v.settings = (s.sup.get arm).settings)
    (hsense : v.sense = (s.sup.get arm).sense) : unchangedBut [.supervisor arm] s (s.setSup arm v) := by
  intro b hb
  cases b
  case settings other | sense other => by_cases h : other = arm <;> simp_all [Block.same]
  all_goals simp_all [Block.same]

/-! ### Attention -/

theorem raiseFault_unchangedBut (s : State) (arm : Arm) : unchangedBut [.faultSource] s (raiseFault arm s) := by
  intro b hb; cases b <;> simp_all [Block.same]

theorem raisePermit_unchangedBut (s : State) (arm : Arm) (on : Bool) (st : SupState) :
    unchangedBut [.permitSource arm] s (raisePermit arm on st s) := by
  intro b hb
  cases b
  case armMaster other | changeSource other | claimSource other | compSource other =>
    by_cases h : other = arm <;> simp [Block.same, raisePermit, h]
  all_goals simp_all [Block.same, raisePermit]

theorem raiseClaim_unchangedBut (s : State) (arm : Arm) (c : Claim) :
    unchangedBut [.claimSource arm] s (raiseClaim arm c s) := by
  intro b hb
  cases b
  case armMaster other | permitSource other | changeSource other | compSource other =>
    by_cases h : other = arm <;> simp [Block.same, raiseClaim, h]
  all_goals simp_all [Block.same, raiseClaim]

@[simp] theorem claimSource_raiseClaim (s : State) (arm : Arm) (c : Claim) :
    ((raiseClaim arm c s).attn.arms.get arm).claim = (s.attn.arms.get arm).claim.raise fun _ => some c := by
  simp [raiseClaim]

/-! ### Causes -/

theorem setPresent_unchangedBut (arm : Arm) (c : Cause) (now : Bool) (s : State) :
    unchangedBut [.supervisor arm, .faultSource] s (setPresent arm c now s) := by
  rw [setPresent_spec]
  split
  · refine unchangedBut_append (l := [.supervisor arm]) ?_ (raiseFault_unchangedBut _ _)
    exact setSup_unchangedBut rfl rfl
  · exact unchangedBut_mono (by simp) (setSup_unchangedBut rfl rfl)

theorem setPresent_present (arm : Arm) (c : Cause) (now : Bool) (s : State) :
    ((setPresent arm c now s).sup.get arm).present = (s.sup.get arm).present.set c now := by
  rw [setPresent_spec]
  split
  · next h => simp [h.1]
  · simp

theorem setPresent_state (arm : Arm) (c : Cause) (now : Bool) (s : State) :
    ((setPresent arm c now s).sup.get arm).state = (s.sup.get arm).state := by
  rw [setPresent_spec]; split <;> simp

/-! ### The judgement of the arms (R89) -/

theorem restartReport_unchangedBut (arm : Arm) (s : State) : unchangedBut [.supervisor arm] s (restartReport arm s) :=
  setSup_unchangedBut rfl rfl

theorem enterState_unchangedBut (arm : Arm) (st : SupState) (s : State) :
    unchangedBut [.supervisor arm, .permitSource arm] s (enterState arm st s) := by
  rw [enterState_spec]
  split
  · exact unchangedBut_mono (by simp) (setSup_unchangedBut rfl rfl)
  · refine unchangedBut_append (l := [.supervisor arm]) ?_ (raisePermit_unchangedBut _ _ _ _)
    exact setSup_unchangedBut rfl rfl

theorem judgeArm_unchangedBut (s0 : State) (t : Trigger) (arm : Arm) (s : State) :
    unchangedBut [.supervisor arm, .permitSource arm] s (judgeArm s0 t arm s) := by
  obtain h | ⟨-, h⟩ := judgeArm_spec s0 t arm s <;> rw [h]
  · exact unchangedBut_refl _ _
  · split
    · exact unchangedBut_trans (enterState_unchangedBut _ _ _)
        (unchangedBut_mono (by simp) (restartReport_unchangedBut _ _))
    · exact enterState_unchangedBut _ _ _

theorem conclude_unchangedBut (s0 : State) (t : Trigger) (s : State) :
    unchangedBut [.supervisor .a, .permitSource .a, .supervisor .b, .permitSource .b] s (conclude s0 t s) :=
  unchangedBut_append (judgeArm_unchangedBut _ _ _ _) (judgeArm_unchangedBut _ _ _ _)

/-- No event moves a DISABLED arm at its end. -/
theorem judgeArm_of_disabled {s : State} {arm : Arm} (h : (s.sup.get arm).state = .disabled) (s0 : State)
    (t : Trigger) : judgeArm s0 t arm s = s := by
  simp [judgeArm, stateAfter, h]

/-- With one arm DISABLED only the other is judged. -/
theorem conclude_of_disabled {s : State} {arm : Arm} (h : (s.sup.get arm).state = .disabled) (s0 : State)
    (t : Trigger) : conclude s0 t s = judgeArm s0 t (otherArm arm) s := by
  cases arm with
  | a => rw [conclude, judgeArm_of_disabled h]; rfl
  | b =>
    have kept : (judgeArm s0 t .a s).sup.get .b = s.sup.get .b := judgeArm_other ..
    exact judgeArm_of_disabled (by rw [kept]; exact h) s0 t

/-- The judgement of an arm reads the state after the event only in that arm's supervisor and in cell time. -/
theorem judgeArm_sup_congr {s u : State} {arm : Arm} (hsup : s.sup.get arm = u.sup.get arm)
    (htime : s.cellTime = u.cellTime) (s0 : State) (t : Trigger) :
    (judgeArm s0 t arm s).sup.get arm = (judgeArm s0 t arm u).sup.get arm := by
  have enter (st : SupState) : (enterState arm st s).sup.get arm = (enterState arm st u).sup.get arm := by
    rw [enterState_spec, enterState_spec, hsup]
    split <;> simp [State.timer, htime]
  have restart (st : SupState) : (restartReport arm (enterState arm st s)).sup.get arm =
      (restartReport arm (enterState arm st u)).sup.get arm := by
    simp [restartReport, enter, State.timer, htime]
  simp only [judgeArm, hsup]
  split
  · exact hsup
  · split
    · exact hsup
    · split
      · exact restart _
      · exact enter _

/-- At the end of an event each arm's supervisor is as its own judgement leaves it. -/
theorem conclude_sup (s0 : State) (t : Trigger) (s : State) (arm : Arm) :
    (conclude s0 t s).sup.get arm = (judgeArm s0 t arm s).sup.get arm := by
  cases arm with
  | a => exact judgeArm_other s0 t .b _
  | b => exact judgeArm_sup_congr (judgeArm_other s0 t .a s) (judgeArm_cellTime ..) s0 t

theorem conclude_sup_congr {s u : State} {arm : Arm} (hsup : s.sup.get arm = u.sup.get arm)
    (htime : s.cellTime = u.cellTime) (s0 : State) (t : Trigger) :
    (conclude s0 t s).sup.get arm = (conclude s0 t u).sup.get arm := by
  rw [conclude_sup, conclude_sup, judgeArm_sup_congr hsup htime]

/-- An arm whose present flags the event left alone keeps its supervisor. -/
theorem conclude_sup_of_present {s0 s : State} {arm : Arm} (h : (s.sup.get arm).present = (s0.sup.get arm).present) :
    (conclude s0 .plain s).sup.get arm = s.sup.get arm := by
  rw [conclude_sup, judgeArm_same s0 .plain arm s h (by simp [Trigger.arm?])]

theorem conclude_present (s0 : State) (t : Trigger) (s : State) (arm : Arm) :
    ((conclude s0 t s).sup.get arm).present = (s.sup.get arm).present := by
  have enter (st : SupState) : ((enterState arm st s).sup.get arm).present = (s.sup.get arm).present := by
    rw [enterState_spec]; split <;> simp
  rw [conclude_sup]
  obtain h | ⟨-, h⟩ := judgeArm_spec s0 t arm s <;> rw [h]
  split
  · simpa [restartReport] using enter _
  · exact enter _

/-! ### The two ends of a frame -/

@[simp] theorem zoneAt_acceptFrame (l : Link) (s : State) (z : Fin 16) : zoneAt (acceptFrame l s) z = zoneAt s z := by
  simp [zoneAt]

/-- On an arm link acceptance reaches only the port and the supervisor of its arm (R162). -/
theorem acceptFrame_arm_unchangedBut (arm : Arm) (s : State) :
    unchangedBut [.port (linkOf arm), .supervisor arm] s (acceptFrame (linkOf arm) s) := by
  rw [acceptFrame_arm]
  exact unchangedBut_append (modPort_unchangedBut _ _ _) (setSup_unchangedBut rfl rfl)

theorem acceptFrame_sup_other (arm : Arm) (s : State) :
    (acceptFrame (linkOf arm) s).sup.get (otherArm arm) = s.sup.get (otherArm arm) := by
  rw [acceptFrame_arm]; simp

/-- The end of an event at a link: the arms are judged against the state before it and the answer is written. -/
def endEvent (l : Link) (reply : Reply) (s0 s : State) : State := writeReply l reply (conclude s0 .plain s)

theorem endEvent_unchangedBut (l : Link) (reply : Reply) (s0 s : State) :
    unchangedBut [.supervisor .a, .permitSource .a, .supervisor .b, .permitSource .b, .port l] s
      (endEvent l reply s0 s) :=
  unchangedBut_append (conclude_unchangedBut _ _ _) (modPort_unchangedBut _ _ _)

/-- With one arm DISABLED the end of an event reaches the supervisor of the other alone. -/
theorem endEvent_unchangedBut_of_disabled {s : State} {arm : Arm} (h : (s.sup.get arm).state = .disabled) (l : Link)
    (reply : Reply) (s0 : State) :
    unchangedBut [.supervisor (otherArm arm), .permitSource (otherArm arm), .port l] s (endEvent l reply s0 s) := by
  rw [endEvent, conclude_of_disabled h]
  exact unchangedBut_append (judgeArm_unchangedBut _ _ _ _) (modPort_unchangedBut _ _ _)

@[simp] theorem endEvent_zones (l : Link) (reply : Reply) (s0 s : State) :
    (endEvent l reply s0 s).zones = s.zones := by simp [endEvent, writeReply]

@[simp] theorem zoneAt_endEvent (l : Link) (reply : Reply) (s0 s : State) (z : Fin 16) :
    zoneAt (endEvent l reply s0 s) z = zoneAt s z := by simp [zoneAt]

theorem endEvent_sup (l : Link) (reply : Reply) (s0 s : State) :
    (endEvent l reply s0 s).sup = (conclude s0 .plain s).sup := rfl

@[simp] theorem endEvent_present (l : Link) (reply : Reply) (s0 s : State) (arm : Arm) :
    ((endEvent l reply s0 s).sup.get arm).present = (s.sup.get arm).present := conclude_present ..

@[simp] theorem endEvent_claimSource (l : Link) (reply : Reply) (s0 s : State) (arm : Arm) :
    ((endEvent l reply s0 s).attn.arms.get arm).claim = (s.attn.arms.get arm).claim :=
  endEvent_unchangedBut l reply s0 s (.claimSource arm) (by simp)

/-- The port at the end of an event of an accepted frame that touched no port. -/
theorem endEvent_port {l : Link} {s u : State} (hports : u.ports.get l = (acceptFrame l s).ports.get l)
    (reply : Reply) : (endEvent l reply s u).ports.get l = answeredPort reply := by
  simp [endEvent, writeReply, hports, acceptFrame_port, answeredPort]

/-- A request of the Cell link with its frame accepted there. -/
theorem handleRequest_onCell {r : Request} {s : State} (hc : onCell r s) (act : State → Act) {reply : Reply} {u : State}
    (h : act (acceptFrame .cell s) = ⟨u, reply, .plain⟩) :
    handleRequest .cellLink r.link act s = endEvent .cell reply s u := by
  obtain ⟨hl, ht⟩ := hc
  rw [hl, handleRequest_permitted ht rfl, h]; rfl

/-- A request of the arm links with its frame accepted on the link of an arm. -/
theorem handleRequest_onArm {arm : Arm} {r : Request} {s : State} (ha : onArm arm r s) (act : Arm → State → Act)
    {reply : Reply} {u : State} (h : act arm (acceptFrame (linkOf arm) s) = ⟨u, reply, .plain⟩) :
    handleRequest .armLinks r.link (forLinkArm r.link act) s = endEvent (linkOf arm) reply s u := by
  obtain ⟨hl, ht⟩ := ha
  have act_eq : forLinkArm (linkOf arm) act (acceptFrame (linkOf arm) s) = ⟨u, reply, .plain⟩ := by
    rw [← h]; simp only [forLinkArm, armOf_linkOf]
  rw [hl, handleRequest_permitted ht (by simp [Access.permits]), act_eq]; rfl

/-- An event that leaves the accepted frame's state alone. -/
theorem endEvent_acceptFrame (l : Link) (reply : Reply) (s : State) :
    endEvent l reply s (acceptFrame l s) = answered l reply (frameEnded l s) := writeReply_conclude_acceptFrame ..

end Sys2Proof.Machine
end

section
/-! PROOFS. The zone arbiter's shared operations: the sets of zones held as answer words, ranges, the verdict, the
needed set formed anew, and the re-evaluation of a pending claim (R63, R69, R70, R78, R79). -/

namespace Sys2Proof.Machine

/-! ### Sets of marks as answer words (R173) -/

theorem setNum_eq_ofBits {n : Nat} (p : Fin n → Bool) : setNum p = Nat.ofBits p := by
  induction n with
  | zero => rfl
  | succ n ih =>
    have tail : setNum p =
        (p 0).toNat + ((List.finRange n).map fun i => 2 * if p i.succ then 2 ^ i.val else 0).sum := by
      simp only [setNum, List.finRange_succ, List.map_cons, List.map_map, List.sum_cons]
      congr 1
      · cases p 0 <;> rfl
      · congr 2; funext i; simp [pow_succ, mul_comm]
    rw [tail, List.sum_map_mul_left, Nat.ofBits_succ, ← ih, add_comm]; rfl

/-- A set of marks as a word is the packing of its number. -/
theorem setAt_marksOf {n : Nat} (p : Fin n → Bool) : setAt 0 (marksOf p) = packed [(0, setNum p)] := by
  apply BitVec.eq_of_getLsbD_eq
  intro i hi
  have left : (setAt 0 (marksOf p)).getLsbD i = (marksOf p).getLsbD i := by simp [setAt, hi]
  have right : (packed [(0, setNum p)]).getLsbD i = (Nat.ofBits p).testBit i := by
    rw [packed, setNum_eq_ofBits, BitVec.getLsbD_ofNat]; simp [hi]
  rw [left, right]
  by_cases h : i < n
  · rw [Nat.testBit_ofBits_lt p i h]; exact marksOf_getLsbD p ⟨i, h⟩
  · rw [Nat.testBit_ofBits_ge p i (by omega)]; exact BitVec.getLsbD_of_ge _ _ (by omega)

/-- The answer of CLAIM, CLAIM_WITHDRAW and RELEASE in the words of R69. -/
theorem zoneReply_eq (code : ResultCode) (arm : Arm) (s : State) :
    zoneReply code arm s =
      { code := code, d0 := packed [(0, setNum fun z => decide ((zoneAt s z).holder = some arm))]
        d1 := packed [(0, setNum fun z => decide ((zoneAt s z).holder = some (otherArm arm)))], d2 := 0 } := by
  simp only [zoneReply, heldSet, setAt_marksOf]

/-- An arm's set of zones held is empty when it holds none. -/
theorem heldSet_eq_zero_iff {s : State} {arm : Arm} :
    heldSet s arm = 0#16 ↔ ∀ z : Fin 16, (zoneAt s z).holder ≠ some arm := by
  constructor
  · intro h z held
    have mark := heldSet_getLsbD s arm z
    rw [h] at mark
    simp [held] at mark
  · intro h
    refine BitVec.eq_of_getLsbD_eq fun i hi => ?_
    rw [heldSet_getLsbD s arm ⟨i, hi⟩]
    simp [h]

/-! ### Ranges (R66, R73) -/

theorem covers_iff {c : Claim} {z : Fin 16} : c.covers z = true ↔ c.first ≤ z.val ∧ z.val < c.first + c.count := by
  simp [Claim.covers]

theorem allCovered_iff {s : State} {c : Claim} {p : Fin 16 → Zone → Bool} :
    allCovered s c p = true ↔ ∀ z : Fin 16, c.covers z = true → p z (zoneAt s z) = true := by
  simp [allCovered, List.all_eq_true, or_iff_not_imp_left]

theorem not_allCovered_iff {s : State} {c : Claim} {p : Fin 16 → Zone → Bool} :
    ¬ allCovered s c p = true ↔ ∃ z : Fin 16, c.covers z = true ∧ p z (zoneAt s z) = false := by
  simp [allCovered_iff]

/-- The range that a request names, sound or not. -/
def namedRange (r : Request) : Claim := ⟨r.sel.toNat, r.d0.toNat⟩

/-- The range of a request is refused when it is out of bounds or names an undefined zone. -/
theorem definedRange_eq (r : Request) (s : State) :
    definedRange r s =
      if r.d0.toNat < 1 ∨ 16 < r.d0.toNat ∨ 16 < r.sel.toNat + r.d0.toNat ∨
        ∃ z : Fin 16, (r.sel.toNat ≤ z.val ∧ z.val < r.sel.toNat + r.d0.toNat) ∧ (zoneAt s z).defined = false
      then none else some (namedRange r) := by
  have undefined : ¬ allCovered s (namedRange r) (fun _ z => z.defined) = true ↔
      ∃ z : Fin 16, (r.sel.toNat ≤ z.val ∧ z.val < r.sel.toNat + r.d0.toNat) ∧ (zoneAt s z).defined = false := by
    simp only [not_allCovered_iff, covers_iff, namedRange]
  by_cases bounds : 1 ≤ r.d0.toNat ∧ r.d0.toNat ≤ 16 ∧ r.sel.toNat + r.d0.toNat ≤ 16
  · have range : rangeOf r = some (namedRange r) := if_pos bounds
    have defined : (r.d0.toNat < 1 ∨ 16 < r.d0.toNat ∨ 16 < r.sel.toNat + r.d0.toNat ∨
        ∃ z : Fin 16, (r.sel.toNat ≤ z.val ∧ z.val < r.sel.toNat + r.d0.toNat) ∧ (zoneAt s z).defined = false) ↔
        ¬ allCovered s (namedRange r) (fun _ z => z.defined) = true := by
      rw [undefined]
      exact ⟨fun h => h.elim (by omega) fun h => h.elim (by omega) fun h => h.elim (by omega) id,
        fun h => .inr (.inr (.inr h))⟩
    simp only [definedRange, range, defined, ite_not]
  · have range : rangeOf r = none := if_neg bounds
    simp only [definedRange, range]
    rw [if_pos (by omega)]

/-! ### The verdict (R79) -/

/-- The verdict is VIOLATED exactly when a needed zone is not held. -/
theorem violates_iff {s : State} {arm : Arm} {needed : BitVec 16} :
    violates s arm needed = true ↔
      ∃ z : Fin 16, needed.getLsbD z.val = true ∧ (zoneAt s z).holder ≠ some arm := by
  have bit (z : Fin 16) : (needed &&& ~~~(heldSet s arm)).getLsbD z.val = true ↔
      needed.getLsbD z.val = true ∧ (zoneAt s z).holder ≠ some arm := by
    rw [BitVec.getLsbD_and, BitVec.getLsbD_not, heldSet_getLsbD]; simp
  rw [violates, decide_eq_true_eq]
  constructor
  · intro nonzero
    by_contra none_missing
    push Not at none_missing
    refine nonzero (BitVec.eq_of_getLsbD_eq fun i hi => ?_)
    rw [BitVec.getLsbD_zero, Bool.eq_false_iff]
    intro set
    obtain ⟨needs, missing⟩ := (bit ⟨i, hi⟩).mp set
    exact missing (none_missing ⟨i, hi⟩ needs)
  · rintro ⟨z, missing⟩ zero
    have := (bit z).mpr missing
    rw [zero] at this
    simp at this

section Verdict
variable (arm : Arm) (s : State)

theorem judgeVerdict_unchangedBut :
    unchangedBut [.guard arm, .supervisor arm, .faultSource] s (judgeVerdict arm s) := by
  cases h : s.zones.guards.get arm with
  | none => rw [judgeVerdict_none h]; exact unchangedBut_mono (by simp) (setPresent_unchangedBut _ _ _ _)
  | some g =>
    rw [judgeVerdict_some h]
    exact unchangedBut_append (setGuard_unchangedBut _ _ _) (setPresent_unchangedBut _ _ _ _)

@[simp] theorem zoneAt_judgeVerdict (z : Fin 16) : zoneAt (judgeVerdict arm s) z = zoneAt s z :=
  congrArg (vget · z) (judgeVerdict_unchangedBut arm s .zoneTable (by simp))

@[simp] theorem judgeVerdict_sup_other : (judgeVerdict arm s).sup.get (otherArm arm) = s.sup.get (otherArm arm) := by
  cases h : s.zones.guards.get arm with
  | none => rw [judgeVerdict_none h, setPresent_other]
  | some g => rw [judgeVerdict_some h, setPresent_other, State.setGuard_sup]

theorem judgeVerdict_state (other : Arm) :
    ((judgeVerdict arm s).sup.get other).state = (s.sup.get other).state := by
  by_cases same : other = arm
  · subst same
    cases h : s.zones.guards.get other with
    | none => rw [judgeVerdict_none h, setPresent_state]
    | some g => rw [judgeVerdict_some h, setPresent_state, State.setGuard_sup]
  · rw [eq_other_of_ne same, judgeVerdict_sup_other]

variable {arm s}

/-- Without a guard record the verdict is CLEAR. -/
theorem judgeVerdict_absent (h : s.zones.guards.get arm = none) :
    (judgeVerdict arm s).zones.guards.get arm = none ∧
      ((judgeVerdict arm s).sup.get arm).present = { (s.sup.get arm).present with guard := false } := by
  rw [judgeVerdict_none h]
  exact ⟨by simp [h], setPresent_present ..⟩

/-- With a guard record the verdict follows its needed set and the zones held. -/
theorem judgeVerdict_present {g : GuardRecord} (h : s.zones.guards.get arm = some g) :
    ∃ v : Bool, (judgeVerdict arm s).zones.guards.get arm = some { g with violated := v } ∧
      (v = true ↔ ∃ z : Fin 16, g.needed.getLsbD z.val = true ∧ (zoneAt s z).holder ≠ some arm) ∧
      ((judgeVerdict arm s).sup.get arm).present = { (s.sup.get arm).present with guard := v } := by
  refine ⟨violates s arm g.needed, ?_, violates_iff, ?_⟩
  · rw [judgeVerdict_some h]; simp
  · rw [judgeVerdict_some h, setPresent_present, State.setGuard_sup]; rfl

end Verdict

/-! ### The needed set formed anew (R63, R78) -/

@[simp] theorem neededSet_getLsbD (s : State) (lo hi : Int) (intruding : Bool) (z : Fin 16) :
    (neededSet s lo hi intruding).getLsbD z.val = decide ((zoneAt s z).defined = true ∧ (zoneAt s z).lower ≤ hi ∧
      lo < (zoneAt s z).upper ∧ (intruding = true ∨ (zoneAt s z).kind = .rack)) := by
  rw [neededSet, marksOf_getLsbD, Zone.overlaps, Bool.eq_iff_iff]
  simp [and_assoc]

theorem refreshGuard_none {arm : Arm} {s : State} (h : s.zones.guards.get arm = none) :
    refreshGuard arm s = judgeVerdict arm s := by simp [refreshGuard, h]

theorem refreshGuard_some {arm : Arm} {s : State} {g : GuardRecord} (h : s.zones.guards.get arm = some g) :
    refreshGuard arm s =
      judgeVerdict arm (s.setGuard arm (some { g with needed := neededSet s g.lower g.upper g.intruding })) := by
  simp [refreshGuard, h]

/-- A guard record brought up to date keeps its envelope, with the needed set and the verdict of the present table. -/
theorem refreshGuard_present {arm : Arm} {s : State} {g : GuardRecord} (h : s.zones.guards.get arm = some g) :
    ∃ k, (refreshGuard arm s).zones.guards.get arm = some k ∧
      k = { g with needed := k.needed, violated := k.violated } ∧
      (∀ i : Fin 16, k.needed.getLsbD i.val = decide ((zoneAt s i).defined = true ∧ (zoneAt s i).lower ≤ g.upper ∧
        g.lower < (zoneAt s i).upper ∧ (g.intruding = true ∨ (zoneAt s i).kind = .rack))) ∧
      (k.violated = true ↔ ∃ i : Fin 16, k.needed.getLsbD i.val = true ∧ (zoneAt s i).holder ≠ some arm) ∧
      ((refreshGuard arm s).sup.get arm).present = { (s.sup.get arm).present with guard := k.violated } := by
  rw [refreshGuard_some h]
  obtain ⟨v, record, verdict, present⟩ := judgeVerdict_present (s := s.setGuard arm (some
    { g with needed := neededSet s g.lower g.upper g.intruding })) (PerArm.get_set_same ..)
  exact ⟨_, record, rfl, fun i => neededSet_getLsbD .., verdict, present⟩

section Refresh
variable (arm : Arm) (s : State)

theorem refreshGuard_unchangedBut :
    unchangedBut [.guard arm, .supervisor arm, .faultSource] s (refreshGuard arm s) := by
  cases h : s.zones.guards.get arm with
  | none => rw [refreshGuard_none h]; exact judgeVerdict_unchangedBut _ _
  | some g =>
    rw [refreshGuard_some h]
    exact unchangedBut_trans (unchangedBut_mono (by simp) (setGuard_unchangedBut _ _ _)) (judgeVerdict_unchangedBut _ _)

@[simp] theorem zoneAt_refreshGuard (z : Fin 16) : zoneAt (refreshGuard arm s) z = zoneAt s z :=
  congrArg (vget · z) (refreshGuard_unchangedBut arm s .zoneTable (by simp))

@[simp] theorem refreshGuard_sup_other : (refreshGuard arm s).sup.get (otherArm arm) = s.sup.get (otherArm arm) := by
  cases h : s.zones.guards.get arm with
  | none => rw [refreshGuard_none h, judgeVerdict_sup_other]
  | some g => rw [refreshGuard_some h, judgeVerdict_sup_other, State.setGuard_sup]

theorem refreshGuard_state (other : Arm) : ((refreshGuard arm s).sup.get other).state = (s.sup.get other).state := by
  cases h : s.zones.guards.get arm with
  | none => rw [refreshGuard_none h, judgeVerdict_state]
  | some g => rw [refreshGuard_some h, judgeVerdict_state, State.setGuard_sup]

end Refresh

/-! ### The re-evaluation of a pending claim (R70) -/

section Freed
variable (f : Fin 16 → Zone → Zone) (p : Fin 16 → Zone → Bool) (s : State)

theorem mapZones_sup : (s.mapZones f).sup = s.sup := State.setZoneTable_sup ..

theorem freeZones_unchangedBut : unchangedBut [.zoneTable] s (freeZones p s) := setZoneTable_unchangedBut _ _

@[simp] theorem freeZones_claims : (freeZones p s).zones.claims = s.zones.claims := by
  rw [freeZones, State.mapZones, State.setZoneTable_zones]
@[simp] theorem freeZones_guards : (freeZones p s).zones.guards = s.zones.guards := by
  rw [freeZones, State.mapZones, State.setZoneTable_zones]
@[simp] theorem freeZones_sup : (freeZones p s).sup = s.sup := mapZones_sup ..
@[simp] theorem freeZones_attn : (freeZones p s).attn = s.attn := State.setZoneTable_attn ..
@[simp] theorem freeZones_cellTime : (freeZones p s).cellTime = s.cellTime := State.setZoneTable_cellTime ..

end Freed

theorem markWaiter_unchangedBut (arm : Arm) (c : Claim) (s : State) :
    unchangedBut [.zoneTable] s (markWaiter arm c s) := setZoneTable_unchangedBut _ _

theorem removeClaim_unchangedBut (arm : Arm) (s : State) :
    unchangedBut [.zoneTable, .claim arm] s (removeClaim arm s) := by
  unfold removeClaim
  split
  · exact unchangedBut_refl _ _
  · exact unchangedBut_append (setZoneTable_unchangedBut _ _) (setClaim_unchangedBut _ _ _)

/-- The grant of a pending claim (R70): the claim and its marks removed, the range held, CLAIM attention raised. -/
def grantPending (arm : Arm) (c : Claim) (s : State) : State := raiseClaim arm c (holdRange arm c (removeClaim arm s))

section Reevaluate
variable {arm : Arm} {c : Claim} {s : State}

theorem reevaluateClaim_of_none (h : s.zones.claims.get arm = none) : reevaluateClaim arm s = s := by
  simp [reevaluateClaim, h]

/-- A pending claim is granted when the other arm holds no zone of its range. -/
theorem reevaluateClaim_of_free (h : s.zones.claims.get arm = some c)
    (free : ∀ z : Fin 16, c.covers z = true → (zoneAt s z).holder ≠ some (otherArm arm)) :
    reevaluateClaim arm s = judgeVerdict arm (grantPending arm c s) := by
  have all : allCovered s c (fun _ z => decide (z.holder = none ∨ z.holder = some arm)) = true :=
    allCovered_iff.mpr fun z hz => decide_eq_true (by
      cases holder : (zoneAt s z).holder with
      | none => exact .inl rfl
      | some k =>
        by_contra no
        exact free z hz (by rw [holder, eq_other_of_ne (arm := arm) (other := k) fun same => no (.inr (by rw [same]))]))
  simp only [reevaluateClaim, h, all, if_true]; rfl

/-- A pending claim stays behind a zone that the other arm holds, with its waiter marks renewed. -/
theorem reevaluateClaim_of_blocked (h : s.zones.claims.get arm = some c)
    (blocked : ∃ z : Fin 16, c.covers z = true ∧ (zoneAt s z).holder = some (otherArm arm)) :
    reevaluateClaim arm s = markWaiter arm c s := by
  obtain ⟨z, hz, holder⟩ := blocked
  have notAll : ¬ allCovered s c (fun _ z => decide (z.holder = none ∨ z.holder = some arm)) = true :=
    not_allCovered_iff.mpr ⟨z, hz, by simp [holder]⟩
  simp only [reevaluateClaim, h, if_neg notAll]

/-- What the re-evaluation of a pending claim does, in one of three ways. -/
theorem reevaluateClaim_cases (arm : Arm) (s : State) :
    (s.zones.claims.get arm = none ∧ reevaluateClaim arm s = s) ∨
    (∃ c, s.zones.claims.get arm = some c ∧ reevaluateClaim arm s = judgeVerdict arm (grantPending arm c s)) ∨
    (∃ c, s.zones.claims.get arm = some c ∧ reevaluateClaim arm s = markWaiter arm c s) := by
  cases h : s.zones.claims.get arm with
  | none => exact .inl ⟨rfl, reevaluateClaim_of_none h⟩
  | some c =>
    by_cases free : ∀ z : Fin 16, c.covers z = true → (zoneAt s z).holder ≠ some (otherArm arm)
    · exact .inr (.inl ⟨c, rfl, reevaluateClaim_of_free h free⟩)
    · push Not at free
      exact .inr (.inr ⟨c, rfl, reevaluateClaim_of_blocked h free⟩)

theorem grantPending_unchangedBut (arm : Arm) (c : Claim) (s : State) :
    unchangedBut [.zoneTable, .claim arm, .claimSource arm] s (grantPending arm c s) :=
  unchangedBut_append (unchangedBut_trans (removeClaim_unchangedBut _ _)
    (unchangedBut_mono (by simp) (setZoneTable_unchangedBut _ _))) (raiseClaim_unchangedBut _ _ _)

theorem reevaluateClaim_unchangedBut (arm : Arm) (s : State) :
    unchangedBut [.zoneTable, .claim arm, .claimSource arm, .guard arm, .supervisor arm, .faultSource] s
      (reevaluateClaim arm s) := by
  obtain ⟨-, h⟩ | ⟨c, -, h⟩ | ⟨c, -, h⟩ := reevaluateClaim_cases arm s <;> rw [h]
  · exact unchangedBut_refl _ _
  · exact unchangedBut_append (grantPending_unchangedBut _ _ _) (judgeVerdict_unchangedBut _ _)
  · exact unchangedBut_mono (by simp) (setZoneTable_unchangedBut _ _)

@[simp] theorem zoneAt_raiseClaim (arm : Arm) (c : Claim) (s : State) (z : Fin 16) :
    zoneAt (raiseClaim arm c s) z = zoneAt s z := rfl

/-- The records of a grant: every zone of the range held, the claim's marks and record gone, CLAIM attention raised. -/
theorem zoneAt_grantPending (h : s.zones.claims.get arm = some c) (z : Fin 16) :
    zoneAt (grantPending arm c s) z =
      { zoneAt s z with holder := if c.covers z then some arm else (zoneAt s z).holder
                        waiter := if (zoneAt s z).waiter = some arm then none else (zoneAt s z).waiter } := by
  rw [grantPending, zoneAt_raiseClaim, zoneAt_holdRange, zoneAt_removeClaim, h]
  by_cases covered : c.covers z = true <;> by_cases waits : (zoneAt s z).waiter = some arm <;>
    simp [covered, waits]

theorem claims_grantPending (arm : Arm) (c : Claim) (s : State) :
    (grantPending arm c s).zones.claims = s.zones.claims.set arm none := by
  rw [grantPending, raiseClaim_zones, holdRange, State.mapZones, State.setZoneTable_zones, claims_removeClaim]

theorem claimSource_grantPending (arm : Arm) (c : Claim) (s : State) :
    ((grantPending arm c s).attn.arms.get arm).claim = (s.attn.arms.get arm).claim.raise fun _ => some c := by
  have removed := removeClaim_unchangedBut arm s (.claimSource arm) (by simp)
  rw [grantPending, claimSource_raiseClaim]
  exact congrArg (Source.raise _) removed

theorem grantPending_sup (arm : Arm) (c : Claim) (s : State) : (grantPending arm c s).sup = s.sup := by
  have removed : (removeClaim arm s).sup = s.sup := by
    cases h : s.zones.claims.get arm <;> simp [removeClaim, h, mapZones_sup]
  rw [grantPending, raiseClaim_sup, holdRange, mapZones_sup, removed]

theorem reevaluateClaim_sup_other (arm : Arm) (s : State) :
    (reevaluateClaim arm s).sup.get (otherArm arm) = s.sup.get (otherArm arm) := by
  obtain ⟨-, h⟩ | ⟨c, -, h⟩ | ⟨c, -, h⟩ := reevaluateClaim_cases arm s <;> rw [h]
  · rw [judgeVerdict_sup_other, grantPending_sup]
  · rw [markWaiter, mapZones_sup]

/-- A re-evaluation gives zones to the claimant alone and frees none. -/
theorem holder_reevaluateClaim (arm : Arm) (s : State) (z : Fin 16) :
    (zoneAt (reevaluateClaim arm s) z).holder = (zoneAt s z).holder ∨
      (zoneAt (reevaluateClaim arm s) z).holder = some arm := by
  obtain ⟨-, h⟩ | ⟨c, pending, h⟩ | ⟨c, -, h⟩ := reevaluateClaim_cases arm s <;> rw [h]
  · exact .inl rfl
  · rw [zoneAt_judgeVerdict, zoneAt_grantPending pending]
    by_cases covered : c.covers z = true
    · exact .inr (if_pos covered)
    · exact .inl (if_neg covered)
  · rw [zoneAt_markWaiter]
    split <;> exact .inl rfl

/-- A grant leaves the claim absent, its range held with the claim's marks gone, CLAIM attention raised, and the
claimant's verdict judged against its new holdings (R70). -/
theorem reevaluateClaim_grants (h : s.zones.claims.get arm = some c)
    (free : ∀ z : Fin 16, c.covers z = true → (zoneAt s z).holder ≠ some (otherArm arm)) :
    (reevaluateClaim arm s).zones.claims.get arm = none ∧
    (∀ z : Fin 16, zoneAt (reevaluateClaim arm s) z =
      { zoneAt s z with holder := if c.covers z then some arm else (zoneAt s z).holder
                        waiter := if (zoneAt s z).waiter = some arm then none else (zoneAt s z).waiter }) ∧
    ((reevaluateClaim arm s).attn.arms.get arm).claim = (s.attn.arms.get arm).claim.raise (fun _ => some c) ∧
    ∀ g ∈ s.zones.guards.get arm, ∃ v : Bool,
      (reevaluateClaim arm s).zones.guards.get arm = some { g with violated := v } ∧
      (v = true ↔ ∃ z : Fin 16, g.needed.getLsbD z.val = true ∧
        (zoneAt (reevaluateClaim arm s) z).holder ≠ some arm) ∧
      ((reevaluateClaim arm s).sup.get arm).present = { (s.sup.get arm).present with guard := v } := by
  rw [reevaluateClaim_of_free h free]
  have judged := judgeVerdict_unchangedBut arm (grantPending arm c s)
  refine ⟨(judged (.claim arm) (by simp)).trans (by simp [claims_grantPending]), fun z => ?_,
    (judged (.claimSource arm) (by simp)).trans ?_, fun g hg => ?_⟩
  · rw [zoneAt_judgeVerdict, zoneAt_grantPending h]
  · exact claimSource_grantPending arm c s
  · have guard := (grantPending_unchangedBut arm c s (.guard arm) (by simp)).trans hg
    simpa only [zoneAt_judgeVerdict, grantPending_sup] using judgeVerdict_present guard

/-- By R64 a re-evaluation is that of one arm's claim. -/
theorem reevaluate_of_none (h : s.zones.claims.get (otherArm arm) = none) : reevaluate s = reevaluateClaim arm s := by
  cases arm with
  | a =>
    have kept := reevaluateClaim_unchangedBut .a s (.claim .b) (by decide)
    exact reevaluateClaim_of_none (kept.trans h)
  | b => rw [reevaluate, reevaluateClaim_of_none (arm := .a) h]

end Reevaluate

/-! ### Sound claims (R64) -/

section Sound
variable {s : State} (hs : ClaimsSound s) {arm : Arm}
include hs

/-- While one arm has a pending claim the other has none. -/
theorem ClaimsSound.other_none {c : Claim} (h : s.zones.claims.get arm = some c) :
    s.zones.claims.get (otherArm arm) = none := by
  cases arm with
  | a => exact hs.one.resolve_left fun absent => by rw [show s.zones.claims.a = some c from h] at absent; cases absent
  | b => exact hs.one.resolve_right fun absent => by rw [show s.zones.claims.b = some c from h] at absent; cases absent

/-- An arm without a pending claim waits on no zone. -/
theorem ClaimsSound.waiter_ne (h : s.zones.claims.get arm = none) (z : Fin 16) : (zoneAt s z).waiter ≠ some arm := by
  rw [ne_eq, hs.waiter arm z, h]; simp

/-- While an arm's claim is pending it alone waits, on every zone of the range that it does not hold. -/
theorem ClaimsSound.waiter_iff {c : Claim} (h : s.zones.claims.get arm = some c) (z : Fin 16) :
    (zoneAt s z).waiter = some arm ↔ c.covers z = true ∧ (zoneAt s z).holder ≠ some arm := by
  rw [hs.waiter arm z, h]; simp

/-- A DISABLED arm has no pending claim. -/
theorem ClaimsSound.none_of_disabled (h : (s.sup.get arm).state = .disabled) : s.zones.claims.get arm = none := by
  cases claim : s.zones.claims.get arm with
  | none => rfl
  | some c => exact absurd h (hs.range arm c claim).1

end Sound

end Sys2Proof.Machine
end

section
/-! PROOFS. ZONE_DEFINE: the checks of Table 4.2, the record written and both needed sets formed anew (R62, R63). -/

namespace Sys2Proof.Machine

/-- The first check of Table 4.2, from the second on, that a ZONE_DEFINE of a zone fails. -/
def zoneDefineRefusal (r : Request) (z : Fin 16) (s : State) : Option ResultCode :=
  let lower := r.d0.toInt
  let upper := r.d1.toInt
  if s.sup.a.state ≠ .disabled ∨ s.sup.b.state ≠ .disabled then some .state
  else if ∃ i : Fin 16, (zoneAt s i).holder ≠ none then some .inUse
  else if 2 < r.d2.toNat then some .outOfRange
  else if r.d2 ≠ 0 ∧ (lower < -2000000000 ∨ 2000000000 < lower ∨ upper < -2000000000 ∨ 2000000000 < upper ∨
      upper ≤ lower) then some .outOfRange
  else if r.d2 ≠ 0 ∧ ∃ i : Fin 16, (i ≠ z ∧ (zoneAt s i).defined = true) ∧ lower < (zoneAt s i).upper ∧
      (zoneAt s i).lower < upper then some .outOfRange
  else if r.d2 = 2 ∧ ∃ i : Fin 16, (i ≠ z ∧ (zoneAt s i).defined = true) ∧ (zoneAt s i).kind = .rack then
    some .outOfRange
  else none

/-- The record that a taken ZONE_DEFINE writes over a zone (R63). -/
def zoneDefined (r : Request) (old : Zone) : Zone :=
  { old with defined := decide (r.d2 ≠ 0), lower := if r.d2 = 0 then 0 else r.d0.toInt
             upper := if r.d2 = 0 then 0 else r.d1.toInt, kind := if r.d2 = 2 then .rack else .body }

/-! ### The checks as statements -/

theorem someHolder_iff {s : State} :
    ((List.finRange 16).any fun i => (zoneAt s i).holder.isSome) = true ↔ ∃ i : Fin 16, (zoneAt s i).holder ≠ none := by
  simp [List.any_eq_true, Option.isSome_iff_ne_none]

theorem sharesPoint_iff {s : State} {z : Fin 16} {lower upper : Int} :
    sharesPoint s z lower upper = true ↔ ∃ i : Fin 16, (i ≠ z ∧ (zoneAt s i).defined = true) ∧
      lower < (zoneAt s i).upper ∧ (zoneAt s i).lower < upper := by
  simp [sharesPoint, List.any_eq_true]

theorem otherRackZone_iff {s : State} {z : Fin 16} :
    otherRackZone s z = true ↔
      ∃ i : Fin 16, (i ≠ z ∧ (zoneAt s i).defined = true) ∧ (zoneAt s i).kind = .rack := by
  simp [otherRackZone, List.any_eq_true, and_assoc, and_comm, and_left_comm]

theorem bounds_iff {lower upper : Int} :
    ¬ (inCounts lower = true ∧ inCounts upper = true ∧ lower < upper) ↔
      lower < -2000000000 ∨ 2000000000 < lower ∨ upper < -2000000000 ∨ 2000000000 < upper ∨ upper ≤ lower := by
  rw [inCounts_iff, inCounts_iff]; omega

theorem zoneActionOfCode_eq_none {c : Nat} (h : 2 < c) : zoneActionOfCode c = none := by
  obtain ⟨n, rfl⟩ := Nat.exists_eq_add_of_le h
  rw [show Nat.succ 2 + n = n + 3 by omega]; rfl

/-- The kind of zone that a define action names. -/
def definedKind (action : Word) : ZoneKind := if action = 2 then .rack else .body

theorem definedKind_eq_rack {action : Word} : definedKind action = .rack ↔ action = 2 := by
  unfold definedKind; split <;> simp_all

theorem zoneActionOfCode_define {action : Word} (known : ¬ 2 < action.toNat) (define : action ≠ 0) :
    zoneActionOfCode action.toNat = some (.define (definedKind action)) := by
  have : action = 1 ∨ action = 2 := by bv_omega
  obtain rfl | rfl := this <;> rfl

/-- The first failing check of Table 4.2 decides, or the zone is redefined (R62, R63). -/
theorem zoneDefine_eq {r : Request} {z : Fin 16} (hz : z.val = r.sel.toNat) (s : State) :
    zoneDefine r s = (zoneDefineRefusal r z s).elim (okay (redefineZone z (zoneDefined r (zoneAt s z)) s))
      fun code => refuse code s := by
  simp only [zoneDefine, indexOf_eq_some hz, zoneDefineRefusal, someHolder_iff, sharesPoint_iff, otherRackZone_iff,
    bounds_iff]
  by_cases running : s.sup.a.state ≠ .disabled ∨ s.sup.b.state ≠ .disabled
  · rw [if_pos running, if_pos running]; rfl
  rw [if_neg running, if_neg running]
  by_cases used : ∃ i : Fin 16, (zoneAt s i).holder ≠ none
  · rw [if_pos used, if_pos used]; rfl
  rw [if_neg used, if_neg used]
  by_cases high : 2 < r.d2.toNat
  · rw [zoneActionOfCode_eq_none high, if_pos high]; rfl
  rw [if_neg high]
  by_cases undefine : r.d2 = 0
  · simp [undefine, zoneActionOfCode, zoneDefined, Zone.reset]
  have record : ({ zoneAt s z with
      defined := true, lower := r.d0.toInt, upper := r.d1.toInt, kind := definedKind r.d2 } : Zone) =
      zoneDefined r (zoneAt s z) := by
    rw [zoneDefined, if_neg undefine, if_neg undefine, decide_eq_true (p := r.d2 ≠ 0) undefine]; rfl
  simp only [zoneActionOfCode_define high undefine, definedKind_eq_rack, record, ne_eq, undefine, not_false_eq_true,
    true_and]
  split_ifs <;> rfl

theorem zoneDefineRefusal_acceptFrame (r : Request) (z : Fin 16) (s : State) :
    zoneDefineRefusal r z (acceptFrame .cell s) = zoneDefineRefusal r z s := rfl

/-- A taken ZONE_DEFINE finds both arms DISABLED (Table 4.2, check 2). -/
theorem disabled_of_zoneDefineRefusal {r : Request} {z : Fin 16} {s : State} (h : zoneDefineRefusal r z s = none)
    (arm : Arm) : (s.sup.get arm).state = .disabled := by
  have both : ¬ (s.sup.a.state ≠ .disabled ∨ s.sup.b.state ≠ .disabled) := fun running => by
    simp only [zoneDefineRefusal, if_pos running] at h
    cases h
  push Not at both
  cases arm
  exacts [both.1, both.2]

/-! ### The record written and the guard records (R63) -/

section Redefine
variable (z : Fin 16) (record : Zone) (s : State)

theorem redefineZone_unchangedBut :
    unchangedBut [.zoneTable, .guard .a, .supervisor .a, .faultSource, .guard .b, .supervisor .b, .faultSource] s
      (redefineZone z record s) :=
  unchangedBut_append (unchangedBut_append (setZoneTable_unchangedBut _ _) (refreshGuard_unchangedBut _ _))
    (refreshGuard_unchangedBut _ _)

theorem zoneAt_redefineZone (i : Fin 16) :
    zoneAt (redefineZone z record s) i = if i = z then record else zoneAt s i := by
  rw [redefineZone, zoneAt_refreshGuard, zoneAt_refreshGuard, zoneAt_setZoneTable, vget_vput]; rfl

theorem redefineZone_state (arm : Arm) : ((redefineZone z record s).sup.get arm).state = (s.sup.get arm).state := by
  rw [redefineZone, refreshGuard_state, refreshGuard_state, State.setZoneTable_sup]

/-- Each arm's guard record and supervisor are those of its own refresh, over a state with the new table. -/
theorem redefineZone_refreshes (arm : Arm) :
    ∃ u : State, u.zones.guards.get arm = s.zones.guards.get arm ∧ u.sup.get arm = s.sup.get arm ∧
      (∀ i, zoneAt u i = zoneAt (redefineZone z record s) i) ∧
      (redefineZone z record s).zones.guards.get arm = (refreshGuard arm u).zones.guards.get arm ∧
      (redefineZone z record s).sup.get arm = (refreshGuard arm u).sup.get arm := by
  cases arm with
  | a =>
    refine ⟨s.setZoneTable (vput s.zones.table z record), rfl, rfl, fun i => by simp [redefineZone], ?_,
      refreshGuard_sup_other .b _⟩
    exact refreshGuard_unchangedBut .b _ (.guard .a) (by decide)
  | b =>
    refine ⟨refreshGuard .a (s.setZoneTable (vput s.zones.table z record)), ?_, refreshGuard_sup_other .a _,
      fun i => by simp [redefineZone], rfl, rfl⟩
    exact refreshGuard_unchangedBut .a _ (.guard .b) (by decide)

end Redefine

/-! ### The request -/

/-- ZONE_DEFINE on the Cell link, refused by the first check it fails (R62). -/
theorem exec_zoneDefine_of_refusal {r : Request} {s : State} {z : Fin 16} {code : ResultCode} (hc : onCell r s)
    (hz : z.val = r.sel.toNat) (h : zoneDefineRefusal r z s = some code) :
    exec (.zoneDefine r) s = .next (refusedOnCell code s) := by
  refine congrArg Host.Outcome.next (handleRequest_cell_of_refuse hc ?_)
  rw [zoneDefine_eq hz, zoneDefineRefusal_acceptFrame, h]
  rfl

/-- ZONE_DEFINE on the Cell link, taken (R63). -/
theorem exec_zoneDefine_of_taken {r : Request} {s : State} {z : Fin 16} (hc : onCell r s) (hz : z.val = r.sel.toNat)
    (h : zoneDefineRefusal r z s = none) :
    exec (.zoneDefine r) s = .next (endEvent .cell { code := .ok, d0 := 0, d1 := 0, d2 := 0 } s
      (redefineZone z (zoneDefined r (zoneAt s z)) (acceptFrame .cell s))) := by
  refine congrArg Host.Outcome.next (handleRequest_onCell hc _ ?_)
  rw [zoneDefine_eq hz, zoneDefineRefusal_acceptFrame, h, zoneAt_acceptFrame]
  rfl

/-- A taken ZONE_DEFINE reaches the port, the table, the guard records and the supervisors (R63). -/
theorem zoneDefine_unchangedBut (z : Fin 16) (record : Zone) (reply : Reply) {s : State}
    (disabled : ∀ arm, (s.sup.get arm).state = .disabled) :
    unchangedBut [.port .cell, .zoneTable, .guard .a, .guard .b, .supervisor .a, .supervisor .b, .faultSource] s
      (endEvent .cell reply s (redefineZone z record (acceptFrame .cell s))) := by
  have still (arm : Arm) : ((redefineZone z record (acceptFrame .cell s)).sup.get arm).state = .disabled :=
    (redefineZone_state z record _ arm).trans (disabled arm)
  have concluded : conclude s .plain (redefineZone z record (acceptFrame .cell s)) =
      redefineZone z record (acceptFrame .cell s) :=
    (conclude_of_disabled (still .a) s .plain).trans (judgeArm_of_disabled (still .b) s .plain)
  rw [endEvent, concluded]
  exact unchangedBut_mono (by decide) (unchangedBut_append (unchangedBut_append
    (modPort_unchangedBut _ _ _ : unchangedBut [.port .cell] s (acceptFrame .cell s))
    (redefineZone_unchangedBut z record _)) (modPort_unchangedBut _ .cell _))

/-- Settles O26: the first failing check, or the record written and each arm's refresh over the new table. -/
theorem zoneDefineWritesTheTable : Obligations.ZoneDefineWritesTheTable := by
  refine fun r s => ⟨deniedToArms_of_cellLink rfl, fun hc => ⟨fun hsel => ?_, fun z hz => ?_⟩⟩
  · refine congrArg Host.Outcome.next (handleRequest_cell_of_refuse hc ?_)
    simp only [zoneDefine, indexOf_eq_none hsel]
  intro lower upper refusal
  have hrefusal : refusal = zoneDefineRefusal r z s := rfl
  rw [hrefusal]
  refine ⟨fun code h => exec_zoneDefine_of_refusal hc hz h, fun h => ⟨_, exec_zoneDefine_of_taken hc hz h, ?_, ?_, ?_,
    ?_, zoneDefine_unchangedBut _ _ _ (disabled_of_zoneDefineRefusal h)⟩⟩
  · rw [zoneAt_endEvent, zoneAt_redefineZone, if_pos rfl]; rfl
  · intro i hi
    rw [zoneAt_endEvent, zoneAt_redefineZone, if_neg hi, zoneAt_acceptFrame]
  · intro arm
    obtain ⟨u, guard, sup, table, guard', sup'⟩ :=
      redefineZone_refreshes z (zoneDefined r (zoneAt s z)) (acceptFrame .cell s) arm
    simp only [endEvent_zones, endEvent_present, zoneAt_endEvent, ← table, guard', sup']
    rw [acceptFrame_zones] at guard
    have supervisor : u.sup.get arm = s.sup.get arm := sup
    rw [← guard, ← supervisor]
    refine ⟨fun absent => ?_, fun g present => refreshGuard_present present⟩
    rw [refreshGuard_none absent]
    exact judgeVerdict_absent absent
  · refine endEvent_port ?_ _
    exact redefineZone_unchangedBut z _ _ (.port .cell) (by decide)


end Sys2Proof.Machine
end

section
/-! PROOFS. RELEASE: its four checks, the range freed and the pending claim re-evaluated (R69, R70, R73). -/

namespace Sys2Proof.Machine

/-! ### The checks -/

/-- The first check of R73 that a RELEASE fails. -/
def releaseRefusal (arm : Arm) (r : Request) (s : State) : Option ResultCode :=
  let first := r.sel.toNat
  let count := r.d0.toNat
  if count < 1 ∨ 16 < count ∨ 16 < first + count ∨
      ∃ z : Fin 16, (first ≤ z.val ∧ z.val < first + count) ∧ (zoneAt s z).defined = false then some .badSelector
  else if ∃ z : Fin 16, (first ≤ z.val ∧ z.val < first + count) ∧ (zoneAt s z).holder ≠ some arm then some .notHeld
  else if ∃ z : Fin 16, (first ≤ z.val ∧ z.val < first + count) ∧
      ∃ g ∈ s.zones.guards.get arm, g.needed.getLsbD z.val = true then some .inUse
  else if (s.rack.changes.get arm).phase ≠ .idle ∧
      ∃ z : Fin 16, (first ≤ z.val ∧ z.val < first + count) ∧ (zoneAt s z).kind = .rack then some .inUse
  else none

theorem neededBit_iff {g : Option GuardRecord} {z : Fin 16} :
    ((g.map fun g => g.needed).getD 0#16).getLsbD z.val = true ↔ ∃ k ∈ g, k.needed.getLsbD z.val = true := by
  cases g <;> simp

/-- The first failing check of R73 decides, or the range is freed and the pending claim re-evaluated. -/
theorem releaseBy_eq (arm : Arm) (r : Request) (s : State) :
    releaseBy arm r s = (releaseRefusal arm r s).elim
      (zoneAct .ok arm (reevaluate (freeZones (fun z _ => (namedRange r).covers z) s)))
      fun code => zoneAct code arm s := by
  have notHeld : (¬ allCovered s (namedRange r) (fun _ z => decide (z.holder = some arm)) = true) ↔
      ∃ z : Fin 16, (r.sel.toNat ≤ z.val ∧ z.val < r.sel.toNat + r.d0.toNat) ∧ (zoneAt s z).holder ≠ some arm := by
    simp only [not_allCovered_iff, covers_iff, namedRange, decide_eq_false_iff_not, ne_eq]
  have needed : (¬ allCovered s (namedRange r)
        (fun i _ => !(((s.zones.guards.get arm).map fun g => g.needed).getD 0#16).getLsbD i.val) = true) ↔
      ∃ z : Fin 16, (r.sel.toNat ≤ z.val ∧ z.val < r.sel.toNat + r.d0.toNat) ∧
        ∃ g ∈ s.zones.guards.get arm, g.needed.getLsbD z.val = true := by
    simp only [not_allCovered_iff, covers_iff, namedRange, Bool.not_eq_false', neededBit_iff]
  have rack : (¬ allCovered s (namedRange r) (fun _ z => decide (z.kind ≠ .rack)) = true) ↔
      ∃ z : Fin 16, (r.sel.toNat ≤ z.val ∧ z.val < r.sel.toNat + r.d0.toNat) ∧ (zoneAt s z).kind = .rack := by
    simp only [not_allCovered_iff, covers_iff, namedRange, decide_eq_false_iff_not, not_not]
  have opened : changeOpen s arm = true ↔ (s.rack.changes.get arm).phase ≠ .idle := decide_eq_true_iff
  simp only [releaseBy, releaseRefusal, definedRange_eq]
  by_cases range : r.d0.toNat < 1 ∨ 16 < r.d0.toNat ∨ 16 < r.sel.toNat + r.d0.toNat ∨
      ∃ z : Fin 16, (r.sel.toNat ≤ z.val ∧ z.val < r.sel.toNat + r.d0.toNat) ∧ (zoneAt s z).defined = false
  · rw [if_pos range, if_pos range]; rfl
  rw [if_neg range, if_neg range]
  simp only [notHeld, needed, rack, opened]
  split_ifs <;> rfl

theorem releaseRefusal_acceptFrame (arm : Arm) (r : Request) (l : Link) (s : State) :
    releaseRefusal arm r (acceptFrame l s) = releaseRefusal arm r s := by
  simp only [releaseRefusal, zoneAt_acceptFrame, acceptFrame_zones, acceptFrame_rack]

/-- A taken RELEASE names zones that the arm holds (R73, check 2). -/
theorem held_of_releaseRefusal {arm : Arm} {r : Request} {s : State} (h : releaseRefusal arm r s = none) {z : Fin 16}
    (hz : r.sel.toNat ≤ z.val ∧ z.val < r.sel.toNat + r.d0.toNat) : (zoneAt s z).holder = some arm := by
  by_contra notHeld
  have missing : ∃ z : Fin 16, (r.sel.toNat ≤ z.val ∧ z.val < r.sel.toNat + r.d0.toNat) ∧
      (zoneAt s z).holder ≠ some arm := ⟨z, hz, notHeld⟩
  simp only [releaseRefusal, if_pos missing] at h
  split_ifs at h

/-! ### The range freed -/

/-- The holder of a zone with the range of the request freed. -/
def freedHolder (r : Request) (s : State) (z : Fin 16) : Option Arm :=
  if r.sel.toNat ≤ z.val ∧ z.val < r.sel.toNat + r.d0.toNat then none else (zoneAt s z).holder

/-- The state in which the pending claim is re-evaluated: the frame accepted and the range freed (R73). -/
def released (arm : Arm) (r : Request) (s : State) : State :=
  freeZones (fun z _ => (namedRange r).covers z) (acceptFrame (linkOf arm) s)

section Released
variable (arm : Arm) (r : Request) (s : State)

theorem zoneAt_released (z : Fin 16) :
    zoneAt (released arm r s) z = { zoneAt s z with holder := freedHolder r s z } := by
  rw [released, zoneAt_freeZones, zoneAt_acceptFrame]
  simp only [covers_iff, namedRange, freedHolder]
  split <;> rfl

@[simp] theorem released_claims : (released arm r s).zones.claims = s.zones.claims := by simp [released]
@[simp] theorem released_guards : (released arm r s).zones.guards = s.zones.guards := by simp [released]

theorem released_sup : (released arm r s).sup = (acceptFrame (linkOf arm) s).sup := freeZones_sup ..

theorem released_sup_other : (released arm r s).sup.get (otherArm arm) = s.sup.get (otherArm arm) := by
  rw [released_sup, acceptFrame_sup_other]

theorem released_unchangedBut :
    unchangedBut [.port (linkOf arm), .supervisor arm, .zoneTable] s (released arm r s) :=
  unchangedBut_append (acceptFrame_arm_unchangedBut _ _) (freeZones_unchangedBut _ _)

theorem reevaluate_released_unchangedBut :
    unchangedBut [.port (linkOf arm), .zoneTable, .claim .a, .claim .b, .guard .a, .guard .b, .supervisor .a,
      .supervisor .b, .faultSource, .claimSource .a, .claimSource .b] s (reevaluate (released arm r s)) :=
  unchangedBut_mono (by cases arm <;> decide) (unchangedBut_append (released_unchangedBut arm r s)
    (unchangedBut_append (reevaluateClaim_unchangedBut .a _) (reevaluateClaim_unchangedBut .b _)))

theorem reevaluate_released_port (l : Link) :
    (reevaluate (released arm r s)).ports.get l = (acceptFrame (linkOf arm) s).ports.get l :=
  unchangedBut_append (freeZones_unchangedBut _ _) (unchangedBut_append (reevaluateClaim_unchangedBut .a _)
    (reevaluateClaim_unchangedBut .b _)) (.port l) (by simp)

end Released

/-! ### The re-evaluation after a release -/

section Release
variable {arm : Arm} {r : Request} {s : State} {c : Claim}

/-- With no pending claim of the arm itself the re-evaluation is that of the other arm's. -/
theorem reevaluate_released_of_none (h : s.zones.claims.get arm = none) :
    reevaluate (released arm r s) = reevaluateClaim (otherArm arm) (released arm r s) :=
  reevaluate_of_none (by rw [released_claims, otherArm_otherArm]; exact h)

/-- A release does not reach the verdict of an arm that has no pending claim (R73). -/
theorem release_sup_own (h : s.zones.claims.get arm = none) :
    (conclude s .plain (reevaluate (released arm r s))).sup.get arm = (frameEnded (linkOf arm) s).sup.get arm := by
  have kept := reevaluateClaim_sup_other (otherArm arm) (released arm r s)
  rw [otherArm_otherArm] at kept
  rw [reevaluate_released_of_none h]
  refine conclude_sup_congr (kept.trans (congrArg (·.get arm) (released_sup arm r s))) ?_ s .plain
  exact (reevaluateClaim_unchangedBut _ _ .time (by simp)).trans (freeZones_cellTime _ _)

/-- The other arm's claim, with no zone of its range left to this arm, is granted whole (R70). -/
theorem release_grants_other (hs : ClaimsSound s) (hc : s.zones.claims.get (otherArm arm) = some c)
    (free : ∀ z : Fin 16, c.covers z = true → freedHolder r s z ≠ some arm) :
    let u := reevaluate (released arm r s)
    u.zones.claims.get (otherArm arm) = none ∧
    (∀ z : Fin 16, (zoneAt u z).holder = (if c.covers z then some (otherArm arm) else freedHolder r s z) ∧
      (zoneAt u z).waiter = none) ∧
    (u.attn.arms.get (otherArm arm)).claim = (s.attn.arms.get (otherArm arm)).claim.raise (fun _ => some c) ∧
    ∀ g ∈ s.zones.guards.get (otherArm arm), ∃ v : Bool,
      u.zones.guards.get (otherArm arm) = some { g with violated := v } ∧
      (v = true ↔ ∃ z : Fin 16, g.needed.getLsbD z.val = true ∧ (zoneAt u z).holder ≠ some (otherArm arm)) ∧
      (u.sup.get (otherArm arm)).present = { (s.sup.get (otherArm arm)).present with guard := v } := by
  have own : s.zones.claims.get arm = none := by simpa using hs.other_none hc
  obtain ⟨claims, zones, attention, verdict⟩ := reevaluateClaim_grants (arm := otherArm arm)
    (s := released arm r s) (c := c) (by rw [released_claims]; exact hc)
    (fun z hz => by rw [zoneAt_released, otherArm_otherArm]; exact free z hz)
  simp only [reevaluate_released_of_none own]
  refine ⟨claims, fun z => ?_, attention.trans ?_, ?_⟩
  · rw [zones z, zoneAt_released]
    refine ⟨rfl, ?_⟩
    have notOwn := hs.waiter_ne own z
    cases waiter : (zoneAt s z).waiter with
    | none => simp
    | some k => simp [eq_other_of_ne (arm := arm) (other := k) fun same => notOwn (by rw [waiter, same])]
  · exact congrArg (Source.raise _) (released_unchangedBut arm r s (.claimSource (otherArm arm)) (by simp))
  · simpa only [released_guards, released_sup_other] using verdict

/-- A taken release frees no zone of the other arm. -/
theorem holder_ne_of_freedHolder_ne (taken : releaseRefusal arm r s = none) {z : Fin 16}
    (h : freedHolder r s z ≠ some (otherArm arm)) : (zoneAt s z).holder ≠ some (otherArm arm) := by
  by_cases inRange : r.sel.toNat ≤ z.val ∧ z.val < r.sel.toNat + r.d0.toNat
  · rw [held_of_releaseRefusal taken inRange]; exact fun same => otherArm_ne arm (Option.some.inj same).symm
  · rwa [freedHolder, if_neg inRange] at h

/-- The other arm's claim, behind a zone that this arm still holds, stays as it stands (R70). -/
theorem release_keeps_other (hs : ClaimsSound s) (taken : releaseRefusal arm r s = none)
    (hc : s.zones.claims.get (otherArm arm) = some c)
    (blocked : ∃ z : Fin 16, c.covers z = true ∧ freedHolder r s z = some arm) :
    let u := reevaluate (released arm r s)
    u.zones.claims.get (otherArm arm) = some c ∧ u.sup.get (otherArm arm) = s.sup.get (otherArm arm) ∧
    u.zones.guards.get (otherArm arm) = s.zones.guards.get (otherArm arm) ∧
    (u.attn.arms.get (otherArm arm)).claim = (s.attn.arms.get (otherArm arm)).claim ∧
    ∀ z : Fin 16, (zoneAt u z).holder = freedHolder r s z ∧ (zoneAt u z).waiter = (zoneAt s z).waiter := by
  have own : s.zones.claims.get arm = none := by simpa using hs.other_none hc
  have waits : reevaluate (released arm r s) = markWaiter (otherArm arm) c (released arm r s) := by
    rw [reevaluate_released_of_none own]
    obtain ⟨z, hz, holder⟩ := blocked
    exact reevaluateClaim_of_blocked (by rw [released_claims]; exact hc)
      ⟨z, hz, by rw [zoneAt_released, otherArm_otherArm]; exact holder⟩
  have kept := markWaiter_unchangedBut (otherArm arm) c (released arm r s)
  simp only [waits]
  refine ⟨(kept (.claim _) (by simp)).trans (by rw [released_claims]; exact hc), ?_,
    (kept (.guard _) (by simp)).trans (by rw [released_guards]),
    (kept (.claimSource _) (by simp)).trans (released_unchangedBut arm r s (.claimSource _) (by simp)), fun z => ?_⟩
  · rw [markWaiter, mapZones_sup, released_sup_other]
  · rw [zoneAt_markWaiter, zoneAt_released]
    split
    · next marked =>
      obtain ⟨covered, notHeld⟩ := marked
      exact ⟨rfl, ((hs.waiter_iff hc z).mpr ⟨covered, holder_ne_of_freedHolder_ne taken notHeld⟩).symm⟩
    · exact ⟨rfl, rfl⟩

/-- The arm's own claim, with no zone of its range held by the other arm, is granted (R70). -/
theorem release_grants_own (hs : ClaimsSound s) (hc : s.zones.claims.get arm = some c)
    (free : ∀ z : Fin 16, c.covers z = true → freedHolder r s z ≠ some (otherArm arm)) :
    (reevaluate (released arm r s)).zones.claims.get arm = none ∧
      ∀ z : Fin 16, c.covers z = true → (zoneAt (reevaluate (released arm r s)) z).holder = some arm := by
  have hc' : (released arm r s).zones.claims.get arm = some c := by rw [released_claims]; exact hc
  obtain ⟨claims, zones, -, -⟩ := reevaluateClaim_grants hc'
    (fun z hz => by rw [zoneAt_released]; exact free z hz)
  rw [reevaluate_of_none (arm := arm) (by rw [released_claims]; exact hs.other_none hc)]
  exact ⟨claims, fun z hz => by rw [zones z, if_pos hz]⟩

/-- The arm's own claim, behind a zone of the other arm, waits again on what was released (R70). -/
theorem release_keeps_own (hs : ClaimsSound s) (hc : s.zones.claims.get arm = some c)
    (blocked : ∃ z : Fin 16, c.covers z = true ∧ freedHolder r s z = some (otherArm arm)) :
    (reevaluate (released arm r s)).zones.claims.get arm = some c ∧
      ∀ z : Fin 16, (zoneAt (reevaluate (released arm r s)) z).holder = freedHolder r s z ∧
        (c.covers z = true → freedHolder r s z ≠ some arm →
          (zoneAt (reevaluate (released arm r s)) z).waiter = some arm) := by
  have hc' : (released arm r s).zones.claims.get arm = some c := by rw [released_claims]; exact hc
  obtain ⟨z, hz, holder⟩ := blocked
  rw [reevaluate_of_none (arm := arm) (by rw [released_claims]; exact hs.other_none hc),
    reevaluateClaim_of_blocked hc' ⟨z, hz, by rw [zoneAt_released]; exact holder⟩]
  refine ⟨(markWaiter_unchangedBut arm c _ (.claim arm) (by simp)).trans hc', fun i => ?_⟩
  rw [zoneAt_markWaiter, zoneAt_released]
  refine ⟨by split <;> rfl, fun covered notHeld => ?_⟩
  rw [if_pos ⟨covered, notHeld⟩]

end Release

/-! ### The request -/

/-- RELEASE on an arm link, refused by the first check it fails (R69, R73). -/
theorem exec_release_of_refusal {arm : Arm} {r : Request} {s : State} {code : ResultCode} (ha : onArm arm r s)
    (h : releaseRefusal arm r s = some code) :
    exec (.release r) s = .next (answered (linkOf arm) (zoneReply code arm s) (frameEnded (linkOf arm) s)) := by
  refine congrArg Host.Outcome.next ?_
  rw [← endEvent_acceptFrame]
  refine handleRequest_onArm ha (fun arm => releaseBy arm r) ?_
  rw [releaseBy_eq, releaseRefusal_acceptFrame, h]
  simp [zoneAct, zoneReply_eq]

/-- RELEASE on an arm link, taken (R73). -/
theorem exec_release_of_taken {arm : Arm} {r : Request} {s : State} (ha : onArm arm r s)
    (h : releaseRefusal arm r s = none) :
    exec (.release r) s = .next (endEvent (linkOf arm) (zoneReply .ok arm (reevaluate (released arm r s))) s
      (reevaluate (released arm r s))) := by
  refine congrArg Host.Outcome.next (handleRequest_onArm ha (fun arm => releaseBy arm r) ?_)
  rw [releaseBy_eq, releaseRefusal_acceptFrame, h]
  rfl

/-- Settles O28: the first failing check, or the range freed and whichever claim is pending re-evaluated. -/
theorem releaseFreesAndReevaluates : Obligations.ReleaseFreesAndReevaluates := by
  intro arm r s ha hs l other first count held words refusal freed
  have hrefusal : refusal = releaseRefusal arm r s := rfl
  have hfreed : freed = freedHolder r s := rfl
  have hwords (code : ResultCode) (u : State) : words code u = zoneReply code arm u := (zoneReply_eq code arm u).symm
  rw [hrefusal, hfreed]
  refine ⟨fun code h => ?_, fun h => ⟨_, exec_release_of_taken ha h, ?_, release_sup_own,
    fun c hc => ⟨fun free => ?_, fun blocked => ?_⟩, fun c hc free => ?_, fun c hc blocked => ?_,
    fun otherNone ownNone z => ?_, ?_⟩⟩
  · rw [hwords]; exact exec_release_of_refusal ha h
  · rw [hwords, endEvent_port]
    · simp only [zoneReply_eq, zoneAt_endEvent]
    · exact reevaluate_released_port arm r s _
  · simpa only [endEvent_zones, zoneAt_endEvent, endEvent_present, endEvent_claimSource] using
      release_grants_other hs.2 hc free
  · obtain ⟨claims, sup, guards, attention, zones⟩ := release_keeps_other hs.2 h hc blocked
    rw [endEvent_zones, endEvent_sup, endEvent_claimSource, conclude_sup_of_present (by rw [sup])]
    exact ⟨claims, sup, guards, attention, fun z => by rw [zoneAt_endEvent]; exact zones z⟩
  · simpa only [endEvent_zones, zoneAt_endEvent] using release_grants_own hs.2 hc free
  · simpa only [endEvent_zones, zoneAt_endEvent] using release_keeps_own hs.2 hc blocked
  · rw [zoneAt_endEvent, reevaluate_released_of_none ownNone,
      reevaluateClaim_of_none (by rw [released_claims]; exact otherNone), zoneAt_released]
  · exact unchangedBut_mono (by cases arm <;> decide)
      (unchangedBut_append (reevaluate_released_unchangedBut arm r s) (endEvent_unchangedBut _ _ _ _))

end Sys2Proof.Machine
end

section
/-! PROOFS. ZONE_FREE: every zone of a DISABLED arm freed, the other arm's pending claim re-evaluated and the freed
arm's verdict judged (R70, R74, R79). -/

namespace Sys2Proof.Machine

theorem armOfSel_eq_none {sel : Byte} (h : 2 ≤ sel.toNat) : armOfSel sel = none := by
  rw [armOfSel, if_neg (by omega), if_neg (by omega)]

theorem armOfSel_eq_some {arm : Arm} {sel : Byte} (h : armIndex arm = sel.toNat) : armOfSel sel = some arm := by
  cases arm <;> simp [armOfSel, ← h, armIndex]

/-- The state in which the freed arm is judged: its zones freed, and the pending claim re-evaluated if there was one
(R70, R74). -/
def armFreed (arm : Arm) (s : State) : State :=
  let freed := freeZones (fun _ z => decide (z.holder = some arm)) s
  if heldSet s arm = 0#16 then freed else reevaluate freed

/-- ZONE_FREE of an arm (R74). -/
theorem zoneFree_eq {arm : Arm} {r : Request} (harm : armIndex arm = r.sel.toNat) (s : State) :
    zoneFree r s =
      if (s.sup.get arm).state ≠ .disabled then refuse .state s
      else if (s.rack.changes.get arm).phase ≠ .idle then refuse .inUse s
      else okay (judgeVerdict arm (armFreed arm s)) (setAt 0 (heldSet s arm)) := by
  simp only [zoneFree, armOfSel_eq_some harm, changeOpen, decide_eq_true_eq]
  rfl

/-! ### The zones freed -/

section Freed
variable {arm : Arm} {s : State}

theorem zoneAt_freeHeld (z : Fin 16) :
    zoneAt (freeZones (fun _ z => decide (z.holder = some arm)) s) z =
      { zoneAt s z with holder := if (zoneAt s z).holder = some arm then none else (zoneAt s z).holder } := by
  rw [zoneAt_freeZones]
  simp only [decide_eq_true_eq]
  split <;> rfl

/-- With no pending claim of the arm itself, freeing its zones ends in a re-evaluation of the other arm's claim, unless
it held none. -/
theorem armFreed_cases (h : s.zones.claims.get arm = none) :
    armFreed arm s = freeZones (fun _ z => decide (z.holder = some arm)) s ∧
      (∀ z : Fin 16, (zoneAt s z).holder ≠ some arm) ∨
    armFreed arm s = reevaluateClaim (otherArm arm) (freeZones (fun _ z => decide (z.holder = some arm)) s) ∧
      ∃ z : Fin 16, (zoneAt s z).holder = some arm := by
  unfold armFreed
  split
  · next empty => exact .inl ⟨rfl, heldSet_eq_zero_iff.mp empty⟩
  · next nonempty =>
    refine .inr ⟨reevaluate_of_none (by rw [freeZones_claims, otherArm_otherArm]; exact h), ?_⟩
    by_contra none_held
    push Not at none_held
    exact nonempty (heldSet_eq_zero_iff.mpr none_held)

theorem armFreed_unchangedBut (h : s.zones.claims.get arm = none) :
    unchangedBut [.zoneTable, .claim (otherArm arm), .claimSource (otherArm arm), .guard (otherArm arm),
      .supervisor (otherArm arm), .faultSource] s (armFreed arm s) := by
  obtain ⟨freed, -⟩ | ⟨freed, -⟩ := armFreed_cases h <;> rw [freed]
  · exact unchangedBut_mono (by simp) (freeZones_unchangedBut _ _)
  · exact unchangedBut_trans (unchangedBut_mono (by simp) (freeZones_unchangedBut _ _))
      (reevaluateClaim_unchangedBut _ _)

theorem armFreed_sup (h : s.zones.claims.get arm = none) : (armFreed arm s).sup.get arm = s.sup.get arm := by
  obtain ⟨freed, -⟩ | ⟨freed, -⟩ := armFreed_cases h <;> rw [freed]
  · rw [freeZones_sup]
  · have kept := reevaluateClaim_sup_other (otherArm arm) (freeZones (fun _ z => decide (z.holder = some arm)) s)
    rwa [otherArm_otherArm, freeZones_sup] at kept

/-- A zone keeps the holder that freeing left it, or the other arm gets it by a grant. -/
theorem holder_armFreed (h : s.zones.claims.get arm = none) (z : Fin 16) :
    (zoneAt (armFreed arm s) z).holder = (if (zoneAt s z).holder = some arm then none else (zoneAt s z).holder) ∨
      (zoneAt (armFreed arm s) z).holder = some (otherArm arm) := by
  obtain ⟨freed, -⟩ | ⟨freed, -⟩ := armFreed_cases h <;> rw [freed]
  · exact .inl (by rw [zoneAt_freeHeld])
  · simpa only [zoneAt_freeHeld] using
      holder_reevaluateClaim (otherArm arm) (freeZones (fun _ z => decide (z.holder = some arm)) s) z

theorem armFreed_releases (h : s.zones.claims.get arm = none) (z : Fin 16) :
    (zoneAt (armFreed arm s) z).holder ≠ some arm := by
  obtain kept | granted := holder_armFreed h z
  · rw [kept]; split
    · exact nofun
    · assumption
  · rw [granted]; exact fun same => otherArm_ne arm (Option.some.inj same)

theorem armFreed_keeps_other (h : s.zones.claims.get arm = none) {z : Fin 16}
    (held : (zoneAt s z).holder = some (otherArm arm)) : (zoneAt (armFreed arm s) z).holder = some (otherArm arm) := by
  obtain kept | granted := holder_armFreed h z
  · rw [kept, if_neg (by rw [held]; exact fun same => otherArm_ne arm (Option.some.inj same)), held]
  · exact granted

/-- The other arm's claim is granted as soon as this arm gave up a zone: none of its range is left to it (R70). -/
theorem armFreed_grants (h : s.zones.claims.get arm = none) {c : Claim}
    (hc : s.zones.claims.get (otherArm arm) = some c) (held : ∃ z : Fin 16, (zoneAt s z).holder = some arm) :
    (armFreed arm s).zones.claims.get (otherArm arm) = none ∧
      (∀ z : Fin 16, c.covers z = true → (zoneAt (armFreed arm s) z).holder = some (otherArm arm)) ∧
      ((armFreed arm s).attn.arms.get (otherArm arm)).claim =
        (s.attn.arms.get (otherArm arm)).claim.raise (fun _ => some c) := by
  obtain ⟨-, none_held⟩ | ⟨freed, -⟩ := armFreed_cases h
  · obtain ⟨z, hz⟩ := held; exact absurd hz (none_held z)
  obtain ⟨claims, zones, attention, -⟩ := reevaluateClaim_grants (arm := otherArm arm) (c := c)
    (s := freeZones (fun _ z => decide (z.holder = some arm)) s) (by rw [freeZones_claims]; exact hc)
    (fun z _ => by rw [zoneAt_freeHeld, otherArm_otherArm]; dsimp only; split <;> [exact nofun; assumption])
  rw [freed]
  exact ⟨claims, fun z hz => by rw [zones z, if_pos hz], attention.trans (by rw [freeZones_attn])⟩

/-- Without a pending claim freeing leaves every zone as it was but for the holder (R74). -/
theorem zoneAt_armFreed_of_none (h : s.zones.claims.get arm = none) (hother : s.zones.claims.get (otherArm arm) = none)
    (z : Fin 16) : zoneAt (armFreed arm s) z =
      { zoneAt s z with holder := if (zoneAt s z).holder = some arm then none else (zoneAt s z).holder } := by
  obtain ⟨freed, -⟩ | ⟨freed, -⟩ := armFreed_cases h <;> rw [freed]
  · exact zoneAt_freeHeld z
  · rw [reevaluateClaim_of_none (by rw [freeZones_claims]; exact hother), zoneAt_freeHeld]

end Freed

/-! ### The request -/

/-- The end of a taken ZONE_FREE on the Cell link. -/
def zoneFreed (arm : Arm) (s : State) : State :=
  endEvent .cell { code := .ok, d0 := setAt 0 (heldSet s arm), d1 := 0, d2 := 0 } s
    (judgeVerdict arm (armFreed arm (acceptFrame .cell s)))

/-- ZONE_FREE of an arm on the Cell link (R74). -/
theorem exec_zoneFree {arm : Arm} {r : Request} {s : State} (hc : onCell r s) (harm : armIndex arm = r.sel.toNat) :
    exec (.zoneFree r) s = .next (
      if (s.sup.get arm).state ≠ .disabled then refusedOnCell .state s
      else if (s.rack.changes.get arm).phase ≠ .idle then refusedOnCell .inUse s
      else zoneFreed arm s) := by
  refine congrArg Host.Outcome.next ?_
  have act := zoneFree_eq harm (acceptFrame .cell s)
  have sup : (acceptFrame .cell s).sup = s.sup := rfl
  rw [sup, acceptFrame_rack] at act
  split_ifs at act ⊢
  · exact handleRequest_cell_of_refuse hc act
  · exact handleRequest_cell_of_refuse hc act
  · exact handleRequest_onCell hc _ act

/-- A taken ZONE_FREE does not reach the claims, the permit source or the CLAIM source of the freed arm. -/
theorem zoneFreed_unchangedBut {arm : Arm} {s : State} (h : s.zones.claims.get arm = none)
    (disabled : (s.sup.get arm).state = .disabled) :
    unchangedBut [.port .cell, .zoneTable, .claim (otherArm arm), .guard .a, .guard .b, .supervisor .a, .supervisor .b,
      .faultSource, .permitSource (otherArm arm), .claimSource (otherArm arm)] s (zoneFreed arm s) := by
  have absent : (acceptFrame .cell s).zones.claims.get arm = none := by rw [acceptFrame_zones]; exact h
  have still : ((judgeVerdict arm (armFreed arm (acceptFrame .cell s))).sup.get arm).state = .disabled := by
    rw [judgeVerdict_state, armFreed_sup absent]; exact disabled
  have accepted : unchangedBut [.port .cell] s (acceptFrame .cell s) := modPort_unchangedBut _ _ _
  exact unchangedBut_mono (by cases arm <;> decide) (unchangedBut_append (unchangedBut_append (unchangedBut_append
    accepted (armFreed_unchangedBut absent)) (judgeVerdict_unchangedBut _ _))
    (endEvent_unchangedBut_of_disabled still .cell _ s))

/-- Settles O29: the three refusals, or the arm's zones freed, the other arm's claim re-evaluated and the verdict of the
freed arm judged. -/
theorem zoneFreeFreesADisabledArm : Obligations.ZoneFreeFreesADisabledArm := by
  refine fun r s => ⟨deniedToArms_of_cellLink rfl, fun hc hs => ⟨fun hsel => ?_, fun arm harm => ?_⟩⟩
  · refine congrArg Host.Outcome.next (handleRequest_cell_of_refuse hc ?_)
    simp only [zoneFree, armOfSel_eq_none hsel]
  rw [exec_zoneFree hc harm]
  refine ⟨fun running => by rw [if_pos running], fun disabled opened => ?_, fun disabled closed => ?_⟩
  · rw [if_neg (not_not.mpr disabled), if_pos opened]
  rw [if_neg (not_not.mpr disabled), if_neg (not_not.mpr closed)]
  have own := hs.2.none_of_disabled disabled
  have absent : (acceptFrame .cell s).zones.claims.get arm = none := by rw [acceptFrame_zones]; exact own
  have untouched := armFreed_unchangedBut absent
  have judged := judgeVerdict_unchangedBut arm (armFreed arm (acceptFrame .cell s))
  refine ⟨zoneFreed arm s, rfl, ?_, fun z => ?_, fun z held => ?_, fun c hc' held => ?_, fun hother z => ?_,
    fun g hg => ?_, zoneFreed_unchangedBut own disabled⟩
  · rw [zoneFreed, endEvent_port, heldSet, setAt_marksOf]
    exact (judged (.port .cell) (by simp)).trans (untouched (.port .cell) (by simp))
  · rw [zoneFreed, zoneAt_endEvent, zoneAt_judgeVerdict]
    exact armFreed_releases absent z
  · rw [zoneFreed, zoneAt_endEvent, zoneAt_judgeVerdict]
    exact armFreed_keeps_other absent (by rw [zoneAt_acceptFrame]; exact held)
  · obtain ⟨claims, zones, attention⟩ := armFreed_grants (c := c) absent (by rw [acceptFrame_zones]; exact hc')
      (by simpa only [zoneAt_acceptFrame] using held)
    refine ⟨?_, fun z hz => ?_, ?_⟩
    · rw [zoneFreed, endEvent_zones]
      exact (judged (.claim (otherArm arm)) (by simp)).trans claims
    · rw [zoneFreed, zoneAt_endEvent, zoneAt_judgeVerdict]; exact zones z hz
    · rw [zoneFreed, endEvent_claimSource]
      exact (judged (.claimSource (otherArm arm)) (by simp)).trans attention
  · rw [zoneFreed, zoneAt_endEvent, zoneAt_judgeVerdict,
      zoneAt_armFreed_of_none absent (by rw [acceptFrame_zones]; exact hother), zoneAt_acceptFrame]
  · have guard : (armFreed arm (acceptFrame .cell s)).zones.guards.get arm = some g :=
      (untouched (.guard arm) (by simp [(otherArm_ne arm).symm])).trans (by rw [acceptFrame_zones]; exact hg)
    obtain ⟨v, record, verdict, present⟩ := judgeVerdict_present guard
    refine ⟨v, by rw [zoneFreed, endEvent_zones]; exact record, ?_, ?_⟩
    · simpa only [armFreed_releases absent, not_false_eq_true, ne_eq, and_true] using verdict
    · rw [zoneFreed, endEvent_present, present, armFreed_sup absent]; rfl

end Sys2Proof.Machine
end

section
/-! PROOFS. FAULT_CLEAR: each named cause that is not present is cleared, and a STOPPED arm with no recorded LATCHED
cause is restarted (R94, R89). -/

namespace Sys2Proof.Machine

/-! ### The causes that a word names -/

/-- The place of a cause among the cause marks (Table A.6). -/
def causeBit : Cause → Nat
  | .guard => 0
  | .overdue => 1
  | .compLost => 2
  | .link => 3
  | .permitMismatch => 4
  | .changeFault => 5

/-- Only a named cause that is not present loses its recorded flag. -/
theorem clearedFlags_get (named : Word) (v : Supervisor) (k : Cause) :
    (clearedFlags named v).get k = (v.recorded.get k && !(named.getLsbD (causeBit k) && !v.present.get k)) := by
  rw [Bool.not_and, Bool.not_not]; cases k <;> rfl

theorem leftRecorded_iff {named : Word} {v : Supervisor} :
    leftRecorded named v = true ↔
      ∃ k ∈ allCauses, named.getLsbD (causeBit k) = true ∧ v.recorded.get k = true ∧ v.present.get k = true := by
  have places : allCauses.zipIdx = allCauses.map fun k => (k, causeBit k) := rfl
  simp only [leftRecorded, places, List.any_map, List.any_eq_true, Function.comp_apply, Bool.and_eq_true, and_assoc]

theorem causeMarks_eq_packed (p : PerCause Bool) : causeMarks p = packed [(0, causeNum p)] := by
  obtain ⟨guard, overdue, compLost, link, permitMismatch, changeFault⟩ := p
  revert guard overdue compLost link permitMismatch changeFault
  decide

/-! ### The judgement after a FAULT_CLEAR -/

@[simp] theorem State.setSup_setSup (s : State) (arm : Arm) (v w : Supervisor) :
    (s.setSup arm v).setSup arm w = s.setSup arm w := by
  simp [State.setSup]

/-- A supervisor that FAULT_CLEAR restarts: it is STOPPED and no LATCHED cause is recorded (R94). -/
def restarts (v : Supervisor) : Bool := decide (v.state = .stopped ∧ recordedIn .latched v = false)

/-- The supervisor after the judgement of a FAULT_CLEAR at a cell time. -/
def restarted (now : Word) (v : Supervisor) : Supervisor :=
  { v with
    state := if restarts v then .starting else v.state
    reportTimer := if restarts v then some ⟨now, timeoutMs v.settings.timeoutCode⟩ else v.reportTimer }

theorem restarted_of_not_restarts {now : Word} {v : Supervisor} (h : restarts v = false) : restarted now v = v := by
  simp [restarted, h]

theorem recordedIn_eq_false_iff {m : Mode} {v : Supervisor} :
    recordedIn m v = false ↔ ∀ k ∈ allCauses, v.recorded.get k = true → v.mode k ≠ m := by
  simp [recordedIn]

/-- An event that moves no present flag makes no LATCHED cause present. -/
theorem latchedNow_of_present_eq {before v : Supervisor} (h : v.present = before.present) :
    latchedNow before v = false := by
  simp [latchedNow, h]

/-- Without a change of its present flags Table 5.6 moves an arm at a FAULT_CLEAR out of STOPPED alone: in RUNNING and
HELD the present AUTO causes are those that the state stands for. -/
theorem stateAfter_faultClear {before v : Supervisor} (hpresent : v.present = before.present)
    (running : v.state = .running → presentIn .auto v = false) (held : v.state = .held → presentIn .auto v = true)
    (arm : Arm) : stateAfter before v (.faultClear arm) arm = if restarts v then .starting else v.state := by
  have latched := latchedNow_of_present_eq hpresent
  cases hstate : v.state with
  | disabled => simp [stateAfter, restarts, hstate]
  | starting => simp [stateAfter, restarts, hstate, latched]
  | running => simp [stateAfter, restarts, hstate, latched, running hstate]
  | held => simp [stateAfter, restarts, hstate, latched, held hstate]
  | stopped => simp [stateAfter, restarts, hstate]

/-- The judgement of a FAULT_CLEAR for its own arm, whose supervisor was sound and lost recorded flags alone. The permit
command, off in STOPPED, does not move (R89, R96, R99). -/
theorem judgeArm_faultClear {s0 s : State} {arm : Arm} {recorded : PerCause Bool}
    (hs : SupervisorSound (s0.sup.get arm)) (hsup : s.sup.get arm = { s0.sup.get arm with recorded := recorded }) :
    judgeArm s0 (.faultClear arm) arm s = s.setSup arm (restarted s.cellTime (s.sup.get arm)) := by
  have after := stateAfter_faultClear (before := s0.sup.get arm) (v := s.sup.get arm) (by rw [hsup])
    (by rw [hsup]; exact hs.running) (by rw [hsup]; exact hs.held) arm
  have command : (s.sup.get arm).command = decide ((s.sup.get arm).state = .running) := by rw [hsup]; exact hs.permit
  have judged : ¬ ((s.sup.get arm).present = (s0.sup.get arm).present ∧ (Trigger.faultClear arm).arm? ≠ some arm) :=
    fun unjudged => unjudged.2 rfl
  simp only [judgeArm, after, if_neg judged]
  cases h : restarts (s.sup.get arm) with
  | false => simp [restarted_of_not_restarts h]
  | true =>
    obtain ⟨stopped, -⟩ := of_decide_eq_true h
    simp [restarted, h, stopped, enterState_spec, command, restartReport, State.modSup, State.setSup, State.timer]

/-- An event whose trigger is not the other arm's and that leaves that arm's present flags alone judges one arm. -/
theorem conclude_of_other_same {s0 s : State} {t : Trigger} {arm : Arm}
    (hother : (s.sup.get (otherArm arm)).present = (s0.sup.get (otherArm arm)).present)
    (ht : t.arm? ≠ some (otherArm arm)) : conclude s0 t s = judgeArm s0 t arm s := by
  cases arm with
  | a =>
    have kept : (judgeArm s0 t .a s).sup.get .b = s.sup.get .b := judgeArm_other ..
    exact judgeArm_same s0 t .b _ (by rw [kept]; exact hother) ht
  | b => rw [conclude, judgeArm_same s0 t .a s hother ht]

/-- The supervisor with the named causes cleared that are not present (R94). -/
def faultCleared (named : Word) (v : Supervisor) : Supervisor := { v with recorded := clearedFlags named v }

/-- The end of the event of a FAULT_CLEAR that found the supervisors as the event did. -/
theorem conclude_faultClear {s0 s : State} {arm : Arm} (hs : SupervisorSound (s0.sup.get arm)) (hsup : s.sup = s0.sup)
    (named : Word) :
    conclude s0 (.faultClear arm) (s.setSup arm (faultCleared named (s0.sup.get arm))) =
      s.setSup arm (restarted s.cellTime (faultCleared named (s0.sup.get arm))) := by
  have own : (s.setSup arm (faultCleared named (s0.sup.get arm))).sup.get arm = faultCleared named (s0.sup.get arm) :=
    PerArm.get_set_same ..
  have other : (s.setSup arm (faultCleared named (s0.sup.get arm))).sup.get (otherArm arm) =
      s0.sup.get (otherArm arm) := by
    rw [State.setSup_sup, PerArm.get_set_other _ (otherArm_ne arm), hsup]
  have its : (Trigger.faultClear arm).arm? ≠ some (otherArm arm) :=
    fun same => otherArm_ne arm (Option.some.inj same).symm
  rw [conclude_of_other_same (by rw [other]) its, judgeArm_faultClear hs own, own, State.setSup_setSup,
    State.setSup_cellTime]

/-! ### The request -/

/-- The answer of a taken FAULT_CLEAR: the recorded set after it and the present set (R94). -/
def faultClearReply (named : Word) (v : Supervisor) : Reply :=
  { code := if leftRecorded named v then .causePresent else .ok
    d0 := packed [(0, causeNum (clearedFlags named v))], d1 := packed [(0, causeNum v.present)], d2 := 0 }

/-- FAULT_CLEAR of an arm (R94). -/
theorem faultClear_eq {arm : Arm} {r : Request} (harm : armIndex arm = r.sel.toNat) (s : State) :
    faultClear r s =
      if 64 ≤ r.d0.toNat then refuse .outOfRange s
      else
        ⟨s.setSup arm (faultCleared r.d0 (s.sup.get arm)), faultClearReply r.d0 (s.sup.get arm), .faultClear arm⟩ := by
  simp only [faultClear, armOfSel_eq_some harm, causeMarks_eq_packed]; rfl

/-- A taken FAULT_CLEAR on the Cell link reaches the port and the supervisor of its arm (R94). -/
theorem exec_faultClear_of_taken {arm : Arm} {r : Request} {s : State} (hc : onCell r s)
    (hs : SupervisorSound (s.sup.get arm)) (harm : armIndex arm = r.sel.toNat) (fits : r.d0.toNat < 64) :
    exec (.faultClear r) s = .next (answered .cell (faultClearReply r.d0 (s.sup.get arm))
      (s.setSup arm (restarted s.cellTime (faultCleared r.d0 (s.sup.get arm))))) := by
  obtain ⟨hl, ht⟩ := hc
  have sup : (acceptFrame .cell s).sup = s.sup := rfl
  refine congrArg Host.Outcome.next ?_
  rw [hl, handleRequest_permitted ht rfl, faultClear_eq harm, if_neg (by omega), sup]
  dsimp only
  rw [conclude_faultClear hs sup]
  rfl

/-- Settles O36: the two refusals, or the named causes cleared and the arm judged. -/
theorem faultClearClearsAbsentCauses : Obligations.FaultClearClearsAbsentCauses := by
  refine fun r s => ⟨deniedToArms_of_cellLink rfl, fun hc hs => ⟨fun hsel => ?_, fun arm harm => ⟨fun wide => ?_,
    fun fits => ?_⟩⟩⟩
  · refine congrArg Host.Outcome.next (handleRequest_cell_of_refuse hc ?_)
    simp only [faultClear, armOfSel_eq_none hsel]
  · refine congrArg Host.Outcome.next (handleRequest_cell_of_refuse hc ?_)
    rw [faultClear_eq harm.symm, if_pos wide]
  intro v named kept recorded starts
  have names (k : Cause) : named k = r.d0.getLsbD (causeBit k) := by cases k <;> rfl
  have keeps (k : Cause) : (clearedFlags r.d0 v).get k = kept k := by rw [clearedFlags_get, ← names]
  have flags : clearedFlags r.d0 v = recorded := PerCause.ext_get fun k => by rw [keeps]; cases k <;> rfl
  have code : leftRecorded r.d0 v = true ↔
      ∃ k ∈ allCauses, named k = true ∧ v.recorded.get k = true ∧ v.present.get k = true := by
    simp only [leftRecorded_iff, names]
  have restart : restarts (faultCleared r.d0 v) = starts := by
    simp only [restarts, recordedIn_eq_false_iff, faultCleared, keeps]; rfl
  have sound : SupervisorSound v := all_arms (p := fun x => SupervisorSound (s.sup.get x)) hs.1 hs.2 arm
  rw [exec_faultClear_of_taken hc sound harm.symm fits]
  simp only [← restart, ← flags, ← code]
  rfl

end Sys2Proof.Machine
end

section
/-! PROOFS. PROBE_REGISTER: the checks of Table 6.5, the lowest free entry and the record it receives (R103, R107). -/

namespace Sys2Proof.Machine

/-! ### Entries by id, free entries -/

/-- An id is in use when a registered probe has it (R103). -/
theorem probeById_isSome_iff {s : State} {id : Nat} :
    (probeById s id).isSome = true ↔ ∃ e : Fin 14, ∃ p ∈ entryAt s e, p.id.toNat = id := by
  simp [probeById, findProbe, Option.any_eq_true]

/-- No entry is free exactly if every entry holds a probe. -/
theorem freeEntry_eq_none_iff {s : State} : freeEntry s = none ↔ ∀ e : Fin 14, entryAt s e ≠ none := by
  simp [freeEntry]

/-- The free entry is the lowest-numbered one (R103). -/
theorem freeEntry_eq_some_iff {s : State} {e : Fin 14} :
    freeEntry s = some e ↔ entryAt s e = none ∧ ∀ f < e, entryAt s f ≠ none := by
  rw [freeEntry, List.find?_eq_some_iff_getElem]
  constructor
  · rintro ⟨free, n, hn, rfl, lower⟩
    refine ⟨Option.isNone_iff_eq_none.mp free, fun f hf => ?_⟩
    simpa [Option.isSome_iff_ne_none] using lower f.val (by simpa [Fin.lt_def] using hf)
  · rintro ⟨free, lower⟩
    exact ⟨by simp [free], e.val, by simp, by simp, fun n hn => by
      simpa [Option.isSome_iff_ne_none] using lower ⟨n, by omega⟩ hn⟩

@[simp] theorem entryAt_setSlot (s : State) (i : Fin 12) (x : Slot) (e : Fin 14) :
    entryAt (s.setSlot i x) e = entryAt s e := rfl

@[simp] theorem entryAt_acceptFrame (l : Link) (s : State) (e : Fin 14) :
    entryAt (acceptFrame l s) e = entryAt s e := by
  simp [entryAt]

/-! ### The act -/

/-- The first check of Table 6.5 that a PROBE_REGISTER for slot `i` fails. -/
def probeRegisterRefusal (r : Request) (i : Fin 12) (s : State) : Option ResultCode :=
  if r.d0.toNat < 1 ∨ 65535 < r.d0.toNat then some .outOfRange
  else if ∃ e : Fin 14, ∃ p ∈ entryAt s e, p.id.toNat = r.d0.toNat then some .inUse
  else if (slotAt s i).state ≠ .unclaimed then some .state
  else if ∀ e : Fin 14, entryAt s e ≠ none then some .full
  else none

theorem probeRegister_badSelector {r : Request} {s : State} (h : 12 ≤ r.sel.toNat) :
    probeRegister r s = refuse .badSelector s := by
  simp only [probeRegister, indexOf_eq_none h]

section Named
variable {r : Request} {s : State} {i : Fin 12}

/-- A PROBE_REGISTER that fails a check of Table 6.5 is refused with the code of the first (R107). -/
theorem probeRegister_of_refusal {code : ResultCode} (hi : i.val = r.sel.toNat)
    (h : probeRegisterRefusal r i s = some code) : probeRegister r s = refuse code s := by
  simp only [probeRegisterRefusal, ← probeById_isSome_iff, ← freeEntry_eq_none_iff] at h
  simp only [probeRegister, indexOf_eq_some hi]
  split_ifs at h ⊢ with range inUse state full <;> cases h
  · rfl
  · rfl
  · rfl
  · rw [full]

/-- A PROBE_REGISTER that passes every check of Table 6.5 fills the lowest free entry, and the slot is STORED with it
(R107). -/
theorem probeRegister_of_taken {e : Fin 14} (hi : i.val = r.sel.toNat) (h : probeRegisterRefusal r i s = none)
    (he : freeEntry s = some e) :
    probeRegister r s =
      okProbe e (enterSlot i .stored (some e) (s.setEntry e (some (newProbe (BitVec.ofNat 16 r.d0.toNat) i)))) := by
  simp only [probeRegisterRefusal, ← probeById_isSome_iff] at h
  simp only [probeRegister, indexOf_eq_some hi, he]
  split_ifs at h ⊢
  rfl

end Named

/-! ### The request on the Cell link -/

/-- The answer with the words of an entry that holds a probe (R117). -/
theorem okProbe_of_entryAt {e : Fin 14} {s : State} {p : Probe} (h : entryAt s e = some p) :
    okProbe e s = ⟨s, probeWords .ok e p, .plain⟩ := by
  simp only [okProbe, h]

/-- A Cell request taken with the words of READ_PROBE part 0 as its answer, leaving the supervisors alone. -/
theorem handleRequest_cell_of_okProbe {r : Request} {s t : State} {act : State → Act} {e : Fin 14} {p : Probe}
    (hc : onCell r s) (hsup : t.sup = s.sup) (hp : entryAt t e = some p)
    (h : act (acceptFrame .cell s) = okProbe e (acceptFrame .cell t)) :
    handleRequest .cellLink r.link act s = answered .cell (probeWords .ok e p) t := by
  have words : okProbe e (acceptFrame .cell t) = ⟨acceptFrame .cell t, probeWords .ok e p, .plain⟩ :=
    okProbe_of_entryAt ((entryAt_acceptFrame .cell t e).trans hp)
  rw [handleRequest_onCell hc act (h.trans words)]
  exact writeReply_conclude_cell hsup _

/-! ### The statement -/

/-- Settles O39: the act is settled by the first failing check, and a taken request fills the lowest free entry. -/
theorem probeRegisterTakesTheLowestEntry : Obligations.ProbeRegisterTakesTheLowestEntry := by
  intro r s
  refine ⟨deniedToArms_of_cellLink rfl, fun hc => ⟨fun hsel => ?_, fun i hi =>
    ⟨fun code hcode => ?_, fun hnone e hfree hlower => ?_⟩⟩⟩
  · exact congrArg _ (handleRequest_cell_of_refuse hc (probeRegister_badSelector hsel))
  · exact congrArg _ (handleRequest_cell_of_refuse hc (probeRegister_of_refusal hi hcode))
  · have taken := probeRegister_of_taken (s := acceptFrame .cell s) hi hnone
      (freeEntry_eq_some_iff.mpr ⟨hfree, hlower⟩)
    rw [BitVec.ofNat_toNat] at taken
    exact congrArg Host.Outcome.next (handleRequest_cell_of_okProbe hc rfl (by simp) taken)

end Sys2Proof.Machine
end

section
/-! PROOFS. PROBE_SET, RACK_SET, TOUCH_SET and ALARM_SET (R106, R124, R145, R158). -/

namespace Sys2Proof.Machine

/-- A Cell request with one check of its operands, refused or taken whole by it, leaving the supervisors alone. -/
theorem handleRequest_cell_of_check {r : Request} {s t : State} {act : State → Act} {bad : Prop} [Decidable bad]
    {code : ResultCode} {d0 d1 d2 : Word} (hc : onCell r s) (hsup : t.sup = s.sup)
    (h : act (acceptFrame .cell s) =
      if bad then refuse code (acceptFrame .cell s) else okay (acceptFrame .cell t) d0 d1 d2) :
    handleRequest .cellLink r.link act s =
      if bad then refusedOnCell code s
      else answered .cell { code := .ok, d0 := d0, d1 := d1, d2 := d2 } t := by
  split_ifs at h ⊢
  · exact handleRequest_cell_of_refuse hc h
  · exact handleRequest_cell_of_okay hc hsup h

/-- ALARM_SET by its check (R158). -/
theorem alarmSet_eq (r : Request) (s : State) :
    alarmSet r s = if 511 < r.d0.toNat then refuse .outOfRange s
      else okay { s with alarmMap := BitVec.ofNat 9 r.d0.toNat } r.d0 := by
  rw [BitVec.ofNat_toNat]; rfl

/-- Settles O43: each request is one check and one write, as its definition gives them on the accepted frame. -/
theorem settingsAreWrittenTogether : Obligations.SettingsAreWrittenTogether := by
  intro r s
  refine ⟨deniedToArms_of_cellLink rfl, deniedToArms_of_cellLink rfl, deniedToArms_of_cellLink rfl,
    deniedToArms_of_cellLink rfl, fun hc => ⟨?probeSet, ?rackSet, ?touchSet, ?alarmSet⟩⟩
  case probeSet => exact congrArg Host.Outcome.next (handleRequest_cell_of_check hc rfl rfl)
  case rackSet => exact congrArg Host.Outcome.next (handleRequest_cell_of_check hc rfl rfl)
  case touchSet => exact congrArg Host.Outcome.next (handleRequest_cell_of_check hc rfl rfl)
  case alarmSet => exact congrArg Host.Outcome.next (handleRequest_cell_of_check hc rfl (alarmSet_eq r _))

end Sys2Proof.Machine
end

section
/-! PROOFS. The words of READ_SLOT and READ_CHANGE part 0 field by field, and what the rack unit's shared operations
leave alone (R118, R123, R134, R137). -/

namespace Sys2Proof.Machine

/-! ### Fields of answer words (R173) -/

theorem at_zero (x : Nat) : at_ 0 x = packed [(0, x)] := by simp [at_, packed]

/-- A field beside the fields of a word that fit below its place. -/
theorem packed_or_at {fields : List (Nat × Nat)} {b : Nat} (h : (fields.map fun f => f.2 * 2 ^ f.1).sum < 2 ^ b)
    (x : Nat) : packed fields ||| at_ b x = packed (fields ++ [(b, x)]) := by
  have shifted : at_ b x = BitVec.ofNat 32 (x <<< b) := by
    apply BitVec.eq_of_toNat_eq
    simp [at_, Nat.shiftLeft_eq]
  rw [shifted, packed, packed, ← BitVec.ofNat_or, Nat.lor_comm, ← Nat.shiftLeft_add_eq_or_of_lt h, Nat.shiftLeft_eq]
  simp [Nat.add_comm]

theorem numberOrAbsent_eq {n : Nat} (i : Option (Fin n)) : numberOrAbsent i = i.elim 255 Fin.val := by cases i <;> rfl

theorem numberOrAbsent_lt {n : Nat} (h : n ≤ 255) (i : Option (Fin n)) : numberOrAbsent i < 256 := by
  cases i with
  | none => simp [numberOrAbsent]
  | some i => simp only [numberOrAbsent]; omega

theorem idOrAbsent_eq (id : Option Half) : idOrAbsent id = id.elim 0 BitVec.toNat := by cases id <;> rfl

theorem SlotState.num_lt (st : SlotState) : st.num < 256 := by cases st <;> decide

theorem Phase.num_lt (p : Phase) : p.num < 256 := by cases p <;> decide

theorem ChangeOutcome.num_lt (o : ChangeOutcome) : o.num < 256 := by cases o <;> decide

/-- The words of READ_CHANGE part 0 field by field (R137). -/
theorem changeWords_eq (code : ResultCode) (arm : Arm) (s : State) :
    changeWords code arm s =
      let c := s.rack.changes.get arm
      { code := code
        d0 := packed [(0, c.phase.num), (8, c.outcome.num), (16, c.putSlot.elim 255 Fin.val),
          (24, c.takeSlot.elim 255 Fin.val)]
        d1 := packed [(0, c.depositedId.elim 0 BitVec.toNat)], d2 := packed [(0, c.takeId.toNat)] } := by
  have phase := (s.rack.changes.get arm).phase.num_lt
  have outcome := (s.rack.changes.get arm).outcome.num_lt
  have put := numberOrAbsent_lt (by decide) (s.rack.changes.get arm).putSlot
  simp only [changeWords, at_zero, idOrAbsent_eq, ← numberOrAbsent_eq]
  rw [packed_or_at, packed_or_at, packed_or_at]
  · rfl
  all_goals
    simp only [List.cons_append, List.nil_append, List.map_cons, List.map_nil, List.sum_cons, List.sum_nil]
    omega

/-- The words of READ_SLOT field by field (R137). -/
theorem slotWords_eq (i : Fin 12) (s : State) :
    slotWords i s =
      let x := slotAt s i
      { code := .ok
        d0 := packed [(0, x.state.num), (8, x.probe.elim 255 Fin.val), (16, flag x.lock), (17, flag x.settled),
          (18, flag x.raw), (19, flag x.settleTimer.isSome)]
        d1 := packed [(0, (x.probe.bind (entryAt s)).elim 0 fun k => k.id.toNat)], d2 := 0 } := by
  have state := (slotAt s i).state.num_lt
  have probe := numberOrAbsent_lt (by decide) (slotAt s i).probe
  have id : idOrAbsent (((slotAt s i).probe.bind (entryAt s)).map fun p => p.id) =
      ((slotAt s i).probe.bind (entryAt s)).elim 0 fun k => k.id.toNat := by
    rw [idOrAbsent_eq, Option.elim_map]; rfl
  simp only [slotWords, at_zero, id, ← numberOrAbsent_eq]
  rw [packed_or_at, packed_or_at]
  · simp only [packed, List.cons_append, List.nil_append, List.map_cons, List.map_nil, List.sum_cons, List.sum_nil]
    ring_nf
  all_goals
    simp only [List.cons_append, List.nil_append, List.map_cons, List.map_nil, List.sum_cons, List.sum_nil]
    omega

/-! ### Frame clauses -/

theorem setChange_unchangedBut (s : State) (arm : Arm) (c : ChangeContext) :
    unchangedBut [.change arm] s (s.setChange arm c) := by
  intro b hb; cases b <;> simp_all [Block.same]

theorem enterSlot_unchangedBut (i : Fin 12) (st : SlotState) (probe : Option (Fin 14)) (s : State) :
    unchangedBut [.slots] s (enterSlot i st probe s) := by
  intro b hb; cases b <;> simp_all [Block.same, enterSlot]

theorem raiseChange_unchangedBut (s : State) (arm : Arm) : unchangedBut [.changeSource arm] s (raiseChange arm s) := by
  intro b hb
  cases b
  case armMaster other | permitSource other | claimSource other | compSource other =>
    by_cases h : other = arm <;> simp [Block.same, raiseChange, h]
  all_goals simp_all [Block.same, raiseChange]

@[simp] theorem changeSource_raiseChange (s : State) (arm : Arm) :
    ((raiseChange arm s).attn.arms.get arm).change = (s.attn.arms.get arm).change.raise fun _ =>
      some ((s.rack.changes.get arm).phase, (s.rack.changes.get arm).outcome) := by
  simp [raiseChange]

@[simp] theorem endEvent_rack (l : Link) (reply : Reply) (s0 s : State) : (endEvent l reply s0 s).rack = s.rack := by
  simp [endEvent, writeReply]

@[simp] theorem slotAt_acceptFrame (l : Link) (s : State) (i : Fin 12) : slotAt (acceptFrame l s) i = slotAt s i := by
  simp [slotAt]

/-- An event on the link of an arm that leaves the other arm's supervisor alone ends at its own arm (R89). -/
theorem endEvent_unchangedBut_of_other_same {s0 s : State} {arm : Arm}
    (hother : s.sup.get (otherArm arm) = s0.sup.get (otherArm arm)) (l : Link) (reply : Reply) :
    unchangedBut [.supervisor arm, .permitSource arm, .port l] s (endEvent l reply s0 s) := by
  have own : conclude s0 .plain s = judgeArm s0 .plain arm s :=
    conclude_of_other_same (by rw [hother]) (by simp [Trigger.arm?])
  rw [endEvent, own]
  exact unchangedBut_append (judgeArm_unchangedBut _ _ _ _) (modPort_unchangedBut _ _ _)

end Sys2Proof.Machine
end

section
/-! PROOFS. CHANGE_ABORT: the slot given back, the context closed and CHANGE attention raised (R131). -/

namespace Sys2Proof.Machine

/-! ### The slot given back -/

theorem giveBackSlot_unchangedBut (c : ChangeContext) (s : State) : unchangedBut [.slots] s (giveBackSlot c s) := by
  rw [giveBackSlot]
  split
  · cases c.putSlot with
    | none => exact unchangedBut_refl _ _
    | some i => exact enterSlot_unchangedBut i _ _ s
  · cases c.takeSlot with
    | none => exact unchangedBut_refl _ _
    | some i => exact enterSlot_unchangedBut i _ _ s
  · exact unchangedBut_refl _ _

@[simp] theorem giveBackSlot_sup (c : ChangeContext) (s : State) : (giveBackSlot c s).sup = s.sup := by
  rw [giveBackSlot]
  split
  · cases c.putSlot <;> rfl
  · cases c.takeSlot <;> rfl
  · rfl

/-- All that giving back does to a slot (R131). -/
theorem slotAt_giveBackSlot (c : ChangeContext) (s : State) (i : Fin 12) :
    slotAt (giveBackSlot c s) i =
      if c.phase = .deposit ∧ c.putSlot = some i then { slotAt s i with state := .vacant, probe := none, lock := true }
      else if c.phase = .pick ∧ c.takeSlot = some i then { slotAt s i with state := .stored, lock := true }
      else slotAt s i := by
  cases hphase : c.phase with
  | idle => simp [giveBackSlot, hphase]
  | finish => simp [giveBackSlot, hphase]
  | deposit =>
    cases hput : c.putSlot with
    | none => simp [giveBackSlot, hphase, hput]
    | some h => by_cases hi : i = h <;> simp [giveBackSlot, hphase, hput, hi, eq_comm]
  | pick =>
    cases htake : c.takeSlot with
    | none => simp [giveBackSlot, hphase, htake]
    | some h => by_cases hi : i = h <;> simp [giveBackSlot, hphase, htake, hi, eq_comm]

/-! ### The abort -/

/-- The state in which the arms are judged: the frame accepted, the slot given back, the context closed with ABORTED
and CHANGE attention raised (R131, R134). -/
def aborted (arm : Arm) (s : State) : State :=
  raiseChange arm (closeChange arm .aborted (giveBackSlot (s.rack.changes.get arm) (acceptFrame (linkOf arm) s)))

section Aborted
variable (arm : Arm) (s : State)

theorem aborted_unchangedBut :
    unchangedBut [.port (linkOf arm), .supervisor arm, .slots, .change arm, .changeSource arm] s (aborted arm s) :=
  unchangedBut_append (acceptFrame_arm_unchangedBut arm s) <|
    unchangedBut_append (l := [.slots]) (giveBackSlot_unchangedBut _ _) <|
      unchangedBut_append (l := [.change arm]) (setChange_unchangedBut _ _ _) (raiseChange_unchangedBut _ _)

theorem aborted_sup : (aborted arm s).sup = (acceptFrame (linkOf arm) s).sup := giveBackSlot_sup ..

theorem aborted_sup_other : (aborted arm s).sup.get (otherArm arm) = s.sup.get (otherArm arm) := by
  rw [aborted_sup, acceptFrame_sup_other]

theorem aborted_port (l : Link) : (aborted arm s).ports.get l = (acceptFrame (linkOf arm) s).ports.get l :=
  giveBackSlot_unchangedBut _ _ (.port l) (by simp)

theorem aborted_change : (aborted arm s).rack.changes.get arm = closedContext .aborted := PerArm.get_set_same ..

theorem slotAt_aborted (i : Fin 12) :
    slotAt (aborted arm s) i = slotAt (giveBackSlot (s.rack.changes.get arm) (acceptFrame (linkOf arm) s)) i := rfl

theorem aborted_changeSource :
    ((aborted arm s).attn.arms.get arm).change =
      (s.attn.arms.get arm).change.raise fun _ => some (.idle, .aborted) := by
  have kept : unchangedBut [.port (linkOf arm), .supervisor arm, .slots, .change arm] s (closeChange arm .aborted
      (giveBackSlot (s.rack.changes.get arm) (acceptFrame (linkOf arm) s))) :=
    unchangedBut_append (acceptFrame_arm_unchangedBut arm s)
      (unchangedBut_append (l := [.slots]) (giveBackSlot_unchangedBut _ _) (setChange_unchangedBut _ _ _))
  rw [aborted, changeSource_raiseChange, changes_closeChange, PerArm.get_set_same, kept (.changeSource arm) (by simp)]
  rfl

/-- The event of an abort reaches the port and the supervisor of its arm, its change and the rack (R131). -/
theorem endEvent_aborted_unchangedBut (reply : Reply) :
    unchangedBut [.port (linkOf arm), .slots, .change arm, .changeSource arm, .supervisor arm, .permitSource arm] s
      (endEvent (linkOf arm) reply s (aborted arm s)) :=
  unchangedBut_mono (by simp) (unchangedBut_append (aborted_unchangedBut arm s)
    (endEvent_unchangedBut_of_other_same (aborted_sup_other arm s) (linkOf arm) reply))

end Aborted

/-! ### The request -/

/-- CHANGE_ABORT on an arm link outside DEPOSIT and PICK (R131). -/
theorem exec_changeAbort_of_refusal {arm : Arm} {r : Request} {s : State} (ha : onArm arm r s)
    (h : ¬ ((s.rack.changes.get arm).phase = .deposit ∨ (s.rack.changes.get arm).phase = .pick)) :
    exec (.changeAbort r) s =
      .next (answered (linkOf arm) (changeWords .state arm s) (frameEnded (linkOf arm) s)) := by
  refine congrArg Host.Outcome.next ?_
  rw [← endEvent_acceptFrame]
  refine handleRequest_onArm ha changeAbortBy ?_
  simp only [changeAbortBy, changeAct, changeWords, acceptFrame_rack, if_neg h]

/-- CHANGE_ABORT on an arm link in DEPOSIT or PICK (R131). -/
theorem exec_changeAbort_of_taken {arm : Arm} {r : Request} {s : State} (ha : onArm arm r s)
    (h : (s.rack.changes.get arm).phase = .deposit ∨ (s.rack.changes.get arm).phase = .pick) :
    exec (.changeAbort r) s =
      .next (endEvent (linkOf arm) (changeWords .ok arm (aborted arm s)) s (aborted arm s)) := by
  refine congrArg Host.Outcome.next (handleRequest_onArm ha changeAbortBy ?_)
  simp only [changeAbortBy, acceptFrame_rack, if_pos h]
  rfl

/-- Settles O48: the refusal outside DEPOSIT and PICK, or what the abort leaves in each record. -/
theorem changeAbortGivesTheSlotBack : Obligations.ChangeAbortGivesTheSlotBack := by
  intro arm r s ha l c words
  have hwords (code : ResultCode) (u : State) : words code u = changeWords code arm u := (changeWords_eq code arm u).symm
  refine ⟨fun closed => ?_, fun opened => ⟨_, exec_changeAbort_of_taken ha opened, ?change, ?port, fun i => ?slot,
    ?attention, ?supervisor, endEvent_aborted_unchangedBut arm s _⟩⟩
  · rw [hwords]
    refine exec_changeAbort_of_refusal ha ?_
    rcases closed with idle | finish
    · simp [c, idle]
    · simp [c, finish]
  case change => rw [endEvent_rack, aborted_change]; rfl
  case port =>
    rw [hwords, endEvent_port (aborted_port arm s _)]
    simp only [changeWords, endEvent_rack]
  case slot =>
    rw [slotAt, endEvent_rack, ← slotAt, slotAt_aborted, slotAt_giveBackSlot, slotAt_acceptFrame]
  case attention =>
    rw [← aborted_changeSource]
    exact endEvent_unchangedBut _ _ _ _ (.changeSource arm) (by simp)
  case supervisor =>
    have time : (aborted arm s).cellTime = (acceptFrame (linkOf arm) s).cellTime :=
      (aborted_unchangedBut arm s .time (by simp)).trans (acceptFrame_cellTime _ _).symm
    exact conclude_sup_congr (congrArg (·.get arm) (aborted_sup arm s)) time s .plain

end Sys2Proof.Machine
end

section
/-! PROOFS. SLOT_SERVICE: a BLOCKED slot set by the rows of Table 7.6 (R136). -/

namespace Sys2Proof.Machine

/-! ### The rows of Table 7.6 -/

/-- A slot locked in a state with the probe that it holds. -/
def Slot.locked (x : Slot) (st : SlotState) (probe : Option (Fin 14)) : Slot :=
  { x with state := st, probe := probe, lock := true }

theorem enterSlot_eq_setSlot (i : Fin 12) {st : SlotState} (h : st ≠ .released) (probe : Option (Fin 14)) (s : State) :
    enterSlot i st probe s = s.setSlot i ((slotAt s i).locked st probe) := by
  simp only [enterSlot, h, State.modSlot, Slot.locked, ne_eq, not_false_eq_true, decide_true]; rfl

theorem locate_eq_setEntry {s : State} {e : Fin 14} {p : Probe} (h : entryAt s e = some p) (loc : Location) :
    locate e loc s = s.setEntry e (some { p with location := loc }) := by
  simp only [locate, State.modProbe, h, Option.map_some]

/-- The entry holds a MISSING probe whose home is the slot (Table 7.6). -/
def lostFrom (s : State) (i : Fin 12) (f : Fin 14) : Prop := ∃ k ∈ entryAt s f, k.location = .missing ∧ k.home = i

theorem missingFrom_eq_none {s : State} {i : Fin 12} (h : ∀ f, ¬ lostFrom s i f) : missingFrom s i = none := by
  cases found : missingFrom s i with
  | none => rfl
  | some f =>
    obtain ⟨⟨k, hk, lost⟩, -⟩ := findProbe_some found
    exact absurd ⟨k, hk, of_decide_eq_true lost⟩ (h f)

theorem missingFrom_eq_some {s : State} {i : Fin 12} {f : Fin 14} (hf : lostFrom s i f)
    (lower : ∀ g < f, ¬ lostFrom s i g) : missingFrom s i = some f := by
  obtain ⟨k, hk, lost⟩ := hf
  cases found : missingFrom s i with
  | none => exact absurd lost (of_decide_eq_false (findProbe_none found f k hk))
  | some g =>
    obtain ⟨⟨q, hq, gLost⟩, lowest⟩ := findProbe_some found
    rcases lt_trichotomy f g with before | same | after
    · exact absurd lost (of_decide_eq_false (lowest f before k hk))
    · rw [same]
    · exact absurd ⟨q, hq, of_decide_eq_true gLost⟩ (lower g after)

section Rows
variable {i : Fin 12} {s : State}

theorem serviceSlot_of_seated_held {e : Fin 14} (seated : (slotAt s i).settled = true)
    (held : (slotAt s i).probe = some e) :
    serviceSlot i s = s.setSlot i ((slotAt s i).locked .stored (some e)) := by
  simp only [serviceSlot, seated, held, if_true]
  exact enterSlot_eq_setSlot i (by decide) _ _

theorem serviceSlot_of_seated_lost {f : Fin 14} {k : Probe} (seated : (slotAt s i).settled = true)
    (empty : (slotAt s i).probe = none) (lost : missingFrom s i = some f) (hk : entryAt s f = some k) :
    serviceSlot i s =
      (s.setEntry f (some { k with location := .slot i })).setSlot i ((slotAt s i).locked .stored (some f)) := by
  simp only [serviceSlot, seated, empty, lost, if_true, locate_eq_setEntry hk]
  exact enterSlot_eq_setSlot i (by decide) _ _

theorem serviceSlot_of_seated_unknown (seated : (slotAt s i).settled = true) (empty : (slotAt s i).probe = none)
    (unknown : missingFrom s i = none) :
    serviceSlot i s = s.setSlot i ((slotAt s i).locked .unclaimed none) := by
  simp only [serviceSlot, seated, empty, unknown, if_true]
  exact enterSlot_eq_setSlot i (by decide) _ _

theorem serviceSlot_of_unseated_held {e : Fin 14} {p : Probe} (unseated : (slotAt s i).settled = false)
    (held : (slotAt s i).probe = some e) (hp : entryAt s e = some p) :
    serviceSlot i s =
      (s.setEntry e (some { p with location := .missing })).setSlot i ((slotAt s i).locked .vacant none) := by
  simp only [serviceSlot, unseated, held, locateAny, Option.elim_some, locate_eq_setEntry hp]
  exact enterSlot_eq_setSlot i (by decide) _ _

theorem serviceSlot_of_unseated_empty (unseated : (slotAt s i).settled = false)
    (empty : (slotAt s i).probe = none) :
    serviceSlot i s = s.setSlot i ((slotAt s i).locked .vacant none) := by
  simp only [serviceSlot, unseated, empty, locateAny, Option.elim_none]
  exact enterSlot_eq_setSlot i (by decide) _ _

end Rows

/-! ### The request -/

/-- The answer of a served slot, with the id that the entry of its probe holds (R136, R137). -/
def servedReply (x : Slot) (id : Nat) : Reply :=
  { code := .ok
    d0 := packed [(0, x.state.num), (8, x.probe.elim 255 Fin.val), (16, 1), (17, flag x.settled), (18, flag x.raw),
      (19, flag x.settleTimer.isSome)]
    d1 := packed [(0, id)], d2 := 0 }

/-- SLOT_SERVICE of a slot that is not BLOCKED (R136). -/
theorem slotService_of_not_blocked {r : Request} {s : State} {i : Fin 12} (hi : i.val = r.sel.toNat)
    (h : (slotAt s i).state ≠ .blocked) : slotService r s = refuse .state s := by
  simp only [slotService, indexOf_eq_some hi, if_pos h]

/-- SLOT_SERVICE of a BLOCKED slot on the Cell link: the slot as a row of Table 7.6 sets it, and its words (R136). -/
theorem exec_slotService_of_blocked {r : Request} {s u : State} {i : Fin 12} {st : SlotState}
    {probe : Option (Fin 14)} {id : Nat} (hc : onCell r s) (hi : i.val = r.sel.toNat)
    (blocked : (slotAt s i).state = .blocked) (hsup : u.sup = s.sup)
    (hid : ((probe.bind (entryAt u)).elim 0 fun k => k.id.toNat) = id)
    (service : serviceSlot i (acceptFrame .cell s) =
      acceptFrame .cell (u.setSlot i ((slotAt s i).locked st probe))) :
    exec (.slotService r) s = .next (answered .cell (servedReply ((slotAt s i).locked st probe) id)
      (u.setSlot i ((slotAt s i).locked st probe))) := by
  have words : slotWords i (acceptFrame .cell (u.setSlot i ((slotAt s i).locked st probe))) =
      servedReply ((slotAt s i).locked st probe) id := by
    simp only [slotWords_eq, slotAt_acceptFrame, slotAt_setSlot, if_true, servedReply, ← hid]
    rfl
  have taken : slotService r (acceptFrame .cell s) =
      ⟨acceptFrame .cell (u.setSlot i ((slotAt s i).locked st probe)),
        servedReply ((slotAt s i).locked st probe) id, .plain⟩ := by
    simp only [slotService, indexOf_eq_some hi, slotAt_acceptFrame, blocked, service, words]
    rfl
  refine congrArg Host.Outcome.next ((handleRequest_onCell hc (slotService r) taken).trans ?_)
  exact writeReply_conclude_cell (t := u.setSlot i _) hsup _

/-- Settles O50: the two refusals, or the row of Table 7.6 that the settled presence, the slot's probe and the MISSING
probes select. -/
theorem slotServiceSetsABlockedSlot : Obligations.SlotServiceSetsABlockedSlot := by
  refine fun r s => ⟨deniedToArms_of_cellLink rfl, fun hc => ⟨fun hsel => ?_, fun i hi => ⟨fun other => ?_,
    fun blocked seated => ⟨fun e held => ?seatedHeld, fun empty f k hk missing home lower => ?seatedLost,
      fun empty unknown => ?seatedUnknown⟩,
    fun blocked unseated => ⟨fun e held p hp => ?unseatedHeld, fun empty => ?unseatedEmpty⟩⟩⟩⟩
  · refine congrArg Host.Outcome.next (handleRequest_cell_of_refuse hc ?_)
    simp only [slotService, indexOf_eq_none hsel]
  · exact congrArg Host.Outcome.next (handleRequest_cell_of_refuse hc (slotService_of_not_blocked hi other))
  case seatedHeld =>
    exact exec_slotService_of_blocked hc hi blocked rfl rfl
      (serviceSlot_of_seated_held (s := acceptFrame .cell s) seated held)
  case seatedLost =>
    have lost : missingFrom (acceptFrame .cell s) i = some f := missingFrom_eq_some ⟨k, hk, missing, home⟩ lower
    exact exec_slotService_of_blocked hc hi blocked rfl (by simp [hk])
      (serviceSlot_of_seated_lost (s := acceptFrame .cell s) seated empty lost hk)
  case seatedUnknown =>
    have noneLost : missingFrom (acceptFrame .cell s) i = none := missingFrom_eq_none unknown
    exact exec_slotService_of_blocked hc hi blocked rfl rfl
      (serviceSlot_of_seated_unknown (s := acceptFrame .cell s) seated empty noneLost)
  case unseatedHeld =>
    exact exec_slotService_of_blocked hc hi blocked rfl rfl
      (serviceSlot_of_unseated_held (s := acceptFrame .cell s) unseated held hp)
  case unseatedEmpty =>
    exact exec_slotService_of_blocked hc hi blocked rfl rfl
      (serviceSlot_of_unseated_empty (s := acceptFrame .cell s) unseated empty)

end Sys2Proof.Machine
end

section
/-! PROOFS. TOUCH_HEAD and TOUCH_DROP: the oldest record or the state of an arm's queue read, and the oldest record
removed by its sequence (R146, R147, R173). -/

namespace Sys2Proof.Machine

/-! ### Reads -/

/-- A read on a link that does not permit it is a request on that link, which is answered without its words (R164). -/
theorem handleRead_of_not_permitted {access : Access} {l : Link} (h : access.permits l = false)
    (read : State → State × Reply) (s : State) :
    handleRead access l read s = handleRequest access l (fun s1 => okay s1) s := by simp [handleRead, h]

/-- A read of the Cell link whose words do not depend on the frame: they are the answer, and nothing else happens
(R162). -/
theorem handleRead_onCell {r : Request} {s : State} (hc : onCell r s) {read : State → Reply}
    (h : read (acceptFrame .cell s) = read s) :
    handleRead .cellLink r.link (fun s1 => (s1, read s1)) s = answered .cell (read s) s := by
  obtain ⟨hl, ht⟩ := hc
  have unjudged : conclude s .plain (acceptFrame .cell s) = acceptFrame .cell s := conclude_same _ _ fun _ => rfl
  have permitted : Access.permits .cellLink .cell = true := rfl
  rw [hl, handleRead, if_pos permitted, handleFrame_permitted ht permitted]
  simp only [okay, unjudged, h]
  rfl

theorem exec_touchHead_onCell {r : Request} {s : State} (hc : onCell r s) :
    exec (.touchHead r) s = .next (answered .cell (touchHeadWords r s) s) :=
  congrArg Host.Outcome.next (handleRead_onCell hc rfl)

/-! ### The words of a record and of a timer (R173) -/

theorem State.timeLeft_eq (s : State) (timer : Option Timer) :
    s.timeLeft timer = timer.elim 0 fun t => t.duration - (s.cellTime - t.start).toNat := by cases timer <;> rfl

theorem Quality.rank_lt (q : Quality) : q.rank < 4 := by cases q <;> decide

theorem flag_lt (b : Bool) : flag b < 2 ^ 1 := by cases b <;> decide

/-- The fields of a word fit below a bit place, so that `packed_or_at` puts the next field there. -/
def fieldsFit (fields : List (Nat × Nat)) (b : Nat) : Prop := (fields.map fun f => f.2 * 2 ^ f.1).sum < 2 ^ b

theorem fieldsFit_append {fields : List (Nat × Nat)} {b w x : Nat} (h : fieldsFit fields b) (hx : x < 2 ^ w) :
    fieldsFit (fields ++ [(b, x)]) (b + w) := by
  have sum : ((fields ++ [(b, x)]).map fun f => f.2 * 2 ^ f.1).sum =
      (fields.map fun f => f.2 * 2 ^ f.1).sum + x * 2 ^ b := by simp
  calc ((fields ++ [(b, x)]).map fun f => f.2 * 2 ^ f.1).sum
      < 2 ^ b + x * 2 ^ b := by rw [sum]; exact Nat.add_lt_add_right h _
    _ = (x + 1) * 2 ^ b := by rw [Nat.succ_mul, Nat.add_comm]
    _ ≤ 2 ^ w * 2 ^ b := Nat.mul_le_mul_right _ hx
    _ = 2 ^ (b + w) := by rw [← Nat.pow_add, Nat.add_comm]

/-- The word of a touch record's probe, tip, worst quality and flags, field by field. -/
theorem touchRecordWord_eq {t : TouchRecord} (h : t.tip ≤ 4) :
    at_ 0 t.probeId.toNat ||| at_ 16 t.tip ||| at_ 19 t.worst.rank ||| touchFlags t =
      packed [(0, t.probeId.toNat), (16, t.tip), (19, t.worst.rank), (24, flag t.due), (25, flag t.drift),
        (26, flag t.blank), (27, flag t.unsoaked), (28, flag t.sat)] := by
  have fit16 : fieldsFit [(0, t.probeId.toNat)] 16 := by simpa [fieldsFit] using t.probeId.isLt
  have fit19 := fieldsFit_append (w := 3) (x := t.tip) fit16 (by omega)
  have fit24 := fieldsFit_append (w := 5) fit19 (t.worst.rank_lt.trans (by decide))
  have fit25 := fieldsFit_append fit24 (flag_lt t.due)
  have fit26 := fieldsFit_append fit25 (flag_lt t.drift)
  have fit27 := fieldsFit_append fit26 (flag_lt t.blank)
  have fit28 := fieldsFit_append fit27 (flag_lt t.unsoaked)
  simp only [touchFlags, at_zero, ← BitVec.or_assoc]
  rw [packed_or_at fit16, packed_or_at fit19, packed_or_at fit24, packed_or_at fit25, packed_or_at fit26,
    packed_or_at fit27, packed_or_at fit28]
  simp only [List.cons_append, List.nil_append]

/-! ### TOUCH_HEAD (R146) -/

theorem touchHeadWords_badSelector {r : Request} (h : 2 ≤ r.sel.toNat ∨ 2 < r.d0.toNat) (s : State) :
    touchHeadWords r s = .zeros .badSelector := by
  rcases h with sel | part
  · simp only [touchHeadWords, armOfSel_eq_none sel]
  · obtain ⟨n, above⟩ := Nat.exists_eq_add_of_le' part
    cases named : armOfSel r.sel <;> simp [touchHeadWords, named, above]

section NamedArm
variable {r : Request} {s : State} {arm : Arm} (harm : armIndex arm = r.sel.toNat)
include harm

theorem touchHeadWords_of_empty (empty : (s.touch.queues.get arm).records = []) (h : r.d0 = 0 ∨ r.d0 = 1) :
    touchHeadWords r s = .zeros .empty := by
  rcases h with part | part <;> simp [touchHeadWords, armOfSel_eq_some harm, part, empty]

/-- Part 2 is the state of the queue, of whatever length it is. -/
theorem touchHeadWords_queue (h : r.d0 = 2) :
    touchHeadWords r s =
      let q := s.touch.queues.get arm
      { code := .ok, d0 := packed [(0, q.records.length)], d1 := q.counter
        d2 := packed [(0, q.blankTimer.elim 0 fun t => t.duration - (s.cellTime - t.start).toNat)] } := by
  simp [touchHeadWords, armOfSel_eq_some harm, h, at_zero, State.timeLeft_eq]

theorem touchHeadWords_record {t : TouchRecord} {rest : List TouchRecord}
    (oldest : (s.touch.queues.get arm).records = t :: rest) (h : r.d0 = 0) (tip : t.tip ≤ 4) :
    touchHeadWords r s =
      { code := .ok, d0 := t.sequence
        d1 := packed [(0, t.probeId.toNat), (16, t.tip), (19, t.worst.rank), (24, flag t.due), (25, flag t.drift),
          (26, flag t.blank), (27, flag t.unsoaked), (28, flag t.sat)]
        d2 := t.time } := by
  simp [touchHeadWords, armOfSel_eq_some harm, h, oldest, ← touchRecordWord_eq tip]

theorem touchHeadWords_centre {t : TouchRecord} {rest : List TouchRecord}
    (oldest : (s.touch.queues.get arm).records = t :: rest) (h : r.d0 = 1) :
    touchHeadWords r s =
      { code := .ok, d0 := BitVec.ofInt 32 t.centre.x, d1 := BitVec.ofInt 32 t.centre.y
        d2 := BitVec.ofInt 32 t.centre.z } := by
  simp [touchHeadWords, armOfSel_eq_some harm, h, oldest, signedWord]

end NamedArm

/-! ### TOUCH_DROP (R147) -/

theorem touchDrop_badSelector {r : Request} (h : 2 ≤ r.sel.toNat) (s : State) :
    touchDrop r s = refuse .badSelector s := by
  simp only [touchDrop, armOfSel_eq_none h]

theorem touchDrop_of_empty {r : Request} {s : State} {arm : Arm} (harm : armIndex arm = r.sel.toNat)
    (empty : (s.touch.queues.get arm).records = []) : touchDrop r s = refuse .empty s := by
  simp only [touchDrop, armOfSel_eq_some harm, empty]

/-- All that TOUCH_DROP does to a queue that is not empty: the sequence of the oldest record decides. -/
theorem touchDrop_of_record {r : Request} {s : State} {arm : Arm} {t : TouchRecord} {rest : List TouchRecord}
    (harm : armIndex arm = r.sel.toNat) (oldest : (s.touch.queues.get arm).records = t :: rest) :
    touchDrop r s =
      if t.sequence ≠ r.d0 then refuse .stale s
      else okay (s.setQueue arm { s.touch.queues.get arm with records := rest }) (packed [(0, rest.length)])
        (rest.head?.elim 0 TouchRecord.sequence) := by
  simp only [touchDrop, armOfSel_eq_some harm, oldest, at_zero]
  cases rest <;> rfl

/-! ### The statement -/

theorem QueuesSound.queue {s : State} (h : QueuesSound s) (arm : Arm) : QueueSound (s.touch.queues.get arm) := by
  obtain ⟨a, b, -⟩ := h
  cases arm
  · exact a
  · exact b

/-- The read is denied to the arms before any of its words are formed (R164, R165). -/
theorem touchHead_deniedToArms (r : Request) (s : State) : deniedToArms (.touchHead r) r s := by
  rintro arm ⟨hl, ht⟩
  have denied : Access.permits .cellLink r.link = false := by simp [hl, Access.permits]
  exact deniedToArms_of_cellLink (congrArg Host.Outcome.next (handleRead_of_not_permitted denied _ s)) arm ⟨hl, ht⟩

/-- Settles O52: the read by its part and the removal by the sequence, each from the oldest record of a sound queue. -/
theorem touchHeadAndDrop : Obligations.TouchHeadAndDrop := by
  refine fun r s => ⟨touchHead_deniedToArms r s, deniedToArms_of_cellLink rfl, fun hc sound => ?_⟩
  dsimp only
  rw [exec_touchHead_onCell hc]
  refine ⟨fun bad => ?headBad, fun bad => ?dropBad, fun arm sel => ⟨fun empty =>
    ⟨fun part => ?headEmpty, ?dropEmpty⟩, fun part => ?queue, fun t ht => ?_⟩⟩
  case headBad => rw [touchHeadWords_badSelector bad]; rfl
  case dropBad => exact congrArg _ (handleRequest_cell_of_refuse hc (touchDrop_badSelector bad _))
  case headEmpty => rw [touchHeadWords_of_empty sel.symm empty part]; rfl
  case dropEmpty =>
    exact congrArg _ (handleRequest_cell_of_refuse hc (touchDrop_of_empty (s := acceptFrame .cell s) sel.symm empty))
  case queue => rw [touchHeadWords_queue sel.symm part]
  obtain ⟨rest, oldest⟩ := List.head?_eq_some_iff.mp ht
  obtain ⟨-, tips, -⟩ := sound.queue arm
  have tip : t.tip ≤ 4 := tips t (by simp [oldest])
  refine ⟨fun part => ?_, fun part => ?_, ?_⟩
  · rw [touchHeadWords_record sel.symm oldest part tip]
  · rw [touchHeadWords_centre sel.symm oldest part]
  · simp only [oldest, List.length_cons, List.tail_cons, Nat.add_sub_cancel]
    exact congrArg Host.Outcome.next (handleRequest_cell_of_check hc rfl
      (touchDrop_of_record (s := acceptFrame .cell s) sel.symm oldest))

end Sys2Proof.Machine
end

section
/-! PROOFS. The attention lines and the cell alarm: the eligible source of a unit and its code, and the conditions of
Table 9.2 whose marks are in the alarm map (R150, R152, R159). -/

namespace Sys2Proof.Machine

/-! ### Eligible sources (R150) -/

/-- The source at a place in rank order is pending and above every source in service. -/
def eligibleAt (fs : List SourceFlags) (k : Nat) : Prop :=
  (∃ f ∈ fs[k]?, f.pending = true) ∧ ∀ j ≤ k, ∀ f ∈ fs[j]?, f.inService = false

/-- No source above a place in rank order is pending. -/
def nonePendingAbove (fs : List SourceFlags) (k : Nat) : Prop := ∀ j < k, ∀ f ∈ fs[j]?, f.pending = false

theorem not_eligibleAt_nil (k : Nat) : ¬ eligibleAt [] k := by simp [eligibleAt]

theorem eligibleAt_zero {f : SourceFlags} {fs : List SourceFlags} :
    eligibleAt (f :: fs) 0 ↔ f.pending = true ∧ f.inService = false := by simp [eligibleAt]

theorem eligibleAt_succ {f : SourceFlags} {fs : List SourceFlags} {k : Nat} :
    eligibleAt (f :: fs) (k + 1) ↔ f.inService = false ∧ eligibleAt fs k := by
  simp only [eligibleAt, ← Nat.lt_succ_iff, Nat.forall_lt_succ_left (n := k + 1)]
  simp [and_left_comm]

theorem nonePendingAbove_zero (fs : List SourceFlags) : nonePendingAbove fs 0 := fun j hj => absurd hj j.not_lt_zero

theorem nonePendingAbove_succ {f : SourceFlags} {fs : List SourceFlags} {k : Nat} :
    nonePendingAbove (f :: fs) (k + 1) ↔ f.pending = false ∧ nonePendingAbove fs k := by
  rw [nonePendingAbove, Nat.forall_lt_succ_left]; simp [nonePendingAbove]

/-- An eligible source is below no source in service, so the first source decides: it hides all others when in
service, is itself eligible when pending, and is passed over otherwise. -/
theorem eligibleFrom_eq_some_iff {fs : List SourceFlags} {first code : Nat} :
    eligibleFrom first fs = some code ↔ ∃ k, code = first + k ∧ eligibleAt fs k ∧ nonePendingAbove fs k := by
  induction fs generalizing first with
  | nil => simp [eligibleFrom, not_eligibleAt_nil]
  | cons f fs ih =>
    rw [← Nat.or_exists_add_one]
    simp only [eligibleFrom, eligibleAt_zero, eligibleAt_succ, nonePendingAbove_succ, nonePendingAbove_zero]
    cases f.inService with
    | true => simp
    | false =>
      cases f.pending with
      | true => simp [eq_comm]
      | false => simp [ih, Nat.add_assoc, Nat.add_comm 1]

theorem eligibleFrom_isSome_iff {fs : List SourceFlags} {first : Nat} :
    (eligibleFrom first fs).isSome = true ↔ ∃ k, eligibleAt fs k := by
  induction fs generalizing first with
  | nil => simp [eligibleFrom, not_eligibleAt_nil]
  | cons f fs ih =>
    rw [← Nat.or_exists_add_one]
    simp only [eligibleFrom, eligibleAt_zero, eligibleAt_succ]
    cases f.inService with
    | true => simp
    | false => cases f.pending <;> simp [ih]

/-! ### The lines (R150, R152) -/

/-- The sources of Table 9.1: six on the Cell link, four on an arm link. -/
theorem unitFlags_length (s : State) (l : Link) : (unitFlags s l).length = if l = .cell then 6 else 4 := by
  cases l <;> rfl

/-- Source codes count from 1 in rank order (Table A.5). -/
theorem eligibleCode_eq_some_iff {s : State} {l : Link} {code : Nat} :
    eligibleCode s l = some code ↔
      ∃ k, code = k + 1 ∧ eligibleAt (unitFlags s l) k ∧ nonePendingAbove (unitFlags s l) k := by
  simp only [eligibleCode, eligibleFrom_eq_some_iff, Nat.add_comm 1]

theorem attentionLine_iff {s : State} {l : Link} :
    attentionLine s l = true ↔ masterEnable s l = true ∧ ∃ k, eligibleAt (unitFlags s l) k := by
  rw [attentionLine, Bool.and_eq_true, eligibleCode, eligibleFrom_isSome_iff]

/-! ### The cell alarm (R159) -/

theorem recordedAnywhere_iff {s : State} {c : Cause} :
    recordedAnywhere s c = true ↔ ∃ arm : Arm, (s.sup.get arm).recorded.get c = true := by
  rw [recordedAnywhere, Bool.or_eq_true]
  constructor
  · rintro (a | b)
    · exact ⟨.a, a⟩
    · exact ⟨.b, b⟩
  · rintro ⟨_ | _, h⟩
    · exact .inl h
    · exact .inr h

theorem anySensor_iff {s : State} {st : SensorState} :
    anySensor s st = true ↔ ∃ i : Fin 16, (vget s.temp.sensors i).state = st := by simp [anySensor]

theorem anySlot_iff {s : State} {st : SlotState} :
    anySlot s st = true ↔ ∃ i : Fin 12, (slotAt s i).state = st := by simp [anySlot, slotAt]

theorem cellAlarm_iff {s : State} :
    cellAlarm s = true ↔ ∃ i : Fin 9, s.alarmMap.getLsbD i = true ∧ (alarmConditions s).getD i false = true := by
  simp [cellAlarm]

/-! ### The statement -/

/-- Settles O9: the code and the line from the eligible places in rank order, the alarm from the nine conditions of
Table 9.2 one by one. -/
theorem linesFollowTheirConditions : Obligations.LinesFollowTheirConditions := by
  refine ⟨fun s l => ⟨unitFlags_length s l, fun code => ?code, attentionLine_iff⟩, fun s => ?alarm⟩
  case code => simpa only [eligibleAt, nonePendingAbove, and_assoc] using eligibleCode_eq_some_iff (s := s) (l := l)
  case alarm =>
    simp only [cellAlarm_iff, ← recordedAnywhere_iff, ← anySensor_iff, ← anySlot_iff]
    simp [Fin.exists_fin_succ, alarmConditions, allCauses]

end Sys2Proof.Machine
end

section
/-! PROOFS. The acceptance of a frame: the CRC-8's recurrence and check value, the bytes that a frame's bits spell, and
the three checks (R160, R161). -/

namespace Sys2Proof.Machine

/-! ### The CRC-8 of a run of bytes -/

theorem crc8Shift_eq (reg : Byte) :
    crc8Shift reg = (reg <<< 1) ^^^ (if reg.getLsbD 7 then 0x07#8 else 0#8) := by
  rw [crc8Shift, BitVec.msb_eq_getLsbD_last]; split <;> simp

/-- A byte equal to the register leaves it empty, since shifts keep the empty register. -/
theorem crc8Byte_self (reg : Byte) : crc8Byte reg reg = 0#8 := by rw [crc8Byte, BitVec.xor_self]; decide

/-- One byte more is combined into the register. -/
theorem crc8_append_byte (bytes : List Byte) (b : Byte) : crc8 (bytes ++ [b]) = crc8Byte (crc8 bytes) b :=
  List.foldl_concat ..

theorem crc8_append_self (bytes : List Byte) : crc8 (bytes ++ [crc8 bytes]) = 0#8 := by
  rw [crc8_append_byte, crc8Byte_self]

/-- The check value: the CRC-8 of the characters 1 to 9 (R161). -/
theorem crc8_digits : crc8 [0x31, 0x32, 0x33, 0x34, 0x35, 0x36, 0x37, 0x38, 0x39] = 0xF4#8 := by decide +kernel

/-! ### The bytes that a frame's bits spell (R160) -/

/-- Byte k of a run of bits, as the number that bits 8k to 8k + 7 spell, most significant bit first. -/
def byteFromBits (bits : List Bool) (k : Nat) : Byte :=
  BitVec.ofNat 8 ((List.range 8).foldl (fun acc j => 2 * acc + (bits.getD (8 * k + j) false).toNat) 0)

/-- One bit shifted in from the right doubles the number and adds the bit: the bits of the two parts do not overlap, so
their disjunction is their sum. -/
theorem shiftLeft_one_or_bit (n : Nat) (b : Bool) :
    BitVec.ofNat 8 n <<< 1 ||| (BitVec.ofBool b).setWidth 8 = BitVec.ofNat 8 (2 * n + b.toNat) := by
  have low : BitVec.ofNat 8 n <<< 1 &&& (BitVec.ofBool b).setWidth 8 = 0#8 := by
    ext i
    cases i <;> simp
  rw [← BitVec.add_eq_or_of_and_eq_zero _ _ low]
  apply BitVec.eq_of_toNat_eq
  cases b <;> simp <;> omega

theorem byteOfBits_eq_ofNat (bits : List Bool) :
    byteOfBits bits = BitVec.ofNat 8 (bits.foldl (fun n b => 2 * n + b.toNat) 0) :=
  List.foldl_hom (BitVec.ofNat 8) shiftLeft_one_or_bit

/-- The bytes of a run of bits are its bytes by place, as many as it holds whole. -/
theorem bytesOfBits_eq_map (bits : List Bool) :
    bytesOfBits bits = (List.range (bits.length / 8)).map (byteFromBits bits) := by
  induction bits using bytesOfBits.induct with
  | case1 b7 b6 b5 b4 b3 b2 b1 b0 rest ih =>
    have first : byteOfBits [b7, b6, b5, b4, b3, b2, b1, b0] =
        byteFromBits (b7 :: b6 :: b5 :: b4 :: b3 :: b2 :: b1 :: b0 :: rest) 0 := byteOfBits_eq_ofNat _
    have later (k : Nat) : byteFromBits (b7 :: b6 :: b5 :: b4 :: b3 :: b2 :: b1 :: b0 :: rest) (k + 1) =
        byteFromBits rest k := by
      simp [byteFromBits, Nat.mul_succ, Nat.add_right_comm _ 8]
    have whole : (rest.length + 8) / 8 = rest.length / 8 + 1 := Nat.add_div_right _ (by decide)
    simp [bytesOfBits, ih, first, later, whole, List.range_succ_eq_map]
  | case2 bits short =>
    have few : bits.length < 8 := by
      by_contra eight
      exact short bits[0] bits[1] bits[2] bits[3] bits[4] bits[5] bits[6] bits[7] (bits.drop 8)
        (by simp only [List.getElem_cons_drop, List.drop_zero])
    simp [bytesOfBits, Nat.div_eq_of_lt few]

/-! ### Acceptance (R161, R164) -/

/-- Every request code answers for itself: the accepted command carries the frame's code and operands. -/
theorem codeOf_acceptedRequest (code : Byte) (r : Request) : codeOf (acceptedRequest code r) = some (code, r) := by
  unfold acceptedRequest requestOfCode
  split
  case h_53 => rfl
  all_goals exact congrArg (fun c => some (c, r)) (BitVec.eq_of_toNat_eq ‹code.toNat = _›.symm)

theorem acceptedRequest_ne_frameDiscard (code : Byte) (r : Request) (link : Link) :
    acceptedRequest code r ≠ .frameDiscard link := by
  intro h
  have carried := codeOf_acceptedRequest code r
  rw [h] at carried
  cases carried

/-- Sixteen bytes are a request exactly when byte 15 is the CRC-8 of the others and byte 14 is zero. -/
theorem commandOfBytes_ne_frameDiscard_iff (link : Link) (byte : Nat → Byte) :
    commandOfBytes link ((List.range 16).map byte) ≠ .frameDiscard link ↔
      byte 15 = crc8 ((List.range 15).map byte) ∧ byte 14 = 0#8 := by
  change (if byte 15 = crc8 ((List.range 15).map byte) ∧ byte 14 = 0#8 then acceptedRequest .. else _) ≠ _ ↔ _
  split
  next checks => exact iff_of_true (acceptedRequest_ne_frameDiscard _ _ link) checks
  next checks => exact iff_of_false (· rfl) checks

theorem decodeFrame_ne_frameDiscard_iff (link : Link) (bits : List Bool) :
    decodeFrame link bits ≠ .frameDiscard link ↔
      bits.length = 128 ∧ byteFromBits bits 15 = crc8 ((List.range 15).map (byteFromBits bits)) ∧
        byteFromBits bits 14 = 0#8 := by
  unfold decodeFrame
  split
  next clocks => rw [bytesOfBits_eq_map, clocks, commandOfBytes_ne_frameDiscard_iff, and_iff_right rfl]
  next clocks => exact iff_of_false (· rfl) fun ⟨given, _⟩ => clocks given

/-- Settles O6: the CRC-8 by its check value and its recurrence, acceptance by the clock count, byte 15 and byte 14
alone, since no accepted request code makes a frame a discarded one. -/
theorem acceptanceIsTheThreeChecks : Obligations.AcceptanceIsTheThreeChecks :=
  ⟨crc8_digits, crc8_append_self, fun reg b bytes => ⟨crc8_append_byte bytes b, crc8Shift_eq reg⟩,
    decodeFrame_ne_frameDiscard_iff⟩

end Sys2Proof.Machine
end

section
/-! PROOFS. The blocks that each command can reach, and that no command changes any other: the frame of every command,
said once. -/

namespace Sys2Proof.Machine

/-! ### Groups of blocks -/

/-- A block of each arm. -/
def ofArms (f : Arm → Block) : List Block := [f .a, f .b]

/-- What the judgement of the arms reaches (R89, R99, R101). -/
def judgedBlocks : List Block := ofArms .supervisor ++ ofArms .permitSource

/-- What the end of every accepted frame can reach (R162). -/
def frameBlocks (l : Link) : List Block := .port l :: judgedBlocks

/-- What a cause brought up to date and the judgement after it can reach (R85, R89). -/
def causeBlocks : List Block := .faultSource :: judgedBlocks

/-- What a verdict judged again can reach beside the zones (R79, R86). -/
def verdictBlocks : List Block := .faultSource :: ofArms .supervisor ++ ofArms .guard

/-- What the re-evaluation of the pending claims can reach (R70). -/
def claimBlocks : List Block := .zoneTable :: ofArms .claim ++ ofArms .claimSource ++ verdictBlocks

/-- The sources of the three attention units. -/
def sourceBlocks : List Block :=
  [.faultSource, .rackSource, .modelSource, .sensorSource, .probeSource, .touchSource] ++
    ofArms .permitSource ++ ofArms .changeSource ++ ofArms .claimSource ++ ofArms .compSource

/-- The enables of the three attention units beside their sources. -/
def masterBlocks : List Block := .cellMaster :: ofArms .armMaster

/-- What the resolution of an open change can reach (R129 to R133). -/
def changeBlocks : List Block := [.slots, .entries, .probeSource] ++ ofArms .change

/-- What a POSITION can reach beside its frame (R53). -/
def positionBlocks : List Block := verdictBlocks ++ ofArms .lastPos ++ ofArms .compSource

/-- What an ARM_RESET can reach beside the supervisor (R93). -/
def resetBlocks : List Block :=
  .zoneTable :: changeBlocks ++ ofArms .claim ++ ofArms .lastPos ++ ofArms .queue ++ sourceBlocks ++ ofArms .guard

/-- What a CHANGE_CLOSE can reach beside its frame (R129, R130). -/
def closeBlocks : List Block :=
  [.entries, .probeSource, .faultSource] ++ ofArms .change ++ ofArms .changeSource ++ ofArms .queue

theorem mem_ofArms {f : Arm → Block} (arm : Arm) : f arm ∈ ofArms f := by cases arm <;> simp [ofArms]

/-! ### The end of a frame -/

/-- What the block that a frame names makes of its request, NOT_PERMITTED included (R162, R164, R165). -/
def frameAct (access : Access) (l : Link) (act : State → Act) (s : State) : Act :=
  if access.permits l then act (acceptFrame l s) else refuse .notPermitted (acceptFrame l s)

/-- The end of a frame that the port takes: the request acted on, the arms judged, the answer written. -/
theorem handleFrame_taken {access : Access} {l : Link} {act : State → Act} {finish : Reply → State → State × Reply}
    {s : State} (h : takesFrame l s = true) :
    handleFrame access l act finish s =
      let done := frameAct access l act s
      let out := finish done.reply (conclude s done.trigger done.st)
      writeReply l out.2 out.1 := by
  simp [handleFrame, frameAct, h]

theorem acceptFrame_unchangedBut (l : Link) (s : State) :
    unchangedBut (.port l :: ofArms .supervisor) s (acceptFrame l s) := by
  cases l
  · exact unchangedBut_mono (by simp [ofArms, linkOf]) (acceptFrame_arm_unchangedBut .a s)
  · exact unchangedBut_mono (by simp [ofArms, linkOf]) (acceptFrame_arm_unchangedBut .b s)
  · exact unchangedBut_mono (by simp) (modPort_unchangedBut s .cell _)

theorem conclude_unchangedBut_judged (s0 : State) (t : Trigger) (s : State) :
    unchangedBut judgedBlocks s (conclude s0 t s) :=
  unchangedBut_mono (by simp [judgedBlocks, ofArms]) (conclude_unchangedBut s0 t s)

section Frame
variable {access : Access} {l : Link} {bs : List Block} {s : State}

theorem frameAct_unchangedBut {act : State → Act} (hact : ∀ u, unchangedBut bs u (act u).st) :
    unchangedBut (frameBlocks l ++ bs) s (frameAct access l act s).st := by
  have accepted : unchangedBut (frameBlocks l) s (acceptFrame l s) :=
    unchangedBut_mono (by simp [frameBlocks, judgedBlocks]) (acceptFrame_unchangedBut l s)
  rw [frameAct]
  split
  · exact unchangedBut_append accepted (hact _)
  · exact unchangedBut_mono (by simp) accepted

/-- The end of a frame reaches what its request, the answer and every accepted frame reach. -/
theorem handleFrame_unchangedBut {act : State → Act} {finish : Reply → State → State × Reply}
    (hact : ∀ u, unchangedBut bs u (act u).st) (hfinish : ∀ reply u, unchangedBut bs u (finish reply u).1) :
    unchangedBut (frameBlocks l ++ bs) s (handleFrame access l act finish s) := by
  cases taken : takesFrame l s with
  | false =>
    rw [handleFrame_passed taken]
    exact unchangedBut_mono (by simp [frameBlocks]) (modPort_unchangedBut s l _)
  | true =>
    rw [handleFrame_taken taken]
    refine unchangedBut_trans (frameAct_unchangedBut hact) <|
      unchangedBut_trans (unchangedBut_mono ?_ (conclude_unchangedBut_judged _ _ _)) <|
      unchangedBut_trans (unchangedBut_mono ?_ (hfinish _ _)) <|
      unchangedBut_mono ?_ (modPort_unchangedBut _ l _)
    all_goals simp [frameBlocks]

/-- A state is what the end of a frame leaves whose request and answer reach some blocks by themselves and whose request
brings one of some triggers to the judgement. -/
def endsFrame (l : Link) (bs : List Block) (p : Trigger → Prop) (s t : State) : Prop :=
  ∃ (access : Access) (act : State → Act) (finish : Reply → State → State × Reply),
    t = handleFrame access l act finish s ∧ (∀ u, unchangedBut bs u (act u).st) ∧ (∀ u, p (act u).trigger) ∧
      ∀ reply u, unchangedBut bs u (finish reply u).1

theorem endsFrame.unchangedBut {p : Trigger → Prop} {t : State} (h : endsFrame l bs p s t) :
    Machine.unchangedBut (frameBlocks l ++ bs) s t := by
  obtain ⟨_, _, _, rfl, hact, -, hfinish⟩ := h
  exact handleFrame_unchangedBut hact hfinish

theorem handleRequest_endsFrame {p : Trigger → Prop} {act : State → Act} (hact : ∀ u, unchangedBut bs u (act u).st)
    (htrigger : ∀ u, p (act u).trigger) : endsFrame l bs p s (handleRequest access l act s) :=
  ⟨access, act, _, rfl, hact, htrigger, fun _ _ => unchangedBut_refl _ _⟩

theorem handleRead_endsFrame {p : Trigger → Prop} (plain : p .plain) {read : State → State × Reply}
    (hread : ∀ u, unchangedBut bs u (read u).1) : endsFrame l bs p s (handleRead access l read s) := by
  rw [handleRead]
  split
  · exact ⟨access, _, _, rfl, fun _ => unchangedBut_refl _ _, fun _ => plain, fun _ => hread⟩
  · exact handleRequest_endsFrame (fun _ => unchangedBut_refl _ _) fun _ => plain

theorem handleControl_endsFrame {p : Trigger → Prop} (plain : p .plain) {r : Request} {act : Arm → State → Act}
    (hact : ∀ arm u, unchangedBut bs u (act arm u).st) (htrigger : ∀ arm u, p (act arm u).trigger) :
    endsFrame r.link bs p s (handleControl r act s) := by
  rw [handleControl]
  split
  · exact handleRequest_endsFrame (fun _ => unchangedBut_refl _ _) fun _ => plain
  · exact ⟨.allLinks, _, _, rfl, hact _, htrigger _, fun _ _ => unchangedBut_refl _ _⟩

theorem forLinkArm_trigger {p : Trigger → Prop} (plain : p .plain) {act : Arm → State → Act}
    (htrigger : ∀ arm u, p (act arm u).trigger) (s : State) : p (forLinkArm l act s).trigger := by
  rw [forLinkArm]
  split
  · exact htrigger _ _
  · exact plain

theorem forLinkArm_unchangedBut {act : Arm → State → Act} (hact : ∀ arm u, unchangedBut bs u (act arm u).st)
    (s : State) : unchangedBut bs s (forLinkArm l act s).st := by
  rw [forLinkArm]
  split
  · exact hact _ _
  · exact unchangedBut_refl _ _

end Frame

/-! ### Predicates that a frame's end keeps -/

/-- A predicate that reads only the blocks of a list. -/
def readsOnly (bs : List Block) (P : State → Prop) : Prop := ∀ s t : State, (∀ b ∈ bs, b.same s t) → P s → P t

/-- What leaves alone the blocks that a predicate reads keeps it. -/
theorem readsOnly.kept {bs l : List Block} {P : State → Prop} (hP : readsOnly bs P) {s t : State}
    (h : unchangedBut l s t) (apart : ∀ b ∈ bs, b ∉ l) (hs : P s) : P t :=
  hP s t (fun b hb => h b (apart b hb)) hs

/-- A predicate that the parts of the end of a frame keep: acceptance, the judgement of the arms, the answer, and the
passing over of a frame. -/
structure FrameStable (P : State → Prop) : Prop where
  accept : ∀ l s, P s → P (acceptFrame l s)
  judge : ∀ s0 t s, P s → P (conclude s0 t s)
  answer : ∀ l reply s, P s → P (writeReply l reply s)
  pass : ∀ l s, P s → P (passOver l s)

/-- A predicate that reads neither a port nor what the judgement of the arms reaches. -/
theorem readsOnly.frameStable {bs : List Block} {P : State → Prop} (h : readsOnly bs P)
    (hjudged : ∀ b ∈ bs, b ∉ judgedBlocks) (hport : ∀ l, .port l ∉ bs) : FrameStable P where
  accept l s := h _ _ fun b hb => acceptFrame_unchangedBut l s b fun hm => by
    obtain rfl | hm := List.mem_cons.mp hm
    · exact hport l hb
    · exact hjudged b hb (List.mem_append_left _ hm)
  judge s0 t s := h _ _ fun b hb => conclude_unchangedBut_judged s0 t s b (hjudged b hb)
  answer l _ s := h _ _ fun b hb => modPort_unchangedBut s l _ b fun hm => hport l (List.mem_singleton.mp hm ▸ hb)
  pass l s := h _ _ fun b hb => modPort_unchangedBut s l _ b fun hm => hport l (List.mem_singleton.mp hm ▸ hb)

namespace FrameStable
variable {P : State → Prop} (hP : FrameStable P) {access : Access} {l : Link} {s : State}
include hP

theorem frameAct {act : State → Act} (hact : ∀ u, P u → P (act u).st) (h : P s) :
    P (Machine.frameAct access l act s).st := by
  rw [Machine.frameAct]
  split
  · exact hact _ (hP.accept l s h)
  · exact hP.accept l s h

theorem handleFrame {act : State → Act} {finish : Reply → State → State × Reply} (hact : ∀ u, P u → P (act u).st)
    (hfinish : ∀ reply u, P u → P (finish reply u).1) (h : P s) : P (handleFrame access l act finish s) := by
  cases taken : takesFrame l s with
  | false => rw [handleFrame_passed taken]; exact hP.pass l s h
  | true =>
    rw [handleFrame_taken taken]
    exact hP.answer l _ _ (hfinish _ _ (hP.judge s _ _ (hP.frameAct hact h)))

theorem handleRequest {act : State → Act} (hact : ∀ u, P u → P (act u).st) (h : P s) :
    P (handleRequest access l act s) :=
  hP.handleFrame hact (fun _ _ => id) h

theorem handleControl {r : Request} {act : Arm → State → Act} (hact : ∀ arm u, P u → P (act arm u).st) (h : P s) :
    P (handleControl r act s) := by
  rw [Machine.handleControl]
  split
  · exact hP.handleRequest (fun _ => id) h
  · exact hP.handleFrame (hact _) (fun _ _ => id) h

omit hP in
theorem forLinkArm {act : Arm → State → Act} (hact : ∀ arm u, P u → P (act arm u).st) (h : P s) :
    P (forLinkArm l act s).st := by
  rw [Machine.forLinkArm]
  split
  · exact hact _ _ h
  · exact h

end FrameStable

end Sys2Proof.Machine
end

section
/-! PROOFS. What the meaning of each request leaves alone, request by request. -/

namespace Sys2Proof.Machine

/-! ### Writes of one record -/

/-- The last event of several reaches no more than all of them. -/
theorem unchangedBut_last {l l' : List Block} {s t u : State} (last : unchangedBut l' t u) (hl : l' ⊆ l)
    (before : unchangedBut l s t) : unchangedBut l s u :=
  unchangedBut_trans before (unchangedBut_mono hl last)

theorem setLastPos_unchangedBut (s : State) (arm : Arm) (p : Option PosRecord) :
    unchangedBut [.lastPos arm] s (s.setLastPos arm p) := by
  intro b hb; cases b <;> simp_all [Block.same]

theorem setEntry_unchangedBut (s : State) (e : Fin 14) (p : Option Probe) :
    unchangedBut [.entries] s (s.setEntry e p) := by
  intro b hb; cases b <;> simp_all [Block.same]

theorem setSlot_unchangedBut (s : State) (i : Fin 12) (x : Slot) : unchangedBut [.slots] s (s.setSlot i x) := by
  intro b hb; cases b <;> simp_all [Block.same]

theorem setQueue_unchangedBut (s : State) (arm : Arm) (q : TouchQueue) :
    unchangedBut [.queue arm] s (s.setQueue arm q) := by
  intro b hb; cases b <;> simp_all [Block.same]

theorem setStaging_unchangedBut (s : State) (im : Image) : unchangedBut [.model] s (s.setStaging im) := by
  intro b hb; cases b <;> simp_all [Block.same]

theorem freeIndex_unchangedBut (s : State) (n : Nat) :
    unchangedBut [.freeValues] s { s with freeIndex := n } := by
  intro b hb; cases b <;> simp_all [Block.same]

/-- A supervisor rewritten with its input line kept. -/
theorem setSettings_unchangedBut (s : State) (arm : Arm) (x : ArmSettings) :
    unchangedBut [.settings arm] s (s.setSettings arm x) := by
  intro b hb
  cases b
  case supervisor other | sense other => by_cases h : other = arm <;> simp_all [Block.same]
  all_goals simp_all [Block.same]

/-- The line of an arm rewritten. -/
theorem setSense_unchangedBut (s : State) (arm : Arm) (level : Bool) :
    unchangedBut [.sense arm] s (s.modSup arm fun v => { v with sense := level }) := by
  intro b hb
  cases b
  case supervisor other | settings other => by_cases h : other = arm <;> simp_all [Block.same]
  all_goals simp_all [Block.same]

/-! ### Attention -/

/-- The unit of the Cell link rewritten. -/
theorem modCellUnit_unchangedBut (s : State) (f : CellUnit → CellUnit) :
    unchangedBut [.cellMaster, .faultSource, .rackSource, .modelSource, .sensorSource, .probeSource, .touchSource] s
      (s.modCellUnit f) := by
  intro b hb; cases b <;> simp_all [Block.same]

/-- The unit of an arm link rewritten. -/
theorem setArmUnit_unchangedBut (s : State) (arm : Arm) (u : ArmUnit) :
    unchangedBut [.armMaster arm, .permitSource arm, .changeSource arm, .claimSource arm, .compSource arm] s
      (s.setArmUnit arm u) := by
  intro b hb; cases b <;> simp_all [Block.same]

/-- The unit of the Cell link rewritten with its master enable kept. -/
theorem modCellUnit_unchangedBut_sources {s : State} {f : CellUnit → CellUnit}
    (h : (f s.attn.cell).master = s.attn.cell.master) : unchangedBut sourceBlocks s (s.modCellUnit f) := by
  intro b hb
  by_cases hm : b = .cellMaster
  · subst hm; simpa [Block.same] using h
  · exact modCellUnit_unchangedBut s f b (by cases b <;> simp_all [sourceBlocks])

/-- The unit of an arm link rewritten with its master enable kept. -/
theorem setArmUnit_unchangedBut_sources {s : State} {arm : Arm} {u : ArmUnit}
    (h : u.master = (s.attn.arms.get arm).master) : unchangedBut sourceBlocks s (s.setArmUnit arm u) := by
  intro b hb
  by_cases hm : b = .armMaster arm
  · subst hm; simpa [Block.same] using h
  · exact setArmUnit_unchangedBut s arm u b (by cases arm <;> cases b <;> simp_all [sourceBlocks, ofArms])

theorem raiseRack_unchangedBut (s : State) (i : Fin 12) : unchangedBut [.rackSource] s (raiseRack i s) := by
  intro b hb; cases b <;> simp_all [Block.same]

theorem raiseModel_unchangedBut (s : State) (r : CheckResult) : unchangedBut [.modelSource] s (raiseModel r s) := by
  intro b hb; cases b <;> simp_all [Block.same]

theorem raiseProbe_unchangedBut (s : State) (e : Fin 14) : unchangedBut [.probeSource] s (raiseProbe e s) := by
  intro b hb; cases b <;> simp_all [Block.same]

theorem raiseTouch_unchangedBut (s : State) (arm : Arm) : unchangedBut [.touchSource] s (raiseTouch arm s) := by
  intro b hb; cases b <;> simp_all [Block.same]

theorem raiseComp_unchangedBut (s : State) (arm : Arm) (w : Quality) :
    unchangedBut [.compSource arm] s (raiseComp arm w s) := by
  intro b hb
  cases b
  case armMaster other | permitSource other | changeSource other | claimSource other =>
    by_cases h : other = arm <;> simp [Block.same, raiseComp, h]
  all_goals simp_all [Block.same, raiseComp]

theorem attnTake_unchangedBut (l : Link) (s : State) : unchangedBut sourceBlocks s (attnTake l s).st := by
  rw [attnTake]
  split
  · exact unchangedBut_refl _ _
  · next code _ =>
    split
    · refine modCellUnit_unchangedBut_sources ?_
      simp only [takeCell]; split <;> rfl
    · refine setArmUnit_unchangedBut_sources ?_
      simp only [takeArm]; split <;> rfl

theorem attnDone_unchangedBut (l : Link) (s : State) : unchangedBut sourceBlocks s (attnDone l s).st := by
  rw [attnDone]
  split
  · exact unchangedBut_refl _ _
  · next code _ =>
    split
    · refine modCellUnit_unchangedBut_sources ?_
      simp only [doneCell]; split <;> rfl
    · refine setArmUnit_unchangedBut_sources ?_
      simp only [doneArm]; split <;> rfl

theorem attnEnable_unchangedBut (r : Request) (s : State) :
    unchangedBut (sourceBlocks ++ masterBlocks) s (attnEnable r s).st := by
  simp only [attnEnable]
  split_ifs
  · exact unchangedBut_refl _ _
  · cases armOf r.link with
    | none => exact unchangedBut_mono (by decide) (modCellUnit_unchangedBut s (enableCell _ r.d1))
    | some arm => exact unchangedBut_mono (by cases arm <;> decide) (setArmUnit_unchangedBut s arm (enableArm _ r.d1 _))

/-! ### Causes -/

theorem recordCause_unchangedBut (arm : Arm) (c : Cause) (s : State) :
    unchangedBut [.supervisor arm, .faultSource] s (recordCause arm c s) := by
  rw [recordCause_spec]
  split
  · exact unchangedBut_refl _ _
  · exact unchangedBut_last (raiseFault_unchangedBut _ arm) (by simp)
      (unchangedBut_mono (by simp) (setSup_unchangedBut rfl rfl))

theorem judgeSense_unchangedBut (arm : Arm) (s : State) :
    unchangedBut [.supervisor arm, .faultSource] s (judgeSense arm s) := by
  rw [judgeSense]
  split
  · exact unchangedBut_refl _ _
  · exact setPresent_unchangedBut _ _ _ _

/-- A cause of an arm brought up to date, within the blocks of every cause. -/
theorem unchangedBut_causeBlocks {arm : Arm} {s t : State} (h : unchangedBut [.supervisor arm, .faultSource] s t) :
    unchangedBut causeBlocks s t :=
  unchangedBut_mono (by cases arm <;> simp [causeBlocks, judgedBlocks, ofArms]) h

/-- An event that is no request reaches what the judgement of the arms adds. -/
theorem conclude_unchangedBut_append {s0 s u : State} {t : Trigger} {bs : List Block}
    (h : unchangedBut (bs ++ causeBlocks) s u) : unchangedBut (bs ++ causeBlocks) s (conclude s0 t u) :=
  unchangedBut_trans h (unchangedBut_mono (by simp [causeBlocks]) (conclude_unchangedBut_judged _ _ _))

/-! ### Zones and claims -/

theorem judgeVerdict_unchangedBut_verdict (arm : Arm) (s : State) :
    unchangedBut verdictBlocks s (judgeVerdict arm s) :=
  unchangedBut_mono (by cases arm <;> simp [verdictBlocks, ofArms]) (judgeVerdict_unchangedBut arm s)

theorem reevaluate_unchangedBut (s : State) : unchangedBut claimBlocks s (reevaluate s) := by
  have one (arm : Arm) (u : State) : unchangedBut claimBlocks u (reevaluateClaim arm u) :=
    unchangedBut_mono (by cases arm <;> simp [claimBlocks, verdictBlocks, ofArms]) (reevaluateClaim_unchangedBut arm u)
  exact unchangedBut_trans (one .a s) (one .b _)

theorem removeClaim_unchangedBut_claims (arm : Arm) (s : State) :
    unchangedBut (.zoneTable :: ofArms .claim) s (removeClaim arm s) :=
  unchangedBut_mono (by cases arm <;> simp [ofArms]) (removeClaim_unchangedBut arm s)

theorem claimBy_unchangedBut (r : Request) (arm : Arm) (s : State) :
    unchangedBut (.zoneTable :: ofArms .claim ++ verdictBlocks) s (claimBy arm r s).st := by
  rw [claimBy]
  split
  · exact unchangedBut_refl _ _
  split
  · exact unchangedBut_refl _ _
  next c _ =>
  split
  · exact unchangedBut_refl _ _
  split
  · refine unchangedBut_trans (unchangedBut_mono ?_ (setZoneTable_unchangedBut s _))
      (unchangedBut_mono ?_ (judgeVerdict_unchangedBut_verdict arm _))
    all_goals simp
  split
  · exact unchangedBut_refl _ _
  · refine unchangedBut_trans (unchangedBut_mono ?_ (setClaim_unchangedBut s arm _))
      (unchangedBut_mono ?_ (markWaiter_unchangedBut arm c _))
    · cases arm <;> simp [ofArms]
    · simp

theorem releaseBy_unchangedBut (r : Request) (arm : Arm) (s : State) :
    unchangedBut claimBlocks s (releaseBy arm r s).st := by
  rw [releaseBy_eq]
  cases releaseRefusal arm r s with
  | some code => exact unchangedBut_refl _ _
  | none =>
    exact unchangedBut_trans (unchangedBut_mono (by simp [claimBlocks]) (freeZones_unchangedBut _ s))
      (reevaluate_unchangedBut _)

theorem zoneFree_unchangedBut (r : Request) (s : State) : unchangedBut claimBlocks s (zoneFree r s).st := by
  rw [zoneFree]
  split
  · exact unchangedBut_refl _ _
  next arm _ =>
  split
  · exact unchangedBut_refl _ _
  split
  · exact unchangedBut_refl _ _
  refine unchangedBut_last (judgeVerdict_unchangedBut_verdict arm _) (by decide) ?_
  have freed := unchangedBut_mono (l' := claimBlocks) (by simp [claimBlocks])
    (freeZones_unchangedBut (fun _ z => decide (z.holder = some arm)) s)
  split
  · exact freed
  · exact unchangedBut_trans freed (reevaluate_unchangedBut _)

theorem zoneDefine_act_unchangedBut (r : Request) (s : State) :
    unchangedBut (.zoneTable :: verdictBlocks) s (zoneDefine r s).st := by
  by_cases h : r.sel.toNat < 16
  · rw [zoneDefine_eq (z := ⟨r.sel.toNat, h⟩) rfl]
    cases zoneDefineRefusal r ⟨r.sel.toNat, h⟩ s with
    | some code => exact unchangedBut_refl _ _
    | none => exact unchangedBut_mono (by simp [verdictBlocks, ofArms]) (redefineZone_unchangedBut _ _ s)
  · rw [zoneDefine, indexOf_eq_none (by omega)]
    exact unchangedBut_refl _ _

/-! ### Supervision -/

theorem reportComp_unchangedBut (arm : Arm) (before : Option PosRecord) (worst : Quality) (s : State) :
    unchangedBut [.compSource arm] s (reportComp arm before worst s) := by
  rw [reportComp]
  split
  · exact unchangedBut_refl _ _
  · exact raiseComp_unchangedBut s arm worst

theorem positionBy_unchangedBut (r : Request) (arm : Arm) (s : State) :
    unchangedBut positionBlocks s (positionBy arm r s).st := by
  have restarted {u : State} (h : unchangedBut positionBlocks s u) :
      unchangedBut positionBlocks s (if (u.sup.get arm).state = .disabled then u else restartReport arm u) := by
    split
    · exact h
    · exact unchangedBut_last (restartReport_unchangedBut arm u) (by cases arm <;> decide) h
  exact restarted <|
    unchangedBut_last (setPresent_unchangedBut arm _ _ _) (by cases arm <;> decide) <|
    unchangedBut_last (setPresent_unchangedBut arm _ _ _) (by cases arm <;> decide) <|
    unchangedBut_last (judgeVerdict_unchangedBut_verdict arm _) (by decide) <|
    unchangedBut_last (setGuard_unchangedBut _ arm _) (by cases arm <;> decide) <|
    unchangedBut_last (reportComp_unchangedBut arm _ _ _) (by cases arm <;> decide) <|
    unchangedBut_mono (by cases arm <;> decide) (setLastPos_unchangedBut s arm _)

/-- What an ARM_ENABLE reaches of its own arm. -/
theorem armEnable_unchangedBut_own (l : Link) (arm : Arm) (s : State) :
    unchangedBut [.supervisor arm, .permitSource arm] s (armEnable l arm s).st := by
  rw [armEnable]
  split
  · exact unchangedBut_refl _ _
  split
  · exact unchangedBut_refl _ _
  · exact unchangedBut_last (restartReport_unchangedBut arm _) (by simp) (enterState_unchangedBut arm .starting s)

theorem armEnable_unchangedBut (l : Link) (arm : Arm) (s : State) :
    unchangedBut judgedBlocks s (armEnable l arm s).st :=
  unchangedBut_mono (by cases arm <;> simp [judgedBlocks, ofArms]) (armEnable_unchangedBut_own l arm s)

theorem setDisabledBy_unchangedBut (s : State) (arm : Arm) (l : Option Link) :
    unchangedBut [.disabledBy arm] s { s with disabledBy := s.disabledBy.set arm l } := by
  intro b hb; cases b <;> simp_all [Block.same]

/-- What an ARM_DISABLE reaches of its own arm. -/
theorem armDisable_unchangedBut_own (l : Link) (arm : Arm) (s : State) :
    unchangedBut [.supervisor arm, .permitSource arm, .zoneTable, .claim arm, .disabledBy arm] s
      (armDisable l arm s).st := by
  rw [armDisable]
  split
  · exact unchangedBut_refl _ _
  · exact unchangedBut_last (setDisabledBy_unchangedBut _ arm (some l)) (by simp) <|
      unchangedBut_last (removeClaim_unchangedBut arm _) (by simp) <|
      unchangedBut_last (l' := [.supervisor arm]) (setSup_unchangedBut (by rfl) (by rfl)) (by simp) <|
      unchangedBut_mono (by simp) (enterState_unchangedBut arm .disabled s)

theorem armDisable_unchangedBut (l : Link) (arm : Arm) (s : State) :
    unchangedBut (judgedBlocks ++ (.zoneTable :: ofArms .claim ++ ofArms .disabledBy)) s (armDisable l arm s).st :=
  unchangedBut_mono (by cases arm <;> simp [judgedBlocks, ofArms]) (armDisable_unchangedBut_own l arm s)

theorem faultClear_unchangedBut (r : Request) (s : State) : unchangedBut (ofArms .supervisor) s (faultClear r s).st := by
  rw [faultClear]
  split
  · exact unchangedBut_refl _ _
  next arm _ =>
  split
  · exact unchangedBut_refl _ _
  · exact unchangedBut_mono (by cases arm <;> simp [ofArms]) (setSup_unchangedBut rfl rfl)

theorem changeMode_unchangedBut (arm : Arm) (before after : Modes) (c : Cause) (s : State) :
    unchangedBut [.supervisor arm, .faultSource] s (changeMode arm before after c s) := by
  rw [changeMode]
  split
  · exact unchangedBut_refl _ _
  split
  · exact unchangedBut_mono (by simp) (setSup_unchangedBut rfl rfl)
  split
  · exact recordCause_unchangedBut arm c s
  · exact unchangedBut_refl _ _

theorem setModes_unchangedBut (arm : Arm) (modes : Modes) (s : State) :
    unchangedBut [.settings arm, .supervisor arm, .faultSource] s (setModes arm modes s) := by
  have step (c : Cause) {u : State} (h : unchangedBut [.settings arm, .supervisor arm, .faultSource] s u) :
      unchangedBut [.settings arm, .supervisor arm, .faultSource] s
        (changeMode arm (s.sup.get arm).settings.modes modes c u) :=
    unchangedBut_last (changeMode_unchangedBut arm _ modes c u) (by simp) h
  exact step .link <| step .compLost <| step .overdue <| step .guard <|
    unchangedBut_mono (by simp) (setSettings_unchangedBut s arm _)

theorem armSet_unchangedBut (r : Request) (s : State) :
    unchangedBut (judgedBlocks ++ (.faultSource :: ofArms .settings)) s (armSet r s).st := by
  have settings (arm : Arm) (x : ArmSettings) :
      unchangedBut (judgedBlocks ++ (.faultSource :: ofArms .settings)) s (s.setSettings arm x) :=
    unchangedBut_mono (by cases arm <;> simp [ofArms]) (setSettings_unchangedBut s arm x)
  rw [armSet]
  split
  · exact unchangedBut_refl _ _
  next arm _ =>
  dsimp only
  split
  · exact unchangedBut_refl _ _
  split
  · exact unchangedBut_refl _ _
  split
  · split
    · exact unchangedBut_refl _ _
    · exact settings arm _
  · split
    · exact unchangedBut_refl _ _
    · exact settings arm _
  · split
    · exact unchangedBut_refl _ _
    · exact unchangedBut_mono (by cases arm <;> simp [judgedBlocks, ofArms]) (setModes_unchangedBut arm _ s)

/-! ### Probes, slots and changes -/

theorem modProbe_unchangedBut (s : State) (e : Fin 14) (f : Probe → Probe) :
    unchangedBut [.entries] s (s.modProbe e f) := setEntry_unchangedBut _ _ _

theorem locateAny_unchangedBut (e : Option (Fin 14)) (loc : Location) (s : State) :
    unchangedBut [.entries] s (locateAny e loc s) := by
  cases e with
  | none => exact unchangedBut_refl _ _
  | some e => exact modProbe_unchangedBut s e _

theorem mountCheck_unchangedBut (e : Fin 14) (s : State) :
    unchangedBut [.entries, .probeSource] s (mountCheck e s) := by
  rw [mountCheck]
  split
  · exact unchangedBut_refl _ _
  split
  · exact unchangedBut_append (l := [.entries]) (setEntry_unchangedBut _ _ _) (raiseProbe_unchangedBut _ _)
  · exact unchangedBut_refl _ _

theorem countUse_unchangedBut (e : Fin 14) (s : State) : unchangedBut [.entries, .probeSource] s (countUse e s) := by
  rw [countUse]
  split
  · exact unchangedBut_refl _ _
  dsimp only
  split
  · exact unchangedBut_append (l := [.entries]) (setEntry_unchangedBut _ _ _) (raiseProbe_unchangedBut _ _)
  · exact unchangedBut_mono (by simp) (setEntry_unchangedBut _ _ _)

theorem mountTake_unchangedBut (arm : Arm) (s : State) : unchangedBut [.entries, .probeSource] s (mountTake arm s) := by
  rw [mountTake]
  split
  · exact unchangedBut_refl _ _
  · exact unchangedBut_trans (unchangedBut_mono (by simp) (modProbe_unchangedBut s _ _)) (mountCheck_unchangedBut _ _)

theorem startBlank_unchangedBut (arm : Arm) (s : State) : unchangedBut (ofArms .queue) s (startBlank arm s) :=
  unchangedBut_mono (by cases arm <;> simp [ofArms]) (setQueue_unchangedBut s arm _)

/-- What the end of a change at ARM_RESET reaches. -/
theorem resetChange_unchangedBut_own (arm : Arm) (s : State) :
    unchangedBut [.slots, .entries, .probeSource, .change arm] s (resetChange arm s) := by
  rw [resetChange]
  split
  · exact unchangedBut_refl _ _
  refine unchangedBut_last (setChange_unchangedBut _ arm _) (by simp) ?_
  have given := unchangedBut_mono (l' := [.slots, .entries, .probeSource, .change arm]) (by simp)
    (giveBackSlot_unchangedBut (s.rack.changes.get arm) s)
  split
  · exact unchangedBut_trans given (unchangedBut_mono (by simp) (mountTake_unchangedBut arm _))
  · exact given

theorem closeChange_unchangedBut (arm : Arm) (outcome : ChangeOutcome) (s : State) :
    unchangedBut (ofArms .change) s (closeChange arm outcome s) :=
  unchangedBut_mono (by cases arm <;> simp [ofArms]) (setChange_unchangedBut s arm _)

theorem raiseChange_unchangedBut_arms (s : State) (arm : Arm) :
    unchangedBut (ofArms .changeSource) s (raiseChange arm s) :=
  unchangedBut_mono (by cases arm <;> simp [ofArms]) (raiseChange_unchangedBut s arm)

theorem resetChange_unchangedBut (arm : Arm) (s : State) : unchangedBut changeBlocks s (resetChange arm s) :=
  unchangedBut_mono (by cases arm <;> simp [changeBlocks, ofArms]) (resetChange_unchangedBut_own arm s)

theorem commandPermit_unchangedBut (arm : Arm) (on : Bool) (s : State) :
    unchangedBut [.supervisor arm] s (commandPermit arm on s) := by
  by_cases h : (s.sup.get arm).command = on
  · simp [commandPermit, State.modSup, h, unchangedBut_refl]
  · simp only [commandPermit, State.modSup, h, if_false]
    exact setSup_unchangedBut rfl rfl

theorem resetSupervisor_unchangedBut (arm : Arm) (s : State) :
    unchangedBut [.supervisor arm] s (resetSupervisor arm s) :=
  unchangedBut_last (commandPermit_unchangedBut arm false _) (by simp) (setSup_unchangedBut rfl rfl)

theorem armReset_unchangedBut (arm : Arm) (s : State) :
    unchangedBut (judgedBlocks ++ resetBlocks) s (armReset arm s).st := by
  refine unchangedBut_last (judgeSense_unchangedBut arm _) ?_ <|
    unchangedBut_last (setArmUnit_unchangedBut_sources rfl) ?_ <|
    unchangedBut_last (setQueue_unchangedBut _ arm _) ?_ <|
    unchangedBut_last (setGuard_unchangedBut _ arm none) ?_ <|
    unchangedBut_last (setLastPos_unchangedBut _ arm none) ?_ <|
    unchangedBut_last (resetSupervisor_unchangedBut arm _) ?_ <|
    unchangedBut_last (removeClaim_unchangedBut arm _) ?_ <|
    unchangedBut_mono ?_ (resetChange_unchangedBut arm s)
  all_goals cases arm <;> decide

/-- What an ARM_RESET reaches of its own arm. -/
def ownResetBlocks (arm : Arm) : List Block :=
  [.supervisor arm, .faultSource, .lastPos arm, .guard arm, .claim arm, .zoneTable, .queue arm, .armMaster arm,
    .permitSource arm, .changeSource arm, .claimSource arm, .compSource arm, .change arm, .slots, .entries, .probeSource]

theorem armReset_unchangedBut_own (arm : Arm) (s : State) : unchangedBut (ownResetBlocks arm) s (armReset arm s).st := by
  refine unchangedBut_last (judgeSense_unchangedBut arm _) ?_ <|
    unchangedBut_last (setArmUnit_unchangedBut _ arm _) ?_ <|
    unchangedBut_last (setQueue_unchangedBut _ arm _) ?_ <|
    unchangedBut_last (setGuard_unchangedBut _ arm none) ?_ <|
    unchangedBut_last (setLastPos_unchangedBut _ arm none) ?_ <|
    unchangedBut_last (resetSupervisor_unchangedBut arm _) ?_ <|
    unchangedBut_last (removeClaim_unchangedBut arm _) ?_ <|
    unchangedBut_mono ?_ (resetChange_unchangedBut_own arm s)
  all_goals cases arm <;> decide

theorem openChange_unchangedBut (arm : Arm) (mounted : Option Probe) (takeId : Half)
    (take : Option (Fin 14 × Fin 12 × Probe)) (s : State) :
    unchangedBut (.slots :: ofArms .change ++ ofArms .changeSource) s (openChange arm mounted takeId take s) := by
  have opened {u : State} (hu : unchangedBut [.slots] s u) (c : ChangeContext) :
      unchangedBut (.slots :: ofArms .change ++ ofArms .changeSource) s (raiseChange arm (u.setChange arm c)) :=
    unchangedBut_last (raiseChange_unchangedBut_arms _ arm) (by simp) <|
      unchangedBut_last (setChange_unchangedBut u arm c) (by cases arm <;> simp [ofArms]) (unchangedBut_mono (by simp) hu)
  cases mounted with
  | some q => exact opened (enterSlot_unchangedBut _ _ _ s) _
  | none =>
    cases take with
    | none => exact opened (unchangedBut_refl _ s) _
    | some t => exact opened (enterSlot_unchangedBut _ _ _ s) _

theorem changeOpenBy_unchangedBut (r : Request) (arm : Arm) (s : State) :
    unchangedBut (.slots :: ofArms .change ++ ofArms .changeSource) s (changeOpenBy arm r s).st := by
  have checked (mounted : Option Probe) : unchangedBut (.slots :: ofArms .change ++ ofArms .changeSource) s
      (openChecked arm r.d0.toNat mounted s).st := by
    simp only [openChecked]
    split_ifs
    any_goals exact unchangedBut_refl _ _
    all_goals exact openChange_unchangedBut arm mounted _ _ s
  simp only [changeOpenBy]
  split
  · exact unchangedBut_refl _ _
  split
  · exact unchangedBut_refl _ _
  split_ifs
  any_goals exact unchangedBut_refl _ _
  exact checked _

theorem changeCloseBy_unchangedBut (r : Request) (arm : Arm) (s : State) :
    unchangedBut (ofArms .supervisor ++ closeBlocks) s (changeCloseBy arm r s).st := by
  simp only [changeCloseBy]
  split
  · exact unchangedBut_refl _ _
  split
  · exact unchangedBut_refl _ _
  split
  · refine unchangedBut_last (raiseChange_unchangedBut_arms _ arm) (by decide) ?_
    have closed := unchangedBut_mono (l' := ofArms .supervisor ++ closeBlocks) (by decide)
      (closeChange_unchangedBut arm .closed s)
    split
    · exact unchangedBut_last (startBlank_unchangedBut arm _) (by decide) <|
        unchangedBut_last (mountTake_unchangedBut arm _) (by decide) closed
    · exact closed
  · refine unchangedBut_last (raiseChange_unchangedBut_arms _ arm) (by decide) <|
      unchangedBut_last (recordCause_unchangedBut arm .changeFault _) (by cases arm <;> decide) <|
      unchangedBut_last (closeChange_unchangedBut arm .wrongProbe _) (by decide) ?_
    split
    · exact unchangedBut_mono (by decide) (locateAny_unchangedBut _ _ s)
    · exact unchangedBut_refl _ _

theorem changeAbortBy_unchangedBut (arm : Arm) (s : State) :
    unchangedBut (.slots :: ofArms .change ++ ofArms .changeSource) s (changeAbortBy arm s).st := by
  simp only [changeAbortBy]
  split
  · exact unchangedBut_last (raiseChange_unchangedBut_arms _ arm) (by simp) <|
      unchangedBut_last (closeChange_unchangedBut arm .aborted _) (by simp) <|
      unchangedBut_mono (by simp) (giveBackSlot_unchangedBut _ s)
  · exact unchangedBut_refl _ _

theorem okProbe_st (e : Fin 14) (s : State) : (okProbe e s).st = s := by
  rw [okProbe]; split <;> rfl

theorem probeRegister_unchangedBut (r : Request) (s : State) :
    unchangedBut [.entries, .slots] s (probeRegister r s).st := by
  simp only [probeRegister]
  split
  · exact unchangedBut_refl _ _
  split_ifs
  any_goals exact unchangedBut_refl _ _
  split
  · exact unchangedBut_refl _ _
  · rw [okProbe_st]
    exact unchangedBut_last (enterSlot_unchangedBut _ _ _ _) (by simp)
      (unchangedBut_mono (by simp) (setEntry_unchangedBut s _ _))

theorem probeTipWrite_unchangedBut (r : Request) (s : State) : unchangedBut [.entries] s (probeTipWrite r s).st := by
  simp only [probeTipWrite]
  split
  · exact unchangedBut_refl _ _
  split
  · exact unchangedBut_refl _ _
  split_ifs
  any_goals exact unchangedBut_refl _ _
  rw [okProbe_st]
  exact setEntry_unchangedBut s _ _

theorem probeTipClear_unchangedBut (r : Request) (s : State) : unchangedBut [.entries] s (probeTipClear r s).st := by
  rw [probeTipClear]
  split
  · exact unchangedBut_refl _ _
  · rw [okProbe_st]
    exact setEntry_unchangedBut s _ _

theorem probeQualify_unchangedBut (r : Request) (s : State) : unchangedBut [.entries] s (probeQualify r s).st := by
  rw [probeQualify]
  split
  · exact unchangedBut_refl _ _
  split
  · exact unchangedBut_refl _ _
  split
  · exact unchangedBut_refl _ _
  · rw [okProbe_st]
    exact setEntry_unchangedBut s _ _

theorem probeReserve_unchangedBut (r : Request) (s : State) : unchangedBut [.entries] s (probeReserve r s).st := by
  rw [probeReserve]
  split
  · exact unchangedBut_refl _ _
  split
  · exact unchangedBut_refl _ _
  · rw [okProbe_st]
    exact modProbe_unchangedBut s _ _

theorem probeUnreserve_unchangedBut (r : Request) (s : State) :
    unchangedBut [.entries] s (probeUnreserve r s).st := by
  rw [probeUnreserve]
  split
  · exact unchangedBut_refl _ _
  · rw [okProbe_st]
    exact modProbe_unchangedBut s _ _

theorem probeRemove_unchangedBut (r : Request) (s : State) :
    unchangedBut [.entries, .slots] s (probeRemove r s).st := by
  have removed (e : Fin 14) : unchangedBut [.entries, .slots] s (s.setEntry e none) :=
    unchangedBut_mono (by simp) (setEntry_unchangedBut s e none)
  simp only [probeRemove]
  split
  · exact unchangedBut_refl _ _
  next e _ =>
  split
  · split
    · exact unchangedBut_refl _ _
    split
    · exact unchangedBut_last (enterSlot_unchangedBut _ _ _ _) (by simp) (removed e)
    · exact removed e
  · exact unchangedBut_refl _ _
  · exact removed e

theorem serviceSlot_unchangedBut (i : Fin 12) (s : State) :
    unchangedBut [.entries, .slots] s (serviceSlot i s) := by
  have entered (u : State) (st : SlotState) (probe : Option (Fin 14)) (hu : unchangedBut [.entries] s u) :
      unchangedBut [.entries, .slots] s (enterSlot i st probe u) :=
    unchangedBut_last (enterSlot_unchangedBut _ _ _ _) (by simp) (unchangedBut_mono (by simp) hu)
  simp only [serviceSlot]
  split
  · split
    · exact entered s _ _ (unchangedBut_refl _ _)
    · exact entered _ _ _ (modProbe_unchangedBut s _ _)
    · exact entered s _ _ (unchangedBut_refl _ _)
  · exact entered _ _ _ (locateAny_unchangedBut _ _ s)

theorem slotService_unchangedBut (r : Request) (s : State) :
    unchangedBut [.entries, .slots] s (slotService r s).st := by
  rw [slotService]
  split
  · exact unchangedBut_refl _ _
  split
  · exact unchangedBut_refl _ _
  · exact serviceSlot_unchangedBut _ s

theorem readProbe_unchangedBut (r : Request) (s : State) : unchangedBut [.freeValues] s (readProbe r s).1 := by
  simp only [readProbe]
  split
  · split
    · exact unchangedBut_refl _ _
    split
    · split
      · exact freeIndex_unchangedBut s _
      · exact unchangedBut_refl _ _
    · exact unchangedBut_refl _ _
  · split <;> exact unchangedBut_refl _ _

theorem readArm_unchangedBut (r : Request) (s : State) : unchangedBut [.freeValues] s (readArm r s).1 := by
  have record (arm : Arm) : unchangedBut [.freeValues] s (readArmRecord arm s).1 := by
    simp only [readArmRecord]
    split
    · exact freeIndex_unchangedBut s _
    · split
      · exact unchangedBut_refl _ _
      · exact freeIndex_unchangedBut s _
  have quality (arm : Arm) : unchangedBut [.freeValues] s (readArmQuality arm s).1 := by
    simp only [readArmQuality]
    split
    · exact freeIndex_unchangedBut s _
    · exact unchangedBut_refl _ _
  simp only [readArm]
  split
  · exact unchangedBut_refl _ _
  next arm _ =>
  split
  case h_4 => exact record arm
  case h_6 => exact quality arm
  all_goals exact unchangedBut_refl _ _

/-! ### Touches -/

theorem touchBy_unchangedBut (r : Request) (arm : Arm) (s : State) :
    unchangedBut ([.entries, .probeSource, .touchSource] ++ ofArms .queue) s (touchBy arm r s).st := by
  simp only [touchBy]
  split
  · exact unchangedBut_refl _ _
  split
  · exact unchangedBut_refl _ _
  split
  · exact unchangedBut_refl _ _
  split
  · exact unchangedBut_refl _ _
  split
  · exact unchangedBut_refl _ _
  split
  · exact unchangedBut_refl _ _
  next e _ _ p _ _ offset _ _ =>
  have counted := unchangedBut_last (l := [.entries, .probeSource, .touchSource] ++ ofArms .queue)
    (countUse_unchangedBut e (s.setQueue arm { s.touch.queues.get arm with
      records := (s.touch.queues.get arm).records ++ [touchRecord arm p r.sel.toNat offset (rawWords r) s]
      counter := (s.touch.queues.get arm).counter + 1 })) (by simp)
    (unchangedBut_mono (by cases arm <;> simp [ofArms]) (setQueue_unchangedBut s arm _))
  rw [reportFill]
  split
  · exact unchangedBut_last (raiseTouch_unchangedBut _ arm) (by simp) counted
  · exact counted

theorem touchDrop_unchangedBut (r : Request) (s : State) : unchangedBut (ofArms .queue) s (touchDrop r s).st := by
  rw [touchDrop]
  split
  · exact unchangedBut_refl _ _
  next arm _ =>
  dsimp only
  split
  · exact unchangedBut_refl _ _
  split
  · exact unchangedBut_refl _ _
  · exact unchangedBut_mono (by cases arm <;> simp [ofArms]) (setQueue_unchangedBut s arm _)

/-! ### The temperature unit, the model store and the settings -/

theorem sensorSet_unchangedBut (r : Request) (s : State) :
    unchangedBut [.sensors, .sensorSource] s (sensorSet r s).st := by
  simp only [sensorSet]
  split
  · exact unchangedBut_refl _ _
  split
  · exact unchangedBut_refl _ _
  split
  · exact unchangedBut_refl _ _
  next i _ _ _ role _ =>
  have written (x : Sensor) := unchangedBut_mono (l' := [.sensors, .sensorSource]) (by simp) (setSensor_unchangedBut s i x)
  split_ifs
  any_goals exact unchangedBut_refl _ _
  · exact unchangedBut_last (raiseSensor_unchangedBut _ i) (by simp) (written _)
  · exact written _

theorem sensorUnlock_unchangedBut (r : Request) (s : State) :
    unchangedBut [.sensors, .sensorSource] s (sensorUnlock r s).st := by
  rw [sensorUnlock]
  split
  · exact unchangedBut_refl _ _
  dsimp only
  split
  · exact unchangedBut_refl _ _
  · exact unchangedBut_last (raiseSensor_unchangedBut _ _) (by simp)
      (unchangedBut_mono (by simp) (setSensor_unchangedBut s _ _))

theorem seqListSet_unchangedBut (r : Request) (s : State) : unchangedBut [.sequencer] s (seqListSet r s).st := by
  rw [seqListSet_eq]
  split
  · exact unchangedBut_refl _ _
  split
  · exact unchangedBut_refl _ _
  · exact setSeq_unchangedBut s _

theorem seqStart_unchangedBut (r : Request) (s : State) : unchangedBut [.sequencer] s (seqStart r s).st := by
  rw [seqStart_eq]
  cases seqStartRefusal r s with
  | some code => exact unchangedBut_refl _ _
  | none => exact setSeq_unchangedBut s _

theorem seqStop_unchangedBut (s : State) : unchangedBut [.sequencer] s (seqStop s).st := by
  simp only [seqStop]
  split
  · split <;> exact setSeq_unchangedBut s _
  · exact unchangedBut_refl _ _

theorem convertOne_unchangedBut (r : Request) (s : State) : unchangedBut [.sequencer] s (convertOne r s).st := by
  simp only [convertOne]
  split
  · exact unchangedBut_refl _ _
  split
  · exact unchangedBut_refl _ _
  split
  · exact setSeq_unchangedBut s _
  · split_ifs
    · exact setSeq_unchangedBut s _
    · exact setSeq_unchangedBut s _
    · exact unchangedBut_refl _ _
  · exact unchangedBut_refl _ _
  · exact unchangedBut_refl _ _

theorem modelLoad_unchangedBut (r : Request) (s : State) : unchangedBut [.model] s (modelLoad r s).st := by
  rw [modelLoad_eq]
  cases modelLoadRefusal r s with
  | some code => exact unchangedBut_refl _ _
  | none => exact setStaging_unchangedBut s _

theorem modelRevert_unchangedBut (s : State) : unchangedBut [.model] s (modelRevert s).st := by
  rw [modelRevert]
  split
  · exact unchangedBut_refl _ _
  · exact setStaging_unchangedBut s _

theorem modelWrite_unchangedBut (s : State) (m : ModelStore) : unchangedBut [.model] s { s with model := m } := by
  intro b hb; cases b <;> simp_all [Block.same]

theorem modelCheck_unchangedBut (r : Request) (s : State) : unchangedBut [.model] s (modelCheck r s).st := by
  rw [modelCheck]
  split
  · exact unchangedBut_refl _ _
  · exact modelWrite_unchangedBut s _

theorem tempSet_unchangedBut (r : Request) (s : State) : unchangedBut [.tempSettings] s (tempSet r s).st := by
  rw [tempSet]
  split
  · exact unchangedBut_refl _ _
  · intro b hb; cases b <;> simp_all [Block.same, okay]

theorem probeSet_unchangedBut (r : Request) (s : State) : unchangedBut [.limits] s (probeSet r s).st := by
  rw [probeSet]
  split
  · exact unchangedBut_refl _ _
  · intro b hb; cases b <;> simp_all [Block.same, okay]

theorem rackSet_unchangedBut (r : Request) (s : State) : unchangedBut [.changeTimeout] s (rackSet r s).st := by
  rw [rackSet]
  split
  · exact unchangedBut_refl _ _
  · intro b hb; cases b <;> simp_all [Block.same, okay]

theorem touchSet_unchangedBut (r : Request) (s : State) : unchangedBut [.touchSettings] s (touchSet r s).st := by
  rw [touchSet]
  split
  · exact unchangedBut_refl _ _
  · intro b hb; cases b <;> simp_all [Block.same, okay]

theorem alarmSet_unchangedBut (r : Request) (s : State) : unchangedBut [.alarmMap] s (alarmSet r s).st := by
  rw [alarmSet]
  split
  · exact unchangedBut_refl _ _
  · intro b hb; cases b <;> simp_all [Block.same, okay]

end Sys2Proof.Machine
end

section
/-! PROOFS. The blocks that each command can change, and that it changes no other: the frame of every command and of
every step, said once. -/

namespace Sys2Proof.Machine

/-! ### The events that are no requests -/

theorem leaveReset_unchangedBut (s : State) :
    unchangedBut (.resetInput :: .slots :: causeBlocks) s (leaveReset s) := by
  have started : unchangedBut [.resetInput, .slots] s
      { s with
        resetHeld := false
        rack := { s.rack with slots := vmap (fun _ x =>
          { x with settleTimer := some ({ s with resetHeld := false }.timer presenceSettleMs) }) s.rack.slots } } := by
    intro b hb; cases b <;> simp_all [Block.same]
  exact unchangedBut_last (judgeSense_unchangedBut .b _) (by decide) <|
    unchangedBut_last (judgeSense_unchangedBut .a _) (by decide) (unchangedBut_mono (by decide) started)

theorem beginFrame_unchangedBut (l : Link) (s : State) : unchangedBut [.port l] s (beginFrame l s) := by
  rw [beginFrame]
  split
  · exact unchangedBut_refl _ _
  split
  · exact modPort_unchangedBut s l _
  · exact modPort_unchangedBut s l _

theorem discardFrame_unchangedBut (l : Link) (s : State) :
    unchangedBut (.port l :: causeBlocks) s (discardFrame l s) := by
  have port := unchangedBut_mono (l' := .port l :: causeBlocks) (by simp) (modPort_unchangedBut s l fun p =>
    { p with phase := .idle, reply := .zeros .frameError, runCount := min 255 (p.runCount + 1) })
  simp only [discardFrame]
  split
  · exact port
  next arm _ =>
  split
  · exact unchangedBut_last (setPresent_unchangedBut arm .link true _)
      (by cases arm <;> simp [causeBlocks, judgedBlocks, ofArms]) port
  · exact port

theorem completeCheck_unchangedBut (c : RunningCheck) (s : State) :
    unchangedBut [.model, .modelSource] s (completeCheck c s) :=
  unchangedBut_last (raiseModel_unchangedBut _ _) (by decide)
    (unchangedBut_mono (by decide) (modelWrite_unchangedBut s _))

theorem expireRound_unchangedBut (s : State) : unchangedBut [.sequencer] s (expireRound s) := by
  simp only [expireRound]
  split <;> exact setSeq_unchangedBut s _

theorem expireReport_unchangedBut (arm : Arm) (s : State) : unchangedBut causeBlocks s (expireReport arm s) :=
  unchangedBut_last (setPresent_unchangedBut arm .overdue true _) (by cases arm <;> decide)
    (unchangedBut_mono (l := [.supervisor arm]) (by cases arm <;> decide) (setSup_unchangedBut rfl rfl))

theorem expireWindow_unchangedBut (arm : Arm) (s : State) : unchangedBut causeBlocks s (expireWindow arm s) :=
  unchangedBut_last (judgeSense_unchangedBut arm _) (by cases arm <;> decide)
    (unchangedBut_mono (l := [.supervisor arm]) (by cases arm <;> decide) (setSup_unchangedBut rfl rfl))

theorem changeSense_unchangedBut (arm : Arm) (level : Bool) (s : State) :
    unchangedBut (ofArms .sense ++ causeBlocks) s (changeSense arm level s) := by
  have line := unchangedBut_mono (l' := ofArms .sense ++ causeBlocks) (by cases arm <;> decide)
    (setSense_unchangedBut s arm level)
  simp only [changeSense]
  split
  · exact unchangedBut_refl _ _
  split
  · exact line
  · exact unchangedBut_last (judgeSense_unchangedBut arm _) (by cases arm <;> decide) line

theorem changeRaw_unchangedBut (i : Fin 12) (level : Bool) (s : State) :
    unchangedBut [.slots] s (changeRaw i level s) := setSlot_unchangedBut s i _

/-- What a settled level can reach (R121, R127, R128). -/
def settledBlocks : List Block := [.slots, .entries, .rackSource] ++ ofArms .change ++ ofArms .changeSource

theorem unexpectedChange_unchangedBut (i : Fin 12) (s : State) :
    unchangedBut settledBlocks s (unexpectedChange i s) := by
  refine unchangedBut_last (raiseRack_unchangedBut _ i) (by decide) ?_
  split
  · exact unchangedBut_last (enterSlot_unchangedBut _ _ _ _) (by decide)
      (unchangedBut_mono (by decide) (locateAny_unchangedBut _ _ s))
  · exact unchangedBut_mono (by decide) (enterSlot_unchangedBut _ _ _ s)
  · exact unchangedBut_mono (by decide) (enterSlot_unchangedBut _ _ _ s)
  · exact unchangedBut_refl _ _
  · exact unchangedBut_refl _ _

theorem advanceChange_unchangedBut (arm : Arm) (i : Fin 12) (seated : Bool) (s : State) :
    unchangedBut settledBlocks s (advanceChange arm i seated s) := by
  have context {u : State} (h : unchangedBut settledBlocks s u) (c : ChangeContext) :
      unchangedBut settledBlocks s (u.setChange arm c) :=
    unchangedBut_last (setChange_unchangedBut u arm c) (by cases arm <;> decide) h
  have entered {u : State} (h : unchangedBut settledBlocks s u) (i : Fin 12) (st : SlotState) (e : Option (Fin 14)) :
      unchangedBut settledBlocks s (enterSlot i st e u) :=
    unchangedBut_last (enterSlot_unchangedBut i st e u) (by decide) h
  have moved (e : Option (Fin 14)) (loc : Location) : unchangedBut settledBlocks s (locateAny e loc s) :=
    unchangedBut_mono (by decide) (locateAny_unchangedBut e loc s)
  rw [advanceChange]
  split
  · refine unchangedBut_last (raiseChange_unchangedBut_arms _ arm) (by decide) ?_
    split
    · exact context (entered (moved _ _) _ _ _) _
    · split
      · exact context (entered (entered (moved _ _) _ _ _) _ _ _) _
      · exact context (entered (moved _ _) _ _ _) _
  · exact unchangedBut_last (raiseChange_unchangedBut_arms _ arm) (by decide)
      (context (entered (moved _ _) _ _ _) _)

theorem expireSettle_unchangedBut (i : Fin 12) (s : State) : unchangedBut settledBlocks s (expireSettle i s) := by
  have settled := unchangedBut_mono (l' := settledBlocks) (by decide)
    (setSlot_unchangedBut s i { slotAt s i with settleTimer := none, settled := (slotAt s i).raw })
  simp only [expireSettle]
  split
  · exact settled
  refine unchangedBut_trans settled ?_
  rw [settledChange]
  split
  · split
    · exact advanceChange_unchangedBut .a i _ _
    split
    · exact advanceChange_unchangedBut .b i _ _
    · exact unchangedBut_refl _ _
  · exact unexpectedChange_unchangedBut i _

/-- What an expired change can reach beside the judgement of its arm (R132). -/
def expiredBlocks : List Block :=
  .rackSource :: changeBlocks ++ ofArms .changeSource ++ ofArms .queue ++ causeBlocks

theorem blockSlot_unchangedBut (c : ChangeContext) (s : State) :
    unchangedBut [.slots, .rackSource] s (blockSlot c s) := by
  have blocked (i : Fin 12) (e : Option (Fin 14)) :
      unchangedBut [.slots, .rackSource] s (raiseRack i (enterSlot i .blocked e s)) :=
    unchangedBut_append (l := [.slots]) (enterSlot_unchangedBut i .blocked e s) (raiseRack_unchangedBut _ i)
  rw [blockSlot]
  split
  · cases c.putSlot with
    | none => exact unchangedBut_refl _ _
    | some i => exact blocked i _
  · cases c.takeSlot with
    | none => exact unchangedBut_refl _ _
    | some i => exact blocked i _
  · exact unchangedBut_refl _ _

theorem expireChange_unchangedBut (arm : Arm) (s : State) : unchangedBut expiredBlocks s (expireChange arm s) := by
  refine unchangedBut_last (raiseChange_unchangedBut_arms _ arm) (by decide) <|
    unchangedBut_last (recordCause_unchangedBut arm .changeFault _) (by cases arm <;> decide) <|
    unchangedBut_last (closeChange_unchangedBut arm .timedOut _) (by decide) ?_
  have blocked := unchangedBut_mono (l' := expiredBlocks) (by decide)
    (blockSlot_unchangedBut (s.rack.changes.get arm) s)
  split
  · exact unchangedBut_last (startBlank_unchangedBut arm _) (by decide) <|
      unchangedBut_last (mountTake_unchangedBut arm _) (by decide) blocked
  · exact blocked

/-! ### What the requests bring to the judgement (R89)

A request brings nothing to it but for POSITION, FAULT_CLEAR and the CHANGE_CLOSE that ends in CHANGE_FAULT. -/

@[simp] theorem refuse_trigger (code : ResultCode) (s : State) : (refuse code s).trigger = .plain := rfl

@[simp] theorem okProbe_trigger (e : Fin 14) (s : State) : (okProbe e s).trigger = .plain := by
  unfold okProbe; split <;> rfl

theorem attnEnable_trigger (r : Request) (s : State) : (attnEnable r s).trigger = .plain := by
  simp only [attnEnable]; repeat' split
  all_goals rfl

theorem alarmSet_trigger (r : Request) (s : State) : (alarmSet r s).trigger = .plain := by
  simp only [alarmSet]; repeat' split
  all_goals rfl

theorem zoneDefine_trigger (r : Request) (s : State) : (zoneDefine r s).trigger = .plain := by
  simp only [zoneDefine]; repeat' split
  all_goals rfl

theorem zoneFree_trigger (r : Request) (s : State) : (zoneFree r s).trigger = .plain := by
  simp only [zoneFree]; repeat' split
  all_goals rfl

theorem armSet_trigger (r : Request) (s : State) : (armSet r s).trigger = .plain := by
  simp only [armSet]; repeat' split
  all_goals rfl

theorem modelLoad_trigger (r : Request) (s : State) : (modelLoad r s).trigger = .plain := by
  simp only [modelLoad]; repeat' split
  all_goals rfl

theorem modelCheck_trigger (r : Request) (s : State) : (modelCheck r s).trigger = .plain := by
  simp only [modelCheck]; repeat' split
  all_goals rfl

theorem rackSet_trigger (r : Request) (s : State) : (rackSet r s).trigger = .plain := by
  simp only [rackSet]; repeat' split
  all_goals rfl

theorem slotService_trigger (r : Request) (s : State) : (slotService r s).trigger = .plain := by
  simp only [slotService]; repeat' split
  all_goals rfl

theorem probeSet_trigger (r : Request) (s : State) : (probeSet r s).trigger = .plain := by
  simp only [probeSet]; repeat' split
  all_goals rfl

theorem probeRegister_trigger (r : Request) (s : State) : (probeRegister r s).trigger = .plain := by
  simp only [probeRegister]; repeat' split
  all_goals simp

theorem probeTipWrite_trigger (r : Request) (s : State) : (probeTipWrite r s).trigger = .plain := by
  simp only [probeTipWrite]; repeat' split
  all_goals simp

theorem probeTipClear_trigger (r : Request) (s : State) : (probeTipClear r s).trigger = .plain := by
  simp only [probeTipClear]; repeat' split
  all_goals simp

theorem probeQualify_trigger (r : Request) (s : State) : (probeQualify r s).trigger = .plain := by
  simp only [probeQualify]; repeat' split
  all_goals simp

theorem probeReserve_trigger (r : Request) (s : State) : (probeReserve r s).trigger = .plain := by
  simp only [probeReserve]; repeat' split
  all_goals simp

theorem probeUnreserve_trigger (r : Request) (s : State) : (probeUnreserve r s).trigger = .plain := by
  simp only [probeUnreserve]; repeat' split
  all_goals simp

theorem probeRemove_trigger (r : Request) (s : State) : (probeRemove r s).trigger = .plain := by
  simp only [probeRemove]; repeat' split
  all_goals rfl

theorem sensorSet_trigger (r : Request) (s : State) : (sensorSet r s).trigger = .plain := by
  simp only [sensorSet]; repeat' split
  all_goals rfl

theorem seqListSet_trigger (r : Request) (s : State) : (seqListSet r s).trigger = .plain := by
  simp only [seqListSet]; repeat' split
  all_goals rfl

theorem tempSet_trigger (r : Request) (s : State) : (tempSet r s).trigger = .plain := by
  simp only [tempSet]; repeat' split
  all_goals rfl

theorem seqStart_trigger (r : Request) (s : State) : (seqStart r s).trigger = .plain := by
  simp only [seqStart]; repeat' split
  all_goals rfl

theorem convertOne_trigger (r : Request) (s : State) : (convertOne r s).trigger = .plain := by
  simp only [convertOne]; repeat' split
  all_goals rfl

theorem sensorUnlock_trigger (r : Request) (s : State) : (sensorUnlock r s).trigger = .plain := by
  simp only [sensorUnlock]; repeat' split
  all_goals rfl

theorem touchSet_trigger (r : Request) (s : State) : (touchSet r s).trigger = .plain := by
  simp only [touchSet]; repeat' split
  all_goals rfl

theorem touchDrop_trigger (r : Request) (s : State) : (touchDrop r s).trigger = .plain := by
  simp only [touchDrop]; repeat' split
  all_goals rfl

theorem attnTake_trigger (l : Link) (s : State) : (attnTake l s).trigger = .plain := by
  simp only [attnTake]; repeat' split
  all_goals rfl

theorem attnDone_trigger (l : Link) (s : State) : (attnDone l s).trigger = .plain := by
  simp only [attnDone]; repeat' split
  all_goals rfl

theorem armEnable_trigger (l : Link) (arm : Arm) (s : State) : (armEnable l arm s).trigger = .plain := by
  simp only [armEnable]; repeat' split
  all_goals rfl

theorem armDisable_trigger (l : Link) (arm : Arm) (s : State) : (armDisable l arm s).trigger = .plain := by
  simp only [armDisable]; repeat' split
  all_goals rfl

theorem claimBy_trigger (r : Request) (arm : Arm) (s : State) : (claimBy arm r s).trigger = .plain := by
  simp only [claimBy]; repeat' split
  all_goals rfl

theorem releaseBy_trigger (r : Request) (arm : Arm) (s : State) : (releaseBy arm r s).trigger = .plain := by
  simp only [releaseBy]; repeat' split
  all_goals rfl

theorem changeOpenBy_trigger (r : Request) (arm : Arm) (s : State) : (changeOpenBy arm r s).trigger = .plain := by
  simp only [changeOpenBy, openChecked]; repeat' split
  all_goals rfl

theorem touchBy_trigger (r : Request) (arm : Arm) (s : State) : (touchBy arm r s).trigger = .plain := by
  simp only [touchBy]; repeat' split
  all_goals rfl

theorem changeAbortBy_trigger (arm : Arm) (s : State) : (changeAbortBy arm s).trigger = .plain := by
  simp only [changeAbortBy]; split <;> rfl

theorem modelRevert_trigger (s : State) : (modelRevert s).trigger = .plain := by
  simp only [modelRevert]; split <;> rfl

theorem seqStop_trigger (s : State) : (seqStop s).trigger = .plain := by
  simp only [seqStop]; repeat' split
  all_goals rfl

theorem changeCloseBy_trigger (r : Request) (arm : Arm) (s : State) :
    (changeCloseBy arm r s).trigger = .plain ∨ ∃ k, (changeCloseBy arm r s).trigger = .changeFault k := by
  simp only [changeCloseBy]
  split; · exact .inl rfl
  split; · exact .inl rfl
  split
  · exact .inl rfl
  · exact .inr ⟨arm, rfl⟩

theorem faultClear_trigger (r : Request) (s : State) :
    (faultClear r s).trigger = .plain ∨ ∃ k, (faultClear r s).trigger = .faultClear k := by
  rw [faultClear]
  split; · exact .inl rfl
  next arm _ =>
  split
  · exact .inl rfl
  · exact .inr ⟨arm, rfl⟩

/-! ### The blocks of a command -/

/-- What the request of a frame can reach by itself. -/
def requestBlocks : Instr → List Block
  | .readArm _ | .readProbe _ => [.freeValues]
  | .attnTake _ | .attnDone _ => sourceBlocks
  | .attnEnable _ => sourceBlocks ++ masterBlocks
  | .armEnable _ => judgedBlocks
  | .faultClear _ => ofArms .supervisor
  | .armDisable _ => judgedBlocks ++ (.zoneTable :: ofArms .claim ++ ofArms .disabledBy)
  | .armReset _ => judgedBlocks ++ resetBlocks
  | .position _ => positionBlocks
  | .touch _ => [.entries, .probeSource, .touchSource] ++ ofArms .queue
  | .claim _ => .zoneTable :: ofArms .claim ++ verdictBlocks
  | .claimWithdraw _ => .zoneTable :: ofArms .claim
  | .release _ | .zoneFree _ => claimBlocks
  | .changeOpen _ | .changeAbort _ => .slots :: ofArms .change ++ ofArms .changeSource
  | .changeClose _ => ofArms .supervisor ++ closeBlocks
  | .sensorSet _ | .sensorUnlock _ => [.sensors, .sensorSource]
  | .seqListSet _ | .seqStart _ | .seqStop _ | .convertOne _ => [.sequencer]
  | .tempSet _ => [.tempSettings]
  | .modelLoad _ | .modelRevert _ | .modelCheck _ => [.model]
  | .zoneDefine _ => .zoneTable :: verdictBlocks
  | .armSet _ => judgedBlocks ++ (.faultSource :: ofArms .settings)
  | .probeSet _ => [.limits]
  | .probeRegister _ | .probeRemove _ | .slotService _ => [.entries, .slots]
  | .probeTipWrite _ | .probeTipClear _ | .probeQualify _ | .probeReserve _ | .probeUnreserve _ => [.entries]
  | .rackSet _ => [.changeTimeout]
  | .touchSet _ => [.touchSettings]
  | .touchDrop _ => ofArms .queue
  | .alarmSet _ => [.alarmMap]
  | _ => []

/-- The request that a command carries, if its frame carries one. -/
def requestOf : Instr → Option Request
  | .unknownRequest _ r | .nop r | .readTime r | .readTemp r | .readGroups r | .readModel r | .readZone r | .readArm r
  | .readProbe r | .readSlot r | .readChange r | .attnTake r | .attnDone r | .attnEnable r | .armEnable r
  | .armDisable r | .armReset r | .position r | .touch r | .claim r | .claimWithdraw r | .release r | .changeOpen r
  | .changeClose r | .changeAbort r | .sensorSet r | .seqListSet r | .seqStart r | .seqStop r | .convertOne r
  | .sensorUnlock r | .tempSet r | .modelLoad r | .modelRevert r | .modelCheck r | .zoneDefine r | .zoneFree r
  | .armSet r | .faultClear r | .probeSet r | .probeRegister r | .probeTipWrite r | .probeTipClear r | .probeQualify r
  | .probeReserve r | .probeUnreserve r | .probeRemove r | .rackSet r | .slotService r | .touchSet r | .touchHead r
  | .touchDrop r | .alarmSet r => some r
  | _ => none

/-- What an event that is no request can reach; the device reset reaches every block and is none of these. -/
def eventBlocks : Instr → List Block
  | .resetInputDeasserted => .resetInput :: .slots :: causeBlocks
  | .frameBegin l | .passedOverFrameEnd l => [.port l]
  | .frameDiscard l => .port l :: causeBlocks
  | .conversionCompletion _ => [.sensors, .sequencer, .sensorSource]
  | .roundTimerExpiry => [.sequencer]
  | .leftValidTimeExpiry _ => [.sensors]
  | .modelCheckCompletion => [.model, .modelSource]
  | .reportTimerExpiry _ | .settleWindowExpiry _ => causeBlocks
  | .permitSenseChange _ _ => ofArms .sense ++ causeBlocks
  | .presenceRawChange _ _ => [.slots]
  | .presenceSettleExpiry _ => settledBlocks
  | .changeTimerExpiry _ => expiredBlocks
  | .blankTimerExpiry _ => ofArms .queue
  | _ => []

/-- The blocks that a command can change. -/
def blocksOf (c : Instr) : List Block :=
  (requestOf c).elim (eventBlocks c) fun r => frameBlocks r.link ++ requestBlocks c

/-- The triggers that a command can bring to the judgement. -/
def triggersOf : Instr → Trigger → Prop
  | .position _, t => t = .plain ∨ ∃ arm, t = .position arm
  | .changeClose _, t => t = .plain ∨ ∃ arm, t = .changeFault arm
  | .faultClear _, t => t = .plain ∨ ∃ arm, t = .faultClear arm
  | _, t => t = .plain

/-! ### Every command -/

/-- Every command that carries a request is the end of its frame, and reaches its own blocks beside it. -/
theorem exec_request_endsFrame {c : Instr} {r : Request} {s t : State} (h : exec c s = .next t)
    (hr : requestOf c = some r) : endsFrame r.link (requestBlocks c) (triggersOf c) s t := by
  cases c <;> cases hr <;> cases h
  case unknownRequest | nop => exact handleRequest_endsFrame (fun u => unchangedBut_refl _ u) fun _ => rfl
  case readTime | readTemp | readGroups | readModel | readZone | readSlot | readChange | touchHead =>
    exact handleRead_endsFrame (by rfl) fun u => unchangedBut_refl _ u
  case readArm => exact handleRead_endsFrame (by rfl) (readArm_unchangedBut r)
  case readProbe => exact handleRead_endsFrame (by rfl) (readProbe_unchangedBut r)
  case attnTake => exact handleRequest_endsFrame (attnTake_unchangedBut r.link) (attnTake_trigger r.link)
  case attnDone => exact handleRequest_endsFrame (attnDone_unchangedBut r.link) (attnDone_trigger r.link)
  case attnEnable => exact handleRequest_endsFrame (attnEnable_unchangedBut r) (attnEnable_trigger r)
  case armEnable => exact handleControl_endsFrame (by rfl) (armEnable_unchangedBut r.link) (armEnable_trigger r.link)
  case armDisable => exact handleControl_endsFrame (by rfl) (armDisable_unchangedBut r.link) (armDisable_trigger r.link)
  case armReset => exact handleControl_endsFrame (by rfl) armReset_unchangedBut fun _ _ => rfl
  case position =>
    exact handleRequest_endsFrame (forLinkArm_unchangedBut (positionBy_unchangedBut r))
      (forLinkArm_trigger (by exact .inl rfl) (fun arm _ => .inr ⟨arm, rfl⟩))
  case touch =>
    exact handleRequest_endsFrame (forLinkArm_unchangedBut (touchBy_unchangedBut r))
      (forLinkArm_trigger (by rfl) (touchBy_trigger r))
  case claim =>
    exact handleRequest_endsFrame (forLinkArm_unchangedBut (claimBy_unchangedBut r))
      (forLinkArm_trigger (by rfl) (claimBy_trigger r))
  case claimWithdraw =>
    exact handleRequest_endsFrame (forLinkArm_unchangedBut removeClaim_unchangedBut_claims)
      (forLinkArm_trigger (by rfl) (fun _ _ => rfl))
  case release =>
    exact handleRequest_endsFrame (forLinkArm_unchangedBut (releaseBy_unchangedBut r))
      (forLinkArm_trigger (by rfl) (releaseBy_trigger r))
  case changeOpen =>
    exact handleRequest_endsFrame (forLinkArm_unchangedBut (changeOpenBy_unchangedBut r))
      (forLinkArm_trigger (by rfl) (changeOpenBy_trigger r))
  case changeClose =>
    exact handleRequest_endsFrame (forLinkArm_unchangedBut (changeCloseBy_unchangedBut r))
      (forLinkArm_trigger (by exact .inl rfl) (changeCloseBy_trigger r))
  case changeAbort =>
    exact handleRequest_endsFrame (forLinkArm_unchangedBut changeAbortBy_unchangedBut)
      (forLinkArm_trigger (by rfl) changeAbortBy_trigger)
  case sensorSet => exact handleRequest_endsFrame (sensorSet_unchangedBut r) (sensorSet_trigger r)
  case seqListSet => exact handleRequest_endsFrame (seqListSet_unchangedBut r) (seqListSet_trigger r)
  case seqStart => exact handleRequest_endsFrame (seqStart_unchangedBut r) (seqStart_trigger r)
  case seqStop => exact handleRequest_endsFrame seqStop_unchangedBut seqStop_trigger
  case convertOne => exact handleRequest_endsFrame (convertOne_unchangedBut r) (convertOne_trigger r)
  case sensorUnlock => exact handleRequest_endsFrame (sensorUnlock_unchangedBut r) (sensorUnlock_trigger r)
  case tempSet => exact handleRequest_endsFrame (tempSet_unchangedBut r) (tempSet_trigger r)
  case modelLoad => exact handleRequest_endsFrame (modelLoad_unchangedBut r) (modelLoad_trigger r)
  case modelRevert => exact handleRequest_endsFrame modelRevert_unchangedBut modelRevert_trigger
  case modelCheck => exact handleRequest_endsFrame (modelCheck_unchangedBut r) (modelCheck_trigger r)
  case zoneDefine => exact handleRequest_endsFrame (zoneDefine_act_unchangedBut r) (zoneDefine_trigger r)
  case zoneFree => exact handleRequest_endsFrame (zoneFree_unchangedBut r) (zoneFree_trigger r)
  case armSet => exact handleRequest_endsFrame (armSet_unchangedBut r) (armSet_trigger r)
  case faultClear => exact handleRequest_endsFrame (faultClear_unchangedBut r) (faultClear_trigger r)
  case probeSet => exact handleRequest_endsFrame (probeSet_unchangedBut r) (probeSet_trigger r)
  case probeRegister => exact handleRequest_endsFrame (probeRegister_unchangedBut r) (probeRegister_trigger r)
  case probeTipWrite => exact handleRequest_endsFrame (probeTipWrite_unchangedBut r) (probeTipWrite_trigger r)
  case probeTipClear => exact handleRequest_endsFrame (probeTipClear_unchangedBut r) (probeTipClear_trigger r)
  case probeQualify => exact handleRequest_endsFrame (probeQualify_unchangedBut r) (probeQualify_trigger r)
  case probeReserve => exact handleRequest_endsFrame (probeReserve_unchangedBut r) (probeReserve_trigger r)
  case probeUnreserve => exact handleRequest_endsFrame (probeUnreserve_unchangedBut r) (probeUnreserve_trigger r)
  case probeRemove => exact handleRequest_endsFrame (probeRemove_unchangedBut r) (probeRemove_trigger r)
  case rackSet => exact handleRequest_endsFrame (rackSet_unchangedBut r) (rackSet_trigger r)
  case slotService => exact handleRequest_endsFrame (slotService_unchangedBut r) (slotService_trigger r)
  case touchSet => exact handleRequest_endsFrame (touchSet_unchangedBut r) (touchSet_trigger r)
  case touchDrop => exact handleRequest_endsFrame (touchDrop_unchangedBut r) (touchDrop_trigger r)
  case alarmSet => exact handleRequest_endsFrame (alarmSet_unchangedBut r) (alarmSet_trigger r)

/-- The outcome of a command that acts only when its event is due. -/
theorem unchangedBut_of_if {p : Prop} [Decidable p] {bs : List Block} {s u t : State}
    (h : (if p then (.next u : StepResult) else .next s) = .next t) (hu : unchangedBut bs s u) :
    unchangedBut bs s t := by
  split at h <;> cases h
  · exact hu
  · exact unchangedBut_refl _ _

/-- An event that ends in a judgement of the arms reaches what the event and the judgement reach. -/
theorem conclude_event_unchangedBut {s0 s u : State} (t : Trigger) {bs : List Block} (hbs : judgedBlocks ⊆ bs)
    (hu : unchangedBut bs s u) : unchangedBut bs s (conclude s0 t u) :=
  unchangedBut_last (conclude_unchangedBut_judged s0 t u) hbs hu

/-- Every event that is no request and no device reset reaches its own blocks alone. -/
theorem exec_event_unchangedBut {c : Instr} {s t : State} (h : exec c s = .next t) (hr : requestOf c = none)
    (hc : c ≠ .resetInputAsserted) : unchangedBut (eventBlocks c) s t := by
  cases c <;> cases hr
  case resetInputAsserted => exact absurd rfl hc
  case resetInputDeasserted =>
    change unchangedBut (.resetInput :: .slots :: causeBlocks) s t
    simp only [exec, execResetInputDeasserted] at h
    split at h <;> cases h
    · exact conclude_event_unchangedBut .plain (by decide) (leaveReset_unchangedBut s)
    · exact unchangedBut_refl _ _
  case frameBegin l => cases h; exact beginFrame_unchangedBut l s
  case frameDiscard l =>
    change unchangedBut (.port l :: causeBlocks) s t
    simp only [exec, execFrameDiscard] at h
    split at h <;> cases h
    · exact conclude_event_unchangedBut .plain (by simp [causeBlocks]) (discardFrame_unchangedBut l s)
    · exact unchangedBut_mono (by simp) (modPort_unchangedBut s l _)
  case passedOverFrameEnd l =>
    change unchangedBut [.port l] s t
    simp only [exec, execPassedOverFrameEnd] at h
    split at h <;> cases h
    · exact unchangedBut_refl _ _
    · exact modPort_unchangedBut s l _
  case conversionCompletion code =>
    change unchangedBut [.sensors, .sequencer, .sensorSource] s t
    simp only [exec, execConversionCompletion] at h
    split at h
    · cases h; exact unchangedBut_refl _ _
    · exact unchangedBut_of_if h (completeConversion_unchangedBut code _ s)
  case roundTimerExpiry => exact unchangedBut_of_if h (expireRound_unchangedBut s)
  case leftValidTimeExpiry i => exact unchangedBut_of_if h (setSensor_unchangedBut s i _)
  case modelCheckCompletion =>
    change unchangedBut [.model, .modelSource] s t
    simp only [exec, execModelCheckCompletion] at h
    split at h
    · cases h; exact unchangedBut_refl _ _
    · exact unchangedBut_of_if h (completeCheck_unchangedBut _ s)
  case reportTimerExpiry arm =>
    exact unchangedBut_of_if h (conclude_event_unchangedBut .plain (bs := causeBlocks) (by decide)
      (expireReport_unchangedBut arm s))
  case permitSenseChange arm level =>
    cases h
    exact conclude_event_unchangedBut .plain (bs := ofArms .sense ++ causeBlocks) (by decide)
      (changeSense_unchangedBut arm level s)
  case settleWindowExpiry arm =>
    exact unchangedBut_of_if h (conclude_event_unchangedBut .plain (bs := causeBlocks) (by decide)
      (expireWindow_unchangedBut arm s))
  case presenceRawChange i level => cases h; exact changeRaw_unchangedBut i level s
  case presenceSettleExpiry i => exact unchangedBut_of_if h (expireSettle_unchangedBut i s)
  case changeTimerExpiry arm =>
    exact unchangedBut_of_if h
      (conclude_event_unchangedBut (.changeFault arm) (bs := expiredBlocks) (by decide) (expireChange_unchangedBut arm s))
  case blankTimerExpiry arm =>
    exact unchangedBut_of_if h (unchangedBut_mono (by cases arm <;> decide) (setQueue_unchangedBut s arm _))

/-- Every command but the device reset changes its own blocks alone. -/
theorem exec_unchangedBut {c : Instr} {s t : State} (h : exec c s = .next t) (hc : c ≠ .resetInputAsserted) :
    unchangedBut (blocksOf c) s t := by
  cases hr : requestOf c with
  | none => rw [blocksOf, hr]; exact exec_event_unchangedBut h hr hc
  | some r => rw [blocksOf, hr]; exact (exec_request_endsFrame h hr).unchangedBut

/-- A predicate that reads no block of a command is kept by it. -/
theorem readsOnly.exec {bs : List Block} {P : State → Prop} (hP : readsOnly bs P) {c : Instr} {s t : State}
    (h : exec c s = .next t) (hc : c ≠ .resetInputAsserted) (untouched : ∀ b ∈ bs, b ∉ blocksOf c) (hs : P s) : P t :=
  hP s t (fun b hb => exec_unchangedBut h hc b (untouched b hb)) hs

/-- A predicate that the end of every frame keeps, and that reads no block of a request, is kept by it. -/
theorem readsOnly.exec_request {bs : List Block} {P : State → Prop} (hP : readsOnly bs P) (stable : FrameStable P)
    {c : Instr} {r : Request} {s t : State} (h : Machine.exec c s = .next t) (hr : requestOf c = some r)
    (untouched : ∀ b ∈ bs, b ∉ requestBlocks c) (hs : P s) : P t := by
  obtain ⟨_, _, _, rfl, hact, -, hfinish⟩ := exec_request_endsFrame h hr
  exact stable.handleFrame (fun u hu => hP u _ (fun b hb => hact u b (untouched b hb)) hu)
    (fun reply u hu => hP u _ (fun b hb => hfinish reply u b (untouched b hb)) hu) hs

/-! ### Every step -/

/-- A predicate that every command keeps, and that reads neither the waiting commands, the free values, cell time nor
the links of the disables, is kept by every step. -/
theorem step_keeps {bs : List Block} {P : State → Prop} (hP : readsOnly bs P)
    (apart : ∀ b ∈ bs, b ∉ [.waiting, .freeValues, .time, .disabledBy .a, .disabledBy .b])
    (hexec : ∀ c s t, exec c s = .next t → P s → P t) {s t : State} (h : step s = .next t) (hs : P s) : P t := by
  have kept {l : List Block} {u : State} (hu : unchangedBut l s u)
      (hl : l ⊆ [.waiting, .freeValues, .time, .disabledBy .a, .disabledBy .b]) : P u :=
    hP s u (fun b hb => hu b fun hm => apart b hb (hl hm)) hs
  rw [step] at h
  split at h
  · next c rest _ =>
    exact hexec c _ t h (kept (l := [.waiting]) (fun b hb => by cases b <;> simp_all [Block.same]) (by simp))
  · split at h
    · next e _ => exact hexec e _ t h (kept (freeIndex_unchangedBut s _) (by simp))
    · cases h
      rw [tick]
      split
      · exact hs
      · refine kept (l := [.time, .disabledBy .a, .disabledBy .b]) (fun b hb => ?_) (by simp)
        cases b
        case disabledBy arm => cases arm <;> simp at hb
        all_goals simp_all [Block.same]

end Sys2Proof.Machine
end

section
/-! PROOFS. What every step keeps of the attention units and the ports (R152, R155, R163). -/

namespace Sys2Proof.Machine

/-! ### One source -/

theorem Source.sound_raise {δ : Type} {empty : δ} {src : Source δ} (h : src.sound empty) (f : δ → δ) :
    (src.raise f).sound empty := Source.raise_sound empty f src h.1 h.2

theorem Source.sound_take {δ : Type} (empty : δ) (src : Source δ) : (src.take empty).sound empty := by
  simp [Source.sound, Source.take]

theorem Source.sound_done {δ : Type} {empty : δ} {src : Source δ} (h : src.sound empty) : src.done.sound empty := h

theorem Source.sound_enabled {δ : Type} {empty : δ} {src : Source δ} (h : src.sound empty) (on : Bool) :
    (src.enabled on empty).sound empty := by
  cases on
  · simp [Source.sound, Source.enabled]
  · exact ⟨fun _ => rfl, h.2⟩

theorem Source.sound_clear {δ : Type} (on : Bool) (empty : δ) : (Source.clear on empty).sound empty := by
  simp [Source.sound, Source.clear]

/-! ### The units -/

theorem attentionSound_readsOnly : readsOnly sourceBlocks AttentionSound := by
  intro s t h
  simp only [sourceBlocks, ofArms, List.cons_append, List.nil_append, List.forall_mem_cons, Block.same, PerArm.get] at h
  simp [AttentionSound, CellUnit.sound, ArmUnit.sound, h]

section Units
variable {s : State} (h : AttentionSound s)
include h

theorem AttentionSound.arm (arm : Arm) : (s.attn.arms.get arm).sound := by
  obtain ⟨-, ha, hb⟩ := h
  cases arm
  · exact ha
  · exact hb

theorem AttentionSound.modCellUnit {f : CellUnit → CellUnit} (hf : (f s.attn.cell).sound) :
    AttentionSound (s.modCellUnit f) := ⟨hf, h.2⟩

theorem AttentionSound.setArmUnit {arm : Arm} {u : ArmUnit} (hu : u.sound) : AttentionSound (s.setArmUnit arm u) := by
  obtain ⟨hc, ha, hb⟩ := h
  cases arm
  · exact ⟨hc, hu, hb⟩
  · exact ⟨hc, ha, hu⟩

/-! ### Events on the sources -/

theorem AttentionSound.raiseFault (arm : Arm) : AttentionSound (raiseFault arm s) :=
  have ⟨fault, rack, model, sensor, probe, touch⟩ := h.1
  h.modCellUnit ⟨Source.sound_raise fault _, rack, model, sensor, probe, touch⟩

theorem AttentionSound.raiseRack (i : Fin 12) : AttentionSound (raiseRack i s) :=
  have ⟨fault, rack, model, sensor, probe, touch⟩ := h.1
  h.modCellUnit ⟨fault, Source.sound_raise rack _, model, sensor, probe, touch⟩

theorem AttentionSound.raiseModel (r : CheckResult) : AttentionSound (raiseModel r s) :=
  have ⟨fault, rack, model, sensor, probe, touch⟩ := h.1
  h.modCellUnit ⟨fault, rack, Source.sound_raise model _, sensor, probe, touch⟩

theorem AttentionSound.raiseSensor (i : Fin 16) : AttentionSound (raiseSensor i s) :=
  have ⟨fault, rack, model, sensor, probe, touch⟩ := h.1
  h.modCellUnit ⟨fault, rack, model, Source.sound_raise sensor _, probe, touch⟩

theorem AttentionSound.raiseProbe (e : Fin 14) : AttentionSound (raiseProbe e s) :=
  have ⟨fault, rack, model, sensor, probe, touch⟩ := h.1
  h.modCellUnit ⟨fault, rack, model, sensor, Source.sound_raise probe _, touch⟩

theorem AttentionSound.raiseTouch (arm : Arm) : AttentionSound (raiseTouch arm s) :=
  have ⟨fault, rack, model, sensor, probe, touch⟩ := h.1
  h.modCellUnit ⟨fault, rack, model, sensor, probe, Source.sound_raise touch _⟩

theorem AttentionSound.raisePermit (arm : Arm) (on : Bool) (st : SupState) : AttentionSound (raisePermit arm on st s) :=
  have ⟨permit, change, claim, comp⟩ := h.arm arm
  h.setArmUnit ⟨Source.sound_raise permit _, change, claim, comp⟩

theorem AttentionSound.raiseChange (arm : Arm) : AttentionSound (raiseChange arm s) :=
  have ⟨permit, change, claim, comp⟩ := h.arm arm
  h.setArmUnit ⟨permit, Source.sound_raise change _, claim, comp⟩

theorem AttentionSound.raiseClaim (arm : Arm) (c : Claim) : AttentionSound (raiseClaim arm c s) :=
  have ⟨permit, change, claim, comp⟩ := h.arm arm
  h.setArmUnit ⟨permit, change, Source.sound_raise claim _, comp⟩

theorem AttentionSound.raiseComp (arm : Arm) (w : Quality) : AttentionSound (raiseComp arm w s) :=
  have ⟨permit, change, claim, comp⟩ := h.arm arm
  h.setArmUnit ⟨permit, change, claim, Source.sound_raise comp _⟩

/-! ### The requests of the units -/

theorem AttentionSound.attnTake (l : Link) : AttentionSound (attnTake l s).st := by
  rw [Machine.attnTake]
  split
  · exact h
  split
  · have ⟨fault, rack, model, sensor, probe, touch⟩ := h.1
    refine h.modCellUnit ?_
    simp only [takeCell]
    split
    · exact ⟨Source.sound_take _ _, rack, model, sensor, probe, touch⟩
    · exact ⟨fault, Source.sound_take _ _, model, sensor, probe, touch⟩
    · exact ⟨fault, rack, Source.sound_take _ _, sensor, probe, touch⟩
    · exact ⟨fault, rack, model, Source.sound_take _ _, probe, touch⟩
    · exact ⟨fault, rack, model, sensor, Source.sound_take _ _, touch⟩
    · exact ⟨fault, rack, model, sensor, probe, Source.sound_take _ _⟩
  · next arm _ =>
    have ⟨permit, change, claim, comp⟩ := h.arm arm
    refine h.setArmUnit ?_
    simp only [takeArm]
    split
    · exact ⟨Source.sound_take _ _, change, claim, comp⟩
    · exact ⟨permit, Source.sound_take _ _, claim, comp⟩
    · exact ⟨permit, change, Source.sound_take _ _, comp⟩
    · exact ⟨permit, change, claim, Source.sound_take _ _⟩

theorem AttentionSound.attnDone (l : Link) : AttentionSound (attnDone l s).st := by
  rw [Machine.attnDone]
  split
  · exact h
  split
  · refine h.modCellUnit ?_
    simp only [doneCell]
    split <;> exact h.1
  · next arm _ =>
    refine h.setArmUnit ?_
    simp only [doneArm]
    split <;> exact h.arm arm

theorem AttentionSound.attnEnable (r : Request) : AttentionSound (attnEnable r s).st := by
  simp only [Machine.attnEnable]
  split_ifs
  · exact h
  cases armOf r.link with
  | none =>
    have ⟨fault, rack, model, sensor, probe, touch⟩ := h.1
    exact h.modCellUnit ⟨Source.sound_enabled fault _, Source.sound_enabled rack _,
      Source.sound_enabled model _, Source.sound_enabled sensor _,
      Source.sound_enabled probe _, Source.sound_enabled touch _⟩
  | some arm =>
    have ⟨permit, change, claim, comp⟩ := h.arm arm
    exact h.setArmUnit ⟨Source.sound_enabled permit _, Source.sound_enabled change _,
      Source.sound_enabled claim _, Source.sound_enabled comp _⟩

/-! ### Operations of the other blocks that raise attention -/

theorem AttentionSound.enterState (arm : Arm) (st : SupState) : AttentionSound (enterState arm st s) := by
  rw [enterState_spec]
  split
  · exact h
  · exact AttentionSound.raisePermit h arm _ st

theorem AttentionSound.recordCause (arm : Arm) (c : Cause) : AttentionSound (recordCause arm c s) := by
  rw [recordCause_spec]
  split
  · exact h
  · exact AttentionSound.raiseFault h arm

theorem AttentionSound.setPresent (arm : Arm) (c : Cause) (now : Bool) : AttentionSound (setPresent arm c now s) := by
  rw [setPresent_spec]
  split
  · exact AttentionSound.raiseFault h arm
  · exact h

theorem AttentionSound.judgeVerdict (arm : Arm) : AttentionSound (judgeVerdict arm s) := by
  rw [Machine.judgeVerdict]
  split
  · exact AttentionSound.setPresent h arm _ _
  · exact AttentionSound.setPresent (s := s.setGuard arm _) h arm _ _

theorem AttentionSound.judgeSense (arm : Arm) : AttentionSound (judgeSense arm s) := by
  rw [Machine.judgeSense]
  split
  · exact h
  · exact AttentionSound.setPresent h arm _ _

theorem AttentionSound.reevaluateClaim (arm : Arm) : AttentionSound (reevaluateClaim arm s) := by
  obtain ⟨-, same⟩ | ⟨c, -, granted⟩ | ⟨c, -, waits⟩ := reevaluateClaim_cases arm s
  · rw [same]; exact h
  · rw [granted]
    have removed : AttentionSound (removeClaim arm s) :=
      attentionSound_readsOnly.kept (removeClaim_unchangedBut_claims arm s) (by decide) h
    exact (AttentionSound.raiseClaim (s := holdRange arm c (removeClaim arm s)) removed arm c).judgeVerdict arm
  · rw [waits]; exact h

theorem AttentionSound.reevaluate : AttentionSound (reevaluate s) := (h.reevaluateClaim .a).reevaluateClaim .b

theorem AttentionSound.refreshGuard (arm : Arm) : AttentionSound (refreshGuard arm s) := by
  rw [Machine.refreshGuard]
  split
  · exact h.judgeVerdict arm
  · exact AttentionSound.judgeVerdict (s := s.setGuard arm _) h arm

theorem AttentionSound.mountCheck (e : Fin 14) : AttentionSound (mountCheck e s) := by
  rw [Machine.mountCheck]
  split
  · exact h
  split
  · exact AttentionSound.raiseProbe (s := s.setEntry e _) h e
  · exact h

theorem AttentionSound.mountTake (arm : Arm) : AttentionSound (mountTake arm s) := by
  rw [Machine.mountTake]
  split
  · exact h
  · exact AttentionSound.mountCheck (s := s.modProbe _ _) h _

theorem AttentionSound.countUse (e : Fin 14) : AttentionSound (countUse e s) := by
  simp only [Machine.countUse]
  split
  · exact h
  split
  · exact AttentionSound.raiseProbe (s := s.setEntry e _) h e
  · exact h

theorem AttentionSound.giveBackSlot (c : ChangeContext) : AttentionSound (giveBackSlot c s) :=
  attentionSound_readsOnly.kept (giveBackSlot_unchangedBut c s) (by decide) h

theorem AttentionSound.blockSlot (c : ChangeContext) : AttentionSound (blockSlot c s) := by
  rw [Machine.blockSlot]
  split
  · cases c.putSlot with
    | none => exact h
    | some i => exact AttentionSound.raiseRack (s := enterSlot i .blocked none s) h i
  · cases c.takeSlot with
    | none => exact h
    | some i => exact AttentionSound.raiseRack (s := enterSlot i .blocked _ s) h i
  · exact h

/-! ### The acts -/

theorem AttentionSound.armEnable (l : Link) (arm : Arm) : AttentionSound (armEnable l arm s).st := by
  simp only [Machine.armEnable]
  split_ifs
  · exact h
  · exact h
  · exact AttentionSound.enterState h arm .starting

theorem AttentionSound.armDisable (l : Link) (arm : Arm) : AttentionSound (armDisable l arm s).st := by
  simp only [Machine.armDisable]
  split_ifs
  · exact h
  · have entered : AttentionSound ((Machine.enterState arm .disabled s).modSup arm fun v => { v with reportTimer := none }) :=
      AttentionSound.enterState h arm .disabled
    have removed := attentionSound_readsOnly.kept (removeClaim_unchangedBut_claims arm _) (by decide) entered
    exact removed

theorem AttentionSound.resetChange (arm : Arm) : AttentionSound (resetChange arm s) := by
  simp only [Machine.resetChange]
  split_ifs
  · exact h
  · exact AttentionSound.mountTake (h.giveBackSlot _) arm
  · exact h.giveBackSlot _

theorem AttentionSound.armReset (arm : Arm) : AttentionSound (armReset arm s).st := by
  have removed : AttentionSound (removeClaim arm (Machine.resetChange arm s)) :=
    attentionSound_readsOnly.kept (removeClaim_unchangedBut_claims arm _) (by decide) (h.resetChange arm)
  have reset : AttentionSound (resetSupervisor arm (removeClaim arm (Machine.resetChange arm s))) :=
    attentionSound_readsOnly.kept (resetSupervisor_unchangedBut arm _) (by cases arm <;> decide) removed
  refine AttentionSound.judgeSense (AttentionSound.setArmUnit ?_ ?_) arm
  · exact reset
  · exact ⟨Source.sound_clear _ _, Source.sound_clear _ _, Source.sound_clear _ _, Source.sound_clear _ _⟩

theorem AttentionSound.positionBy (r : Request) (arm : Arm) : AttentionSound (positionBy arm r s).st := by
  have recorded (p : PosRecord) : AttentionSound (reportComp arm (s.lastPos.get arm) p.worst (s.setLastPos arm (some p))) := by
    rw [reportComp]
    split
    · exact h
    · exact AttentionSound.raiseComp (s := s.setLastPos arm (some p)) h arm _
  have judged (p : PosRecord) (g : Option GuardRecord) := (((AttentionSound.judgeVerdict (s := State.setGuard _ arm g)
    (recorded p) arm).setPresent arm .compLost (compLost p)).setPresent arm .overdue false)
  simp only [Machine.positionBy]
  split_ifs
  · exact judged _ _
  · exact judged _ _

theorem AttentionSound.touchBy (r : Request) (arm : Arm) : AttentionSound (touchBy arm r s).st := by
  simp only [Machine.touchBy]
  split; · exact h
  split; · exact h
  split; · exact h
  split; · exact h
  split; · exact h
  split
  · exact h
  · rw [reportFill]
    have counted (q : TouchQueue) (e : Fin 14) := AttentionSound.countUse (s := s.setQueue arm q) h e
    split
    · exact (counted _ _).raiseTouch arm
    · exact counted _ _

theorem AttentionSound.claimBy (r : Request) (arm : Arm) : AttentionSound (claimBy arm r s).st := by
  have held (c : Claim) : AttentionSound (holdRange arm c s) := h
  simp only [Machine.claimBy]
  split; · exact h
  split; · exact h
  split; · exact h
  split
  · exact (held _).judgeVerdict arm
  split <;> exact h

theorem AttentionSound.releaseBy (r : Request) (arm : Arm) : AttentionSound (releaseBy arm r s).st := by
  have freed (p : Fin 16 → Zone → Bool) : AttentionSound (freeZones p s) := h
  rw [releaseBy_eq]
  cases releaseRefusal arm r s with
  | some code => exact h
  | none => exact (freed _).reevaluate

theorem AttentionSound.zoneFree (r : Request) : AttentionSound (zoneFree r s).st := by
  have freed (p : Fin 16 → Zone → Bool) : AttentionSound (freeZones p s) := h
  simp only [Machine.zoneFree]
  split; · exact h
  split; · exact h
  split; · exact h
  refine AttentionSound.judgeVerdict ?_ _
  split
  · exact freed _
  · exact (freed _).reevaluate

theorem AttentionSound.zoneDefine (r : Request) : AttentionSound (zoneDefine r s).st := by
  have redefined (z : Fin 16) (record : Zone) : AttentionSound (redefineZone z record s) :=
    (AttentionSound.refreshGuard (s := s.setZoneTable (vput s.zones.table z record)) h .a).refreshGuard .b
  simp only [Machine.zoneDefine]
  split; · exact h
  split; · exact h
  split; · exact h
  split
  · exact h
  · exact redefined _ _
  split; · exact h
  split; · exact h
  split
  · exact h
  · exact redefined _ _

theorem AttentionSound.armSet (r : Request) : AttentionSound (armSet r s).st := by
  have changed (arm : Arm) (before after : Modes) (c : Cause) {u : State} (hu : AttentionSound u) :
      AttentionSound (changeMode arm before after c u) := by
    rw [changeMode]
    split_ifs
    · exact hu
    · exact hu
    · exact hu.recordCause arm c
    · exact hu
  have rewritten (arm : Arm) (modes : Modes) : AttentionSound (setModes arm modes s) :=
    changed arm _ _ .link <| changed arm _ _ .compLost <| changed arm _ _ .overdue <|
      changed arm _ _ .guard (u := s.setSettings arm { (s.sup.get arm).settings with modes := modes }) h
  simp only [Machine.armSet]
  split; · exact h
  split; · exact h
  split; · exact h
  split
  · split <;> exact h
  · split <;> exact h
  · split
    · exact h
    · exact rewritten _ _

theorem AttentionSound.changeOpenBy (r : Request) (arm : Arm) : AttentionSound (changeOpenBy arm r s).st := by
  have context {u : State} (hu : AttentionSound u) (c : ChangeContext) :
      AttentionSound (Machine.raiseChange arm (u.setChange arm c)) := AttentionSound.raiseChange (s := u.setChange arm c) hu arm
  have opened (mounted : Option Probe) (takeId : Half) (take : Option (Fin 14 × Fin 12 × Probe)) :
      AttentionSound (openChange arm mounted takeId take s) := by
    cases mounted with
    | some q => exact context (u := enterSlot q.home .released none s) h _
    | none =>
      cases take with
      | none => exact context h _
      | some t => exact context (u := enterSlot t.2.1 .released (some t.1) s) h _
  have checked (mounted : Option Probe) : AttentionSound (openChecked arm r.d0.toNat mounted s).st := by
    simp only [openChecked]
    split; · exact h
    split; · exact h
    split
    · exact h
    · exact opened _ _ _
  simp only [Machine.changeOpenBy]
  split; · exact h
  split; · exact h
  split; · exact h
  split; · exact h
  split; · exact h
  split; · exact h
  split
  · exact h
  · exact checked _

theorem AttentionSound.changeCloseBy (r : Request) (arm : Arm) : AttentionSound (changeCloseBy arm r s).st := by
  simp only [Machine.changeCloseBy]
  split_ifs
  · exact h
  · exact h
  · exact AttentionSound.raiseChange (s := startBlank arm _)
      (AttentionSound.mountTake (s := closeChange arm .closed s) h arm) arm
  · exact AttentionSound.raiseChange (s := closeChange arm .closed s) h arm
  · have located : AttentionSound (locateAny (headProbe s arm) .missing s) :=
      attentionSound_readsOnly.kept (locateAny_unchangedBut _ _ s) (by decide) h
    exact (AttentionSound.recordCause (s := closeChange arm .wrongProbe _) located arm .changeFault).raiseChange arm
  · exact (AttentionSound.recordCause (s := closeChange arm .wrongProbe s) h arm .changeFault).raiseChange arm

theorem AttentionSound.changeAbortBy (arm : Arm) : AttentionSound (changeAbortBy arm s).st := by
  simp only [Machine.changeAbortBy]
  split
  · exact AttentionSound.raiseChange (s := closeChange arm .aborted _) (h.giveBackSlot _) arm
  · exact h

theorem AttentionSound.sensorSet (r : Request) : AttentionSound (sensorSet r s).st := by
  simp only [Machine.sensorSet]
  split; · exact h
  split; · exact h
  split; · exact h
  split; · exact h
  split; · exact h
  split; · exact h
  next i _ _ _ role _ _ _ _ =>
  split
  · exact AttentionSound.raiseSensor (s := s.setSensor i _) h i
  · exact h

theorem AttentionSound.sensorUnlock (r : Request) : AttentionSound (sensorUnlock r s).st := by
  simp only [Machine.sensorUnlock]
  split
  · exact h
  split_ifs
  · exact h
  · exact AttentionSound.raiseSensor (s := s.setSensor _ _) h _

/-! ### The events -/

theorem AttentionSound.completeConversion (code : Half) (c : Conversion) :
    AttentionSound (completeConversion code c s) := by
  simp only [Machine.completeConversion]
  split_ifs
  · exact AttentionSound.raiseSensor (s := s.setSensor _ _) h _
  · exact h

theorem AttentionSound.expireSettle (i : Fin 12) : AttentionSound (expireSettle i s) := by
  have located (e : Option (Fin 14)) (loc : Location) {u : State} (hu : AttentionSound u) :
      AttentionSound (locateAny e loc u) :=
    attentionSound_readsOnly.kept (locateAny_unchangedBut e loc u) (by decide) hu
  have advanced (arm : Arm) (seated : Bool) {u : State} (hu : AttentionSound u) :
      AttentionSound (advanceChange arm i seated u) := by
    rw [advanceChange]
    split
    · have entered := located (headProbe u arm) (.slot i) hu
      rw [completeDeposit]
      refine AttentionSound.raiseChange ?_ arm
      split
      · exact entered
      split <;> exact entered
    · have entered := located (slotAt u i).probe (.head arm) hu
      rw [completePick]
      refine AttentionSound.raiseChange ?_ arm
      exact entered
  have unexpected {u : State} (hu : AttentionSound u) : AttentionSound (unexpectedChange i u) := by
    have gone := located (slotAt u i).probe .missing hu
    rw [Machine.unexpectedChange]
    refine AttentionSound.raiseRack ?_ i
    split
    · exact gone
    all_goals exact hu
  simp only [Machine.expireSettle]
  split
  · exact h
  rw [settledChange]
  split_ifs
  · exact advanced .a _ h
  · exact advanced .b _ h
  · exact h
  · exact unexpected h

theorem AttentionSound.expireChange (arm : Arm) : AttentionSound (expireChange arm s) := by
  have closed {u : State} (hu : AttentionSound u) :
      AttentionSound (Machine.raiseChange arm (reportChangeFault arm (closeChange arm .timedOut u))) :=
    (AttentionSound.recordCause (s := closeChange arm .timedOut u) hu arm .changeFault).raiseChange arm
  simp only [Machine.expireChange]
  split
  · exact closed ((h.blockSlot _).mountTake arm)
  · exact closed (h.blockSlot _)

theorem AttentionSound.changeSense (arm : Arm) (level : Bool) : AttentionSound (changeSense arm level s) := by
  simp only [Machine.changeSense]
  split_ifs
  · exact h
  · exact h
  · exact AttentionSound.judgeSense (s := s.modSup arm _) h arm

theorem AttentionSound.discardFrame (l : Link) : AttentionSound (discardFrame l s) := by
  simp only [Machine.discardFrame]
  split
  · exact h
  next arm _ =>
  split
  · exact AttentionSound.setPresent (s := s.modPort l _) h arm .link true
  · exact h

end Units

theorem attentionSound_frameStable : FrameStable AttentionSound where
  accept l s h := attentionSound_readsOnly.kept (acceptFrame_unchangedBut l s)
    (by cases l <;> decide) h
  judge s0 t s h := by
    have judged (arm : Arm) {u : State} (hu : AttentionSound u) : AttentionSound (judgeArm s0 t arm u) := by
      obtain same | ⟨-, moved⟩ := judgeArm_spec s0 t arm u
      · rw [same]; exact hu
      · rw [moved]
        split
        · exact hu.enterState arm _
        · exact hu.enterState arm _
    exact judged .b (judged .a h)
  answer _ _ _ h := h
  pass _ _ h := h

end Sys2Proof.Machine
end

section
/-! PROOFS. The queue, the state right after reset, and what every step keeps of the attention units and the ports. -/

namespace Sys2Proof.Machine

/-! ### Right after reset -/

theorem reset_portsSound : PortsSound State.reset := portsSound_of_check (by decide)

theorem reset_supervisorsSound : SupervisorsSound State.reset := supervisorsSound_of_check (by decide)

theorem reset_queuesSound : QueuesSound State.reset := by
  unfold QueuesSound QueueSound; decide

theorem reset_attentionSound : AttentionSound State.reset := by
  have fresh {δ : Type} (on : Bool) (empty : δ) : (Source.clear on empty).sound empty := Source.sound_clear on empty
  have arm : ArmUnit.sound State.reset.attn.arms.a := ⟨fresh _ _, fresh _ _, fresh _ _, fresh _ _⟩
  exact ⟨⟨fresh _ _, fresh _ _, fresh _ _, fresh _ _, fresh _ _, fresh _ _⟩, arm, arm⟩

theorem reset_sensorsSound : SensorsSound State.reset := sensorsSound_of_check (by decide) (by decide)

theorem reset_sequencerSound : SequencerSound State.reset.temp.seq := sequencerSound_of_check (by decide)

theorem reset_modelSound : ModelSound State.reset := modelSound_of_check (by decide +kernel)

theorem reset_zonesSound : ZonesSound State.reset :=
  ⟨tableSound_of_check (by decide +kernel) (by decide +kernel) (by decide +kernel) (by decide +kernel),
   claimsSound_of_check (by decide) (by decide) (by decide)⟩

theorem reset_changesSound : ChangesSound State.reset :=
  ⟨changeSound_of_check (by decide) (by decide) (by decide) (by decide),
   changeSound_of_check (by decide) (by decide) (by decide) (by decide)⟩

theorem reset_rackSound : RackSound State.reset :=
  rackSound_of_check (by decide +kernel) (by decide +kernel) (by decide +kernel) (by decide)

theorem reset_registrySound : RegistrySound State.reset :=
  registrySound_of_check (by decide) (by decide +kernel) (by decide)

/-- What a device reset leaves unlike the state right after reset: the line levels, the ports, and what is not the
part's. -/
def deviceResetBlocks : List Block :=
  [.resetInput, .port .armA, .port .armB, .port .cell, .slots, .waiting, .freeValues] ++ ofArms .sense

theorem deviceReset_unchangedBut (s : State) : unchangedBut deviceResetBlocks State.reset (deviceReset s) := by
  intro b hb
  cases b
  case port l => cases l <;> exact absurd (by decide) hb
  case sense arm => cases arm <;> exact absurd (by decide) hb
  case resetInput | slots | waiting | freeValues => exact absurd (by decide) hb
  case supervisor arm => cases arm <;> exact ⟨rfl, rfl, rfl, rfl, rfl, rfl⟩
  case settings arm => cases arm <;> rfl
  case tempSettings | limits | touchSettings => simp [Block.same, deviceReset]
  all_goals rfl

/-- What a predicate that reads no line level needs for the device reset is that it holds right after reset. -/
theorem readsOnly.deviceReset {bs : List Block} {P : State → Prop} (hP : readsOnly bs P)
    (apart : ∀ b ∈ bs, b ∉ deviceResetBlocks) (h : P State.reset) (s : State) : P (deviceReset s) :=
  hP.kept (deviceReset_unchangedBut s) apart h

theorem exec_resetInputAsserted_keeps {P : State → Prop} (reset : ∀ s, P (deviceReset s)) {s t : State}
    (h : exec .resetInputAsserted s = .next t) (hs : P s) : P t := by
  simp only [exec, execResetInputAsserted] at h
  split at h <;> cases h
  · exact hs
  · exact reset s

/-! ### The statements of tier 1 -/

/-- Settles O1. -/
theorem stepRunsTheFrontCommand : Obligations.StepRunsTheFrontCommand := by
  intro c rest s h
  rw [step, h]

/-- Settles O4, by evaluation of the state right after reset. -/
theorem resetStateIsAsStatedAndSound : Obligations.ResetStateIsAsStatedAndSound :=
  ⟨⟨rfl, rfl, rfl, rfl, rfl, rfl, by decide, rfl, rfl, by decide, all_arms (by decide) (by decide), by decide, rfl,
    by decide, rfl, rfl, rfl, rfl, rfl, rfl, all_links (by decide) (by decide) (by decide)⟩,
   reset_portsSound, reset_supervisorsSound, reset_queuesSound, reset_attentionSound, reset_sensorsSound,
   reset_sequencerSound, reset_modelSound, reset_zonesSound, reset_changesSound, reset_rackSound, reset_registrySound⟩

/-- Settles O7, by evaluation of each frame on each link. -/
theorem writtenOutFramesDecode : Obligations.WrittenOutFramesDecode := by
  refine ⟨?_, ?_, ?_, ?_, ?_, ?_, ?_, ?_, ?_, ?_⟩ <;>
    exact all_links (by decide +kernel) (by decide +kernel) (by decide +kernel)

/-! ### The run counts -/

theorem portsSound_readsOnly : readsOnly [.port .armA, .port .armB, .port .cell] PortsSound := fun s t same h =>
  all_links (by rw [same (.port .armA) (by simp)]; exact h .armA) (by rw [same (.port .armB) (by simp)]; exact h .armB)
    (by rw [same (.port .cell) (by simp)]; exact h .cell)

theorem PortsSound.modPort {l : Link} {f : Port → Port} {s : State} (h : PortsSound s)
    (hf : (f (s.ports.get l)).runCount ≤ 255) : PortsSound (s.modPort l f) := fun k => by
  by_cases hk : k = l
  · subst hk; simpa using hf
  · simpa [hk] using h k

theorem portsSound_frameStable : FrameStable PortsSound where
  accept l s h k := by
    have taken := PortsSound.modPort (l := l) (f := fun p => { p with phase := .idle, runCount := 0, resetBit := false }) h
      (Nat.zero_le _) k
    rw [acceptFrame_port]
    exact taken
  judge s0 t s h k := by rw [conclude_ports]; exact h k
  answer l _ s h := h.modPort (h l)
  pass l s h := h.modPort (h l)

theorem PortsSound.beginFrame {s : State} (h : PortsSound s) (l : Link) : PortsSound (beginFrame l s) := by
  rw [Machine.beginFrame]
  split
  · exact h
  split
  · exact h.modPort (h l)
  · exact h.modPort (h l)

theorem PortsSound.discardFrame {s : State} (h : PortsSound s) (l : Link) : PortsSound (discardFrame l s) := by
  have counted : PortsSound (s.modPort l fun p =>
      { p with phase := .idle, reply := .zeros .frameError, runCount := min 255 (p.runCount + 1) }) :=
    h.modPort (Nat.min_le_left _ _)
  simp only [Machine.discardFrame]
  split
  · exact counted
  next arm _ =>
  split
  · exact portsSound_readsOnly.kept (setPresent_unchangedBut arm .link true _) (by cases arm <;> decide) counted
  · exact counted

theorem portsSound_exec_event {c : Instr} {s t : State} (h : exec c s = .next t) (hr : requestOf c = none)
    (hs : PortsSound s) : PortsSound t := by
  cases c <;> cases hr
  case resetInputAsserted =>
    refine exec_resetInputAsserted_keeps (fun u => ?_) h hs
    exact portsSound_of_check ⟨Nat.zero_le _, Nat.zero_le _, Nat.zero_le _⟩
  case frameBegin l => cases h; exact hs.beginFrame l
  case frameDiscard l =>
    simp only [exec, execFrameDiscard] at h
    split at h <;> cases h
    · exact portsSound_frameStable.judge _ _ _ (hs.discardFrame l)
    · exact portsSound_frameStable.pass l s hs
  case passedOverFrameEnd l =>
    simp only [exec, execPassedOverFrameEnd] at h
    split at h <;> cases h
    · exact hs
    · exact portsSound_frameStable.pass l s hs
  all_goals exact portsSound_readsOnly.exec h (by simp) (of_decide_eq_true rfl) hs

theorem portsSound_exec (c : Instr) (s t : State) (h : exec c s = .next t) (hs : PortsSound s) : PortsSound t := by
  cases hr : requestOf c with
  | some r =>
    exact portsSound_readsOnly.exec_request portsSound_frameStable h hr
      (by cases c <;> cases hr <;> exact of_decide_eq_true rfl) hs
  | none => exact portsSound_exec_event h hr hs

/-! ### The attention units -/

theorem attentionSound_exec_event {c : Instr} {s t : State} (h : exec c s = .next t) (hr : requestOf c = none)
    (hs : AttentionSound s) : AttentionSound t := by
  have judged {u : State} (trigger : Trigger) (hu : AttentionSound u) : AttentionSound (conclude s trigger u) :=
    attentionSound_frameStable.judge s trigger u hu
  cases c <;> cases hr
  case resetInputAsserted =>
    exact exec_resetInputAsserted_keeps (attentionSound_readsOnly.deviceReset (by decide) reset_attentionSound) h hs
  case resetInputDeasserted =>
    simp only [exec, execResetInputDeasserted] at h
    split at h <;> cases h
    · exact judged .plain (AttentionSound.judgeSense (AttentionSound.judgeSense (s := { s with
        resetHeld := false
        rack := _ }) hs .a) .b)
    · exact hs
  case frameDiscard l =>
    simp only [exec, execFrameDiscard] at h
    split at h <;> cases h
    · exact judged .plain (hs.discardFrame l)
    · exact hs
  case passedOverFrameEnd l =>
    simp only [exec, execPassedOverFrameEnd] at h
    split at h <;> cases h <;> exact hs
  case conversionCompletion code =>
    simp only [exec, execConversionCompletion] at h
    split at h
    · cases h; exact hs
    split at h <;> cases h
    · exact hs.completeConversion code _
    · exact hs
  case modelCheckCompletion =>
    simp only [exec, execModelCheckCompletion] at h
    split at h
    · cases h; exact hs
    split at h <;> cases h
    · exact AttentionSound.raiseModel (s := { s with model := _ }) hs _
    · exact hs
  case reportTimerExpiry arm =>
    simp only [exec, execReportTimerExpiry] at h
    split at h <;> cases h
    · exact judged .plain (AttentionSound.setPresent (s := s.modSup arm _) hs arm .overdue true)
    · exact hs
  case permitSenseChange arm level => cases h; exact judged .plain (hs.changeSense arm level)
  case settleWindowExpiry arm =>
    simp only [exec, execSettleWindowExpiry] at h
    split at h <;> cases h
    · exact judged .plain (AttentionSound.judgeSense (s := s.modSup arm _) hs arm)
    · exact hs
  case presenceSettleExpiry i =>
    simp only [exec, execPresenceSettleExpiry] at h
    split at h <;> cases h
    · exact hs.expireSettle i
    · exact hs
  case changeTimerExpiry arm =>
    simp only [exec, execChangeTimerExpiry] at h
    split at h <;> cases h
    · exact judged _ (hs.expireChange arm)
    · exact hs
  all_goals exact attentionSound_readsOnly.exec h (by simp) (of_decide_eq_true rfl) hs

theorem attentionSound_exec_request {c : Instr} {r : Request} {s t : State} (h : exec c s = .next t)
    (hr : requestOf c = some r) (hs : AttentionSound s) : AttentionSound t := by
  have stable := attentionSound_frameStable
  have ofArm {access : Access} {act : Arm → State → Act} (hact : ∀ arm u, AttentionSound u → AttentionSound (act arm u).st) :
      AttentionSound (handleRequest access r.link (forLinkArm r.link act) s) :=
    stable.handleRequest (fun _ => FrameStable.forLinkArm hact) hs
  have untouched (apart : ∀ b ∈ sourceBlocks, b ∉ requestBlocks c) : AttentionSound t :=
    attentionSound_readsOnly.exec_request stable h hr apart hs
  cases c <;> cases hr
  case attnTake => cases h; exact stable.handleRequest (fun u hu => hu.attnTake _) hs
  case attnDone => cases h; exact stable.handleRequest (fun u hu => hu.attnDone _) hs
  case attnEnable => cases h; exact stable.handleRequest (fun u hu => hu.attnEnable _) hs
  case armEnable => cases h; exact stable.handleControl (fun arm u hu => hu.armEnable _ arm) hs
  case armDisable => cases h; exact stable.handleControl (fun arm u hu => hu.armDisable _ arm) hs
  case armReset => cases h; exact stable.handleControl (fun arm u hu => hu.armReset arm) hs
  case position => cases h; exact ofArm fun arm u hu => hu.positionBy _ arm
  case touch => cases h; exact ofArm fun arm u hu => hu.touchBy _ arm
  case claim => cases h; exact ofArm fun arm u hu => hu.claimBy _ arm
  case release => cases h; exact ofArm fun arm u hu => hu.releaseBy _ arm
  case changeOpen => cases h; exact ofArm fun arm u hu => hu.changeOpenBy _ arm
  case changeClose => cases h; exact ofArm fun arm u hu => hu.changeCloseBy _ arm
  case changeAbort => cases h; exact ofArm fun arm u hu => hu.changeAbortBy arm
  case sensorSet => cases h; exact stable.handleRequest (fun u hu => hu.sensorSet _) hs
  case sensorUnlock => cases h; exact stable.handleRequest (fun u hu => hu.sensorUnlock _) hs
  case zoneDefine => cases h; exact stable.handleRequest (fun u hu => hu.zoneDefine _) hs
  case zoneFree => cases h; exact stable.handleRequest (fun u hu => hu.zoneFree _) hs
  case armSet => cases h; exact stable.handleRequest (fun u hu => hu.armSet _) hs
  all_goals exact untouched (of_decide_eq_true rfl)

theorem attentionSound_exec (c : Instr) (s t : State) (h : exec c s = .next t) (hs : AttentionSound s) :
    AttentionSound t := by
  cases hr : requestOf c with
  | none => exact attentionSound_exec_event h hr hs
  | some r => exact attentionSound_exec_request h hr hs

/-- Settles O58: every command keeps the sources and the run counts, and so does every step. -/
theorem everyStepKeepsAttentionAndPortsSound : Obligations.EveryStepKeepsAttentionAndPortsSound := by
  rintro s t ⟨attention, ports⟩ h
  exact ⟨step_keeps attentionSound_readsOnly (by decide) attentionSound_exec h attention,
    step_keeps portsSound_readsOnly (by decide) portsSound_exec h ports⟩

end Sys2Proof.Machine
end

section
/-! PROOFS. What an event brings to the causes before the arms are judged: which flags can move, when FAULT attention is
raised, and that nothing else of a supervisor moves (R84, R85). -/

namespace Sys2Proof.Machine

/-! ### Causes that become present -/

/-- A cause has become present from one supervisor to another, in a mode other than OFF (R85). -/
def becamePresent (v w : Supervisor) (k : Cause) : Bool :=
  !v.present.get k && w.present.get k && decide (v.mode k ≠ .off)

/-- Some cause has become present. -/
def someBecame (v w : Supervisor) : Bool := allCauses.any (becamePresent v w)

theorem someBecame_iff {v w : Supervisor} : someBecame v w = true ↔ ∃ k, becamePresent v w k = true := by
  simp [someBecame]

theorem becamePresent_iff {v w : Supervisor} {k : Cause} :
    becamePresent v w k = true ↔ v.present.get k = false ∧ w.present.get k = true ∧ v.mode k ≠ .off := by
  simp [becamePresent, and_assoc]

theorem becamePresent_of_present {v w : Supervisor} {k : Cause} (h : w.present.get k = v.present.get k) :
    becamePresent v w k = false := by
  cases hk : v.present.get k <;> simp [becamePresent, h, hk]

/-! ### One supervisor -/

/-- What an event moves of a supervisor before the judgement: present flags to the conditions `val`, a recorded flag set
for each cause that becomes present or for a reported CHANGE_FAULT, and the timers (R84, R85, R88). -/
structure SupMoves (val : Cause → Bool) (ended reported : Bool) (v w : Supervisor) : Prop where
  state : w.state = v.state
  settings : w.settings = v.settings
  command : w.command = v.command
  window : ended = false → w.window = v.window
  timer : v.state = .disabled → v.reportTimer = none → w.reportTimer = none
  present : ∀ k, w.present.get k = v.present.get k ∨ w.present.get k = val k
  recorded : ∀ k, w.recorded.get k =
    (v.recorded.get k || becamePresent v w k || (reported && decide (k = .changeFault)))

section Moves
variable {val : Cause → Bool} {ended r1 r2 : Bool} {v w x : Supervisor}

theorem SupMoves.mode (h : SupMoves val ended r1 v w) (k : Cause) : w.mode k = v.mode k := by
  rw [Supervisor.mode, h.settings, Supervisor.mode]

/-- A supervisor with the same state, settings, command and flags. -/
theorem SupMoves.of_flags (val : Cause → Bool) (hstate : w.state = v.state) (hset : w.settings = v.settings)
    (hcommand : w.command = v.command) (hwindow : ended = false → w.window = v.window)
    (htimer : v.state = .disabled → v.reportTimer = none → w.reportTimer = none) (hpresent : w.present = v.present)
    (hrecorded : w.recorded = v.recorded) : SupMoves val ended false v w where
  state := hstate
  settings := hset
  command := hcommand
  window := hwindow
  timer := htimer
  present k := .inl (by rw [hpresent])
  recorded k := by rw [becamePresent_of_present (by rw [hpresent]), hrecorded]; simp

theorem SupMoves.refl (val : Cause → Bool) (ended : Bool) (v : Supervisor) : SupMoves val ended false v v :=
  .of_flags val rfl rfl rfl (fun _ => rfl) (fun _ h => h) rfl rfl

/-- A cause becomes present over two moves to the same conditions just when it does so at one of them. -/
theorem becamePresent_trans (h1 : SupMoves val ended r1 v w) (h2 : SupMoves val ended r2 w x) (k : Cause) :
    becamePresent v x k = (becamePresent v w k || becamePresent w x k) := by
  have mode := h1.mode k
  obtain first | first := h1.present k <;> obtain second | second := h2.present k <;>
    cases hv : v.present.get k <;> cases hval : val k <;> simp_all [becamePresent]

theorem SupMoves.trans (h1 : SupMoves val ended r1 v w) (h2 : SupMoves val ended r2 w x) :
    SupMoves val ended (r1 || r2) v x where
  state := h2.state.trans h1.state
  settings := h2.settings.trans h1.settings
  command := h2.command.trans h1.command
  window h := (h2.window h).trans (h1.window h)
  timer hs ht := h2.timer (h1.state.trans hs) (h1.timer hs ht)
  present k := by
    obtain same | set := h2.present k
    · rw [same]; exact h1.present k
    · exact .inr set
  recorded k := by
    rw [h2.recorded, h1.recorded, becamePresent_trans h1 h2]
    cases r1 <;> cases r2 <;> cases v.recorded.get k <;> cases becamePresent v w k <;> cases becamePresent w x k <;> simp

end Moves

/-! ### FAULT attention -/

/-- FAULT attention raised for an arm, or not. -/
def faultNamed (on : Bool) (arm : Arm) (src : Source (BitVec 2)) : Source (BitVec 2) :=
  if on then src.raise (addMark · (armIndex arm)) else src

theorem faultNamed_or (x y : Bool) (arm : Arm) (src : Source (BitVec 2)) :
    faultNamed (x || y) arm src = faultNamed y arm (faultNamed x arm src) := by
  cases x <;> cases y <;> try rfl
  cases he : src.enable <;> simp [faultNamed, Source.raise, he, addMark, BitVec.or_assoc]

theorem faultNamed_comm (x y : Bool) (src : Source (BitVec 2)) :
    faultNamed x .a (faultNamed y .b src) = faultNamed y .b (faultNamed x .a src) := by
  cases x <;> cases y <;> try rfl
  cases he : src.enable
  · simp [faultNamed, Source.raise, he]
  · simp only [faultNamed, Source.raise, he, if_true, addMark, BitVec.or_assoc]
    rw [BitVec.or_comm (1#2 <<< armIndex .b)]

/-- FAULT attention raised for the arms that `on` names. -/
def faultRaised (on : Arm → Bool) (src : Source (BitVec 2)) : Source (BitVec 2) :=
  faultNamed (on .b) .b (faultNamed (on .a) .a src)

theorem faultRaised_or (x y : Arm → Bool) (src : Source (BitVec 2)) :
    faultRaised (fun arm => x arm || y arm) src = faultRaised y (faultRaised x src) := by
  simp only [faultRaised, faultNamed_or]
  rw [faultNamed_comm]

theorem faultRaised_none (src : Source (BitVec 2)) : faultRaised (fun _ => false) src = src := rfl

/-- The arms of which a cause was recorded by an event. -/
def faultArms (reported : Arm → Bool) (s u : State) (arm : Arm) : Bool :=
  someBecame (s.sup.get arm) (u.sup.get arm) || reported arm

/-! ### An event -/

/-- What an event moves of both supervisors and of FAULT attention before the judgement of the arms. -/
structure CausesMove (val : Arm → Cause → Bool) (ended reported : Arm → Bool) (s u : State) : Prop where
  sup : ∀ arm, SupMoves (val arm) (ended arm) (reported arm) (s.sup.get arm) (u.sup.get arm)
  fault : u.attn.cell.fault = faultRaised (faultArms reported s u) s.attn.cell.fault

/-- No CHANGE_FAULT is reported. -/
abbrev noReport : Arm → Bool := fun _ => false

section Event
variable {val : Arm → Cause → Bool} {ended r1 r2 : Arm → Bool} {s u t : State}

/-- An operation that leaves flags, settings, states, commands and FAULT attention alone. -/
theorem CausesMove.of_flags (val : Arm → Cause → Bool)
    (hsup : ∀ arm, SupMoves (val arm) (ended arm) false (s.sup.get arm) (u.sup.get arm))
    (hpresent : ∀ arm, (u.sup.get arm).present = (s.sup.get arm).present) (hfault : u.attn.cell.fault = s.attn.cell.fault) :
    CausesMove val ended noReport s u where
  sup := hsup
  fault := by
    have none (arm : Arm) : faultArms noReport s u arm = false := by
      simp only [faultArms, noReport, Bool.or_false, ← Bool.not_eq_true, someBecame_iff, not_exists]
      intro k
      simp [becamePresent_of_present (k := k) (congrArg (PerCause.get · k) (hpresent arm))]
    rw [hfault, show faultArms noReport s u = fun _ => false from funext none, faultRaised_none]

theorem CausesMove.of_same (val : Arm → Cause → Bool) (ended : Arm → Bool) (hsup : u.sup = s.sup)
    (hfault : u.attn.cell.fault = s.attn.cell.fault) : CausesMove val ended noReport s u :=
  .of_flags val (fun arm => by rw [hsup]; exact SupMoves.refl _ _ _) (fun arm => by rw [hsup]) hfault

theorem CausesMove.trans (h1 : CausesMove val ended r1 s u) (h2 : CausesMove val ended r2 u t) :
    CausesMove val ended (fun arm => r1 arm || r2 arm) s t where
  sup arm := (h1.sup arm).trans (h2.sup arm)
  fault := by
    have arms : faultArms (fun arm => r1 arm || r2 arm) s t = fun arm => faultArms r1 s u arm || faultArms r2 u t arm := by
      funext arm
      have became : someBecame (s.sup.get arm) (t.sup.get arm) =
          (someBecame (s.sup.get arm) (u.sup.get arm) || someBecame (u.sup.get arm) (t.sup.get arm)) := by
        rw [Bool.eq_iff_iff, Bool.or_eq_true, someBecame_iff, someBecame_iff, someBecame_iff, ← exists_or]
        simp only [becamePresent_trans (h1.sup arm) (h2.sup arm), Bool.or_eq_true]
      simp only [faultArms, became]
      cases r1 arm <;> cases r2 arm <;> simp
    rw [h2.fault, h1.fault, arms, faultRaised_or]

/-- Moves before and after which neither supervisors nor FAULT attention move. -/
theorem CausesMove.andThen (h1 : CausesMove val ended r1 s u) (h2 : CausesMove val ended noReport u t) :
    CausesMove val ended r1 s t := by
  simpa using h1.trans h2

theorem CausesMove.after (h1 : CausesMove val ended noReport s u) (h2 : CausesMove val ended r1 u t) :
    CausesMove val ended r1 s t := by
  simpa using h1.trans h2

/-- What leaves both supervisors, their settings and FAULT attention alone brings nothing to the causes. -/
theorem CausesMove.of_unchangedBut (val : Arm → Cause → Bool) (ended : Arm → Bool) {l : List Block}
    (h : unchangedBut l s u)
    (apart : ∀ b ∈ .faultSource :: ofArms .supervisor ++ ofArms .settings, b ∉ l) : CausesMove val ended noReport s u := by
  have same (arm : Arm) := h (.supervisor arm) (apart _ (by cases arm <;> decide))
  have settings (arm : Arm) := h (.settings arm) (apart _ (by cases arm <;> decide))
  refine .of_flags val (fun arm => ?_) (fun arm => (same arm).2.1) (h .faultSource (apart _ (by decide)))
  obtain ⟨state, present, recorded, timer, command, window⟩ := same arm
  exact .of_flags _ state (settings arm) command (fun _ => window) (fun _ ht => timer.trans ht) present recorded

end Event

/-! ### The operations on causes -/

section Ops
variable {val : Arm → Cause → Bool} {ended : Arm → Bool} {s : State} {arm : Arm}

theorem someBecame_self (v : Supervisor) : someBecame v v = false := by
  simp [← Bool.not_eq_true, someBecame_iff, becamePresent_of_present]

/-- An operation on the supervisor of one arm. -/
theorem CausesMove.of_arm {reported : Bool} {w : Supervisor} {u : State}
    (h : SupMoves (val arm) (ended arm) reported (s.sup.get arm) w) (hsup : u.sup = s.sup.set arm w)
    (hfault : u.attn.cell.fault = faultNamed (someBecame (s.sup.get arm) w || reported) arm s.attn.cell.fault) :
    CausesMove val ended (fun k => decide (k = arm) && reported) s u where
  sup k := by
    rw [hsup]
    by_cases hk : k = arm
    · subst hk; simpa using h
    · simpa [hk] using SupMoves.refl _ _ _
  fault := by
    rw [hfault, faultRaised]
    cases arm <;> simp [faultArms, hsup, someBecame_self, faultNamed]

/-- An operation on the supervisor of one arm that leaves its flags alone. -/
theorem CausesMove.modSup {f : Supervisor → Supervisor}
    (h : SupMoves (val arm) (ended arm) false (s.sup.get arm) (f (s.sup.get arm)))
    (hpresent : (f (s.sup.get arm)).present = (s.sup.get arm).present) :
    CausesMove val ended noReport s (s.modSup arm f) := by
  have none : someBecame (s.sup.get arm) (f (s.sup.get arm)) = false := by
    simp [← Bool.not_eq_true, someBecame_iff, becamePresent, hpresent]
  simpa using CausesMove.of_arm h (u := s.modSup arm f) rfl (by rw [none]; rfl)

theorem SupMoves.set_present {val : Cause → Bool} {ended : Bool} {v : Supervisor} {k : Cause} (now : Bool)
    (hval : val k = now) :
    SupMoves val ended false v { v with
      present := v.present.set k now
      recorded := if becamePresent v { v with present := v.present.set k now } k then v.recorded.set k true
        else v.recorded } where
  state := rfl
  settings := rfl
  command := rfl
  window _ := rfl
  timer _ h := h
  present c := by
    by_cases hc : c = k
    · subst hc; exact .inr (by simp [hval])
    · exact .inl (by simp [hc])
  recorded c := by
    by_cases hc : c = k
    · subst hc
      split
      · next h => simpa using .inr h
      · next h => simpa using fun became => absurd became h
    · have other : becamePresent v { v with
          present := v.present.set k now
          recorded := if becamePresent v { v with present := v.present.set k now } k then v.recorded.set k true
            else v.recorded } c = false := becamePresent_of_present (by simp [hc])
      rw [other]
      split <;> simp [hc]

/-- Bringing a cause up to date is a move to its condition (R84, R85). -/
theorem CausesMove.setPresent {k : Cause} {now : Bool} (hval : val arm k = now) :
    CausesMove val ended noReport s (setPresent arm k now s) := by
  have moves := SupMoves.set_present (ended := ended arm) (v := s.sup.get arm) now hval
  rw [setPresent_spec]
  by_cases became : now = true ∧ (s.sup.get arm).present.get k = false ∧ (s.sup.get arm).mode k ≠ .off
  · obtain ⟨rfl, absent, mode⟩ := became
    have one : becamePresent (s.sup.get arm) { s.sup.get arm with present := (s.sup.get arm).present.set k true } k = true := by
      simp [becamePresent_iff, absent, mode]
    rw [if_pos ⟨rfl, absent, mode⟩]
    rw [one, if_pos rfl] at moves
    have some : someBecame (s.sup.get arm) { s.sup.get arm with
        present := (s.sup.get arm).present.set k true, recorded := (s.sup.get arm).recorded.set k true } = true :=
      someBecame_iff.mpr ⟨k, one⟩
    simpa using CausesMove.of_arm moves (u := raiseFault arm (s.setSup arm _)) rfl (by rw [some]; rfl)
  · have none (c : Cause) : becamePresent (s.sup.get arm) { s.sup.get arm with present := (s.sup.get arm).present.set k now } c
        = false := by
      by_cases hc : c = k
      · subst hc
        rw [← Bool.not_eq_true, becamePresent_iff]
        rintro ⟨absent, present, mode⟩
        exact became ⟨by simpa using present, absent, mode⟩
      · exact becamePresent_of_present (by simp [hc])
    rw [if_neg became]
    rw [none, if_neg Bool.false_ne_true] at moves
    have some : someBecame (s.sup.get arm) { s.sup.get arm with present := (s.sup.get arm).present.set k now } = false := by
      rw [← Bool.not_eq_true, someBecame_iff]
      rintro ⟨c, became⟩
      rw [none] at became
      exact Bool.false_ne_true became
    simpa using CausesMove.of_arm moves (u := s.setSup arm _) rfl (by rw [some]; rfl)

/-- A reported CHANGE_FAULT (R88). -/
theorem CausesMove.reportChangeFault :
    CausesMove val ended (fun k => decide (k = arm)) s (reportChangeFault arm s) := by
  have moves : SupMoves (val arm) (ended arm) true (s.sup.get arm)
      { s.sup.get arm with recorded := (s.sup.get arm).recorded.set .changeFault true } :=
    { state := rfl, settings := rfl, command := rfl, window := fun _ => rfl, timer := fun _ h => h
      present := fun _ => .inl rfl
      recorded := fun c => by
        have same : becamePresent (s.sup.get arm)
            { s.sup.get arm with recorded := (s.sup.get arm).recorded.set .changeFault true } c = false :=
          becamePresent_of_present rfl
        rw [same]
        by_cases hc : c = .changeFault
        · subst hc; simp
        · simp [hc] }
  have latched : ¬ (s.sup.get arm).mode .changeFault = .off := by simp [Supervisor.mode, modeOf]
  rw [Machine.reportChangeFault, recordCause_spec, if_neg latched]
  simpa using CausesMove.of_arm moves (u := raiseFault arm (s.setSup arm _)) rfl (by rw [Bool.or_true]; rfl)

end Ops

end Sys2Proof.Machine
end

section
/-! PROOFS. What each operation brings to the causes: verdicts, the permit sense, acceptance, POSITION, zones and the ends
of a change (R86 to R88, R98, R100). -/

namespace Sys2Proof.Machine

/-! ### The verdict of an arm as a condition (R79, R86) -/

/-- The condition of GUARD: the arm's guard record is there and its verdict is VIOLATED. -/
def verdict (arm : Arm) (s : State) : Bool := (s.zones.guards.get arm).any fun g => violates s arm g.needed

theorem verdict_congr {arm : Arm} {s u : State}
    (hneeded : (u.zones.guards.get arm).map GuardRecord.needed = (s.zones.guards.get arm).map GuardRecord.needed)
    (hheld : ∀ z : Fin 16, (zoneAt u z).holder = some arm ↔ (zoneAt s z).holder = some arm) :
    verdict arm u = verdict arm s := by
  have violated (needed : BitVec 16) : violates u arm needed = violates s arm needed := by
    rw [Bool.eq_iff_iff, violates_iff, violates_iff]
    simp only [ne_eq, hheld]
  have map (x : State) : verdict arm x = ((x.zones.guards.get arm).map GuardRecord.needed).any (violates x arm) := by
    rw [verdict]; cases x.zones.guards.get arm <;> rfl
  rw [map, map, hneeded]
  cases (s.zones.guards.get arm).map GuardRecord.needed with
  | none => rfl
  | some needed => exact violated needed

theorem judgeVerdict_needed (arm other : Arm) (s : State) :
    ((judgeVerdict arm s).zones.guards.get other).map GuardRecord.needed =
      (s.zones.guards.get other).map GuardRecord.needed := by
  rw [judgeVerdict]
  cases h : s.zones.guards.get arm with
  | none => simp
  | some g =>
    by_cases ho : other = arm
    · subst ho; simp [h]
    · simp [ho]

/-- A verdict judged is as it was before the judgement of any arm. -/
theorem verdict_judgeVerdict (arm other : Arm) (s : State) : verdict arm (judgeVerdict other s) = verdict arm s :=
  verdict_congr (judgeVerdict_needed other arm s) fun z => by rw [zoneAt_judgeVerdict]

section Ops
variable {val : Arm → Cause → Bool} {ended : Arm → Bool} {s : State}

theorem CausesMove.judgeVerdict {arm : Arm} (hval : val arm .guard = verdict arm s) :
    CausesMove val ended noReport s (judgeVerdict arm s) := by
  rw [Machine.judgeVerdict]
  cases h : s.zones.guards.get arm with
  | none => exact .setPresent (by rw [hval, verdict, h]; rfl)
  | some g =>
    have written : CausesMove val ended noReport s (s.setGuard arm (some { g with violated := violates s arm g.needed })) :=
      .of_same val ended rfl rfl
    exact written.andThen (.setPresent (by rw [hval, verdict, h]; rfl))

theorem CausesMove.judgeSense {arm : Arm}
    (hval : val arm .permitMismatch = decide ((s.sup.get arm).sense ≠ (s.sup.get arm).command)) :
    CausesMove val ended noReport s (judgeSense arm s) := by
  rw [Machine.judgeSense]
  split
  · exact .of_same val ended rfl rfl
  · exact .setPresent hval

/-- A report timer that runs, or of an arm that is not DISABLED, is restarted (R96, R97). -/
theorem CausesMove.restartReport {arm : Arm}
    (h : (s.sup.get arm).state = .disabled → (s.sup.get arm).reportTimer ≠ none) :
    CausesMove val ended noReport s (restartReport arm s) :=
  .modSup (.of_flags _ rfl rfl rfl (fun _ => rfl) (fun hs ht => absurd ht (h hs)) rfl rfl) rfl

/-- Acceptance ends LINK (R87). -/
theorem CausesMove.acceptFrame (l : Link) (hval : ∀ arm, val arm .link = false) :
    CausesMove val ended noReport s (acceptFrame l s) := by
  have port : CausesMove val ended noReport s
      (s.modPort l fun p => { p with phase := .idle, runCount := 0, resetBit := false }) := .of_same val ended rfl rfl
  simp only [Machine.acceptFrame]
  split
  · exact port
  next arm _ =>
  refine CausesMove.andThen ?_ (.setPresent (hval arm))
  split
  · next restarts =>
    refine port.andThen (.restartReport fun _ none => ?_)
    rw [none] at restarts
    exact absurd restarts.2 (by simp)
  · exact port

/-! ### Zones (R63, R70) -/

/-- The needed sets and the present flags do not depend on the holders that a re-evaluation gives to the other arm. -/
theorem verdict_reevaluateClaim_other (arm : Arm) (s : State) :
    verdict (otherArm arm) (reevaluateClaim arm s) = verdict (otherArm arm) s := by
  cases hc : s.zones.claims.get arm with
  | none => rw [reevaluateClaim_of_none hc]
  | some c =>
    by_cases free : ∀ z : Fin 16, c.covers z = true → (zoneAt s z).holder ≠ some (otherArm arm)
    · rw [reevaluateClaim_of_free hc free, verdict_judgeVerdict]
      have guards : (grantPending arm c s).zones.guards.get (otherArm arm) = s.zones.guards.get (otherArm arm) :=
        grantPending_unchangedBut arm c s (.guard (otherArm arm)) (by simp)
      refine verdict_congr (by rw [guards]) fun z => ?_
      rw [zoneAt_grantPending hc]
      dsimp only
      split
      · next covered => exact iff_of_false (fun same => otherArm_ne arm (Option.some.inj same).symm) (free z covered)
      · rfl
    · rw [reevaluateClaim_of_blocked hc (by simpa using free)]
      refine verdict_congr rfl fun z => ?_
      have same : (zoneAt (markWaiter arm c s) z).holder = (zoneAt s z).holder := by
        rw [markWaiter, zoneAt_mapZones]; split <;> rfl
      rw [same]

theorem CausesMove.reevaluateClaim {arm : Arm} (hval : val arm .guard = verdict arm (reevaluateClaim arm s)) :
    CausesMove val ended noReport s (reevaluateClaim arm s) := by
  obtain ⟨-, same⟩ | ⟨c, -, granted⟩ | ⟨c, -, waits⟩ := reevaluateClaim_cases arm s
  · rw [same]; exact .of_same val ended rfl rfl
  · rw [granted, verdict_judgeVerdict] at hval
    rw [granted]
    have given : CausesMove val ended noReport s (grantPending arm c s) :=
      .of_unchangedBut val ended (grantPending_unchangedBut arm c s) (by cases arm <;> decide)
    exact given.andThen (.judgeVerdict hval)
  · rw [waits]; exact .of_same val ended rfl rfl

theorem CausesMove.reevaluate (hval : ∀ arm, val arm .guard = verdict arm (reevaluate s)) :
    CausesMove val ended noReport s (reevaluate s) := by
  have first : val .a .guard = verdict .a (Machine.reevaluateClaim .a s) :=
    (hval .a).trans (verdict_reevaluateClaim_other .b _)
  exact (CausesMove.reevaluateClaim first).andThen (.reevaluateClaim (hval .b))

theorem CausesMove.refreshGuard {arm : Arm} (hval : val arm .guard = verdict arm (refreshGuard arm s)) :
    CausesMove val ended noReport s (refreshGuard arm s) := by
  rw [Machine.refreshGuard] at hval ⊢
  split
  · next h => rw [h] at hval; exact .judgeVerdict (hval.trans (verdict_judgeVerdict ..))
  · next g h =>
    rw [h] at hval
    have formed : CausesMove val ended noReport s
        (s.setGuard arm (some { g with needed := neededSet s g.lower g.upper g.intruding })) :=
      .of_same val ended rfl rfl
    exact formed.andThen (.judgeVerdict (hval.trans (verdict_judgeVerdict ..)))

end Ops

/-! ### Requests -/

/-- What a request brings to the causes: LINK, which acceptance has ended, does not become present. -/
def RequestMoves (reported : Arm → Bool) (s u : State) : Prop :=
  ∃ val, (∀ arm, val arm .link = false) ∧ CausesMove val noReport reported s u

/-- The conditions of an event that brings the verdicts alone up to date. -/
def verdictsOf (s : State) (arm : Arm) : Cause → Bool
  | .guard => verdict arm s
  | _ => false

theorem RequestMoves.of_same {s u : State} (hsup : u.sup = s.sup) (hfault : u.attn.cell.fault = s.attn.cell.fault) :
    RequestMoves noReport s u := ⟨fun _ _ => false, fun _ => rfl, .of_same _ _ hsup hfault⟩

theorem RequestMoves.of_unchangedBut {l : List Block} {s u : State} (h : unchangedBut l s u)
    (apart : ∀ b ∈ .faultSource :: ofArms .supervisor ++ ofArms .settings, b ∉ l) : RequestMoves noReport s u :=
  ⟨fun _ _ => false, fun _ => rfl, .of_unchangedBut _ _ h apart⟩

section Acts
variable (r : Request) (arm : Arm) (s : State)

theorem claimBy_moves : RequestMoves noReport s (claimBy arm r s).st := by
  have refused : RequestMoves noReport s s := .of_same rfl rfl
  have granted (c : Claim) : RequestMoves noReport s (judgeVerdict arm (holdRange arm c s)) :=
    ⟨verdictsOf (holdRange arm c s), fun _ => rfl,
      CausesMove.andThen (u := holdRange arm c s) (.of_same _ _ rfl rfl) (.judgeVerdict rfl)⟩
  simp only [claimBy]
  split; · exact refused
  split; · exact refused
  split; · exact refused
  split; · exact granted _
  split
  · exact refused
  · exact .of_same rfl rfl

theorem releaseBy_moves : RequestMoves noReport s (releaseBy arm r s).st := by
  rw [releaseBy_eq]
  cases releaseRefusal arm r s with
  | some code => exact .of_same rfl rfl
  | none =>
    exact ⟨verdictsOf (reevaluate (freeZones (fun z _ => (namedRange r).covers z) s)), fun _ => rfl,
      CausesMove.andThen (u := freeZones (fun z _ => (namedRange r).covers z) s) (.of_same _ _ rfl rfl)
        (.reevaluate fun _ => rfl)⟩

theorem zoneFree_moves : RequestMoves noReport s (zoneFree r s).st := by
  have refused : RequestMoves noReport s s := .of_same rfl rfl
  have judged {u : State} (arm : Arm) (hu : CausesMove (verdictsOf u) noReport noReport s u) :
      RequestMoves noReport s (judgeVerdict arm u) :=
    ⟨verdictsOf u, fun _ => rfl, hu.andThen (.judgeVerdict rfl)⟩
  have freed (p : Fin 16 → Zone → Bool) (val : Arm → Cause → Bool) :
      CausesMove val noReport noReport s (freeZones p s) := .of_same _ _ rfl rfl
  simp only [zoneFree]
  split; · exact refused
  split; · exact refused
  split; · exact refused
  refine judged _ ?_
  split
  · exact freed _ _
  · exact (freed _ _).andThen (.reevaluate fun _ => rfl)

theorem redefineZone_moves (z : Fin 16) (record : Zone) : RequestMoves noReport s (redefineZone z record s) := by
  have judged : verdict .a (refreshGuard .b (refreshGuard .a (s.setZoneTable (vput s.zones.table z record)))) =
      verdict .a (refreshGuard .a (s.setZoneTable (vput s.zones.table z record))) := by
    refine verdict_congr ?_ fun z => by rw [zoneAt_refreshGuard]
    exact congrArg _ (refreshGuard_unchangedBut .b _ (.guard .a) (by decide))
  exact ⟨verdictsOf (redefineZone z record s), fun _ => rfl,
    CausesMove.andThen (u := s.setZoneTable (vput s.zones.table z record)) (.of_same _ _ rfl rfl) <|
      CausesMove.andThen (.refreshGuard judged) (.refreshGuard rfl)⟩

theorem zoneDefine_moves : RequestMoves noReport s (zoneDefine r s).st := by
  have refused : RequestMoves noReport s s := .of_same rfl rfl
  simp only [zoneDefine]
  split; · exact refused
  split; · exact refused
  split; · exact refused
  split
  · exact refused
  · exact redefineZone_moves s _ _
  split; · exact refused
  split; · exact refused
  split
  · exact refused
  · exact redefineZone_moves s _ _

/-- The conditions of a POSITION: the verdict on its guard record, its own COMP_LOST, and no OVERDUE (R86, R97). -/
def positionConditions (lost : Bool) (u : State) (arm : Arm) : Cause → Bool
  | .guard => verdict arm u
  | .compLost => lost
  | _ => false

/-- POSITION brings GUARD, COMP_LOST and OVERDUE up to date (R86, R97). -/
theorem positionBy_moves : RequestMoves noReport s (positionBy arm r s).st := by
  have request (p : PosRecord) (u v : State) (hsup : u.sup = s.sup) (hfault : u.attn.cell.fault = s.attn.cell.fault)
      (hv : CausesMove (positionConditions (compLost p) u) noReport noReport
        (setPresent arm .overdue false (setPresent arm .compLost (compLost p) (judgeVerdict arm u))) v) :
      RequestMoves noReport s v :=
    ⟨positionConditions (compLost p) u, fun _ => rfl, CausesMove.andThen (.of_same _ _ hsup hfault) <|
      CausesMove.andThen (.judgeVerdict rfl) <| CausesMove.andThen (.setPresent rfl) <|
      CausesMove.andThen (.setPresent rfl) hv⟩
  let p := positionRecord s (compensate s arm (rawWords r))
  let kept := reportComp arm (s.lastPos.get arm) p.worst (s.setLastPos arm (some p))
  have before : kept.sup = s.sup ∧ kept.attn.cell.fault = s.attn.cell.fault := by
    simp only [kept, reportComp]; split <;> exact ⟨rfl, rfl⟩
  simp only [positionBy]
  refine request p (kept.setGuard arm (some (formGuard arm p kept))) _ before.1 before.2 ?_
  split
  · exact .of_same _ _ rfl rfl
  · next enabled => exact .restartReport fun disabled => absurd disabled enabled

/-- The trigger of an act reports CHANGE_FAULT for an arm (R88). -/
def faultReport (t : Trigger) (arm : Arm) : Bool := decide (t = .changeFault arm)

theorem faultReport_plain : faultReport .plain = noReport := by funext arm; simp [faultReport]

theorem faultReport_position : faultReport (.position arm) = noReport := by funext k; simp [faultReport]

theorem faultReport_changeFault : faultReport (.changeFault arm) = fun k => decide (k = arm) := by
  funext k; simp [faultReport, eq_comm]

theorem changeCloseBy_moves :
    RequestMoves (faultReport (changeCloseBy arm r s).trigger) s (changeCloseBy arm r s).st := by
  have quiet {l : List Block} {u : State} (h : unchangedBut l s u)
      (apart : ∀ b ∈ .faultSource :: ofArms .supervisor ++ ofArms .settings, b ∉ l) :
      RequestMoves (faultReport .plain) s u := by
    rw [faultReport_plain]; exact .of_unchangedBut h apart
  have mounted (u : State) (h : unchangedBut (ofArms .change ++ ([.entries, .probeSource] ++ ofArms .queue)) s u) :
      RequestMoves (faultReport .plain) s (raiseChange arm u) :=
    quiet (unchangedBut_append h (raiseChange_unchangedBut_arms u arm)) (by decide)
  have closed : unchangedBut (ofArms .change) s (closeChange arm .closed s) := closeChange_unchangedBut arm .closed s
  have faulted (u : State) (h : unchangedBut [.entries] s u) : RequestMoves (faultReport (.changeFault arm)) s
      (raiseChange arm (reportChangeFault arm (closeChange arm .wrongProbe u))) := by
    have before := unchangedBut_append h (closeChange_unchangedBut arm .wrongProbe u)
    rw [faultReport_changeFault]
    exact ⟨fun _ _ => false, fun _ => rfl, CausesMove.after (.of_unchangedBut _ _ before (by cases arm <;> decide)) <|
      CausesMove.andThen .reportChangeFault (.of_same _ _ rfl rfl)⟩
  simp only [changeCloseBy]
  split
  · exact quiet (unchangedBut_refl [] s) (by simp)
  split
  · exact quiet (unchangedBut_refl [] s) (by simp)
  split
  · refine mounted _ ?_
    split
    · exact unchangedBut_append closed <| unchangedBut_append (mountTake_unchangedBut arm _) (startBlank_unchangedBut arm _)
    · exact unchangedBut_mono (by simp) closed
  · refine faulted _ ?_
    split
    · exact locateAny_unchangedBut _ _ s
    · exact unchangedBut_refl _ s

end Acts

end Sys2Proof.Machine
end

section
/-! PROOFS. Every command that moves no supervision state of itself, as one event: what it brings to the causes, and the
judgement of the arms that ends it (R84 to R89). -/

namespace Sys2Proof.Machine

/-! ### The permit line at the judgement (R99 to R101) -/

/-- The permit line of an arm follows its supervision state from one state to another: each change of the command starts
a settle window and raises PERMIT attention, and nothing else does. -/
structure PermitFollows (arm : Arm) (s t : State) : Prop where
  window : (t.sup.get arm).window =
    if (t.sup.get arm).command = (s.sup.get arm).command then (s.sup.get arm).window else some (s.timer settleWindowMs)
  source : (t.attn.arms.get arm).permit =
    if (t.sup.get arm).command = (s.sup.get arm).command then (s.attn.arms.get arm).permit
    else (s.attn.arms.get arm).permit.raise fun _ => some ((t.sup.get arm).command, (t.sup.get arm).state)

theorem PermitFollows.refl (arm : Arm) (s : State) : PermitFollows arm s s := ⟨by simp, by simp⟩

theorem PermitFollows.congr {arm : Arm} {s t u : State} (h : PermitFollows arm s t) (hsup : u.sup.get arm = t.sup.get arm)
    (hpermit : (u.attn.arms.get arm).permit = (t.attn.arms.get arm).permit) : PermitFollows arm s u :=
  ⟨by rw [hsup]; exact h.window, by rw [hsup, hpermit]; exact h.source⟩

theorem enterState_permit (arm : Arm) (st : SupState) (s : State) : PermitFollows arm s (enterState arm st s) := by
  rw [enterState_spec]
  split
  · next same => exact ⟨by simp, by simp⟩
  · next changed =>
    have differs : ¬ decide (st = .running) = (s.sup.get arm).command := fun h => changed h.symm
    exact ⟨by simp [differs, State.timer], by simp [differs, raisePermit]⟩

theorem judgeArm_permit (s0 : State) (t : Trigger) (arm : Arm) (s : State) : PermitFollows arm s (judgeArm s0 t arm s) := by
  obtain same | ⟨-, moved⟩ := judgeArm_spec s0 t arm s
  · rw [same]; exact .refl arm s
  · rw [moved]
    have entered (st : SupState) := enterState_permit arm st s
    split
    · obtain ⟨window, source⟩ := entered (stateAfter (s0.sup.get arm) (s.sup.get arm) t arm)
      exact ⟨by simpa [restartReport, State.modSup] using window, by simpa [restartReport, State.modSup] using source⟩
    · exact entered _

theorem judgeArm_permit_other (s0 : State) (t : Trigger) (arm : Arm) (s : State) :
    ((judgeArm s0 t arm s).attn.arms.get (otherArm arm)).permit = (s.attn.arms.get (otherArm arm)).permit :=
  judgeArm_unchangedBut s0 t arm s (.permitSource (otherArm arm)) (by cases arm <;> decide)

/-- The judgement moves the permit line with the supervision state alone. -/
theorem conclude_permit (s0 : State) (t : Trigger) (s : State) (arm : Arm) : PermitFollows arm s (conclude s0 t s) := by
  cases arm with
  | a => exact (judgeArm_permit s0 t .a s).congr (judgeArm_other s0 t .b _) (judgeArm_permit_other s0 t .b _)
  | b =>
    have own := judgeArm_permit s0 t .b (judgeArm s0 t .a s)
    have kept : (judgeArm s0 t .a s).sup.get .b = s.sup.get .b := judgeArm_other s0 t .a s
    have source : ((judgeArm s0 t .a s).attn.arms.get .b).permit = (s.attn.arms.get .b).permit :=
      judgeArm_permit_other s0 t .a s
    have time : (judgeArm s0 t .a s).timer settleWindowMs = s.timer settleWindowMs := by
      simp [State.timer]
    exact ⟨by rw [← kept, ← time]; exact own.window, by rw [← kept, ← source]; exact own.source⟩

/-- Two states whose supervisors and PERMIT source of an arm agree are judged to the same PERMIT source. -/
theorem conclude_permit_congr {s0 s u : State} (t : Trigger) {arm : Arm} (hsup : s.sup.get arm = u.sup.get arm)
    (htime : s.cellTime = u.cellTime) (hpermit : (s.attn.arms.get arm).permit = (u.attn.arms.get arm).permit) :
    ((conclude s0 t s).attn.arms.get arm).permit = ((conclude s0 t u).attn.arms.get arm).permit := by
  rw [(conclude_permit s0 t s arm).source, (conclude_permit s0 t u arm).source, conclude_sup_congr hsup htime, hsup, hpermit]

/-! ### Commands as events -/

/-- The command carries an ATTN request on the link. -/
def attnOn (l : Link) (c : Instr) : Prop :=
  ∃ r : Request, r.link = l ∧ (c = .attnTake r ∨ c = .attnDone r ∨ c = .attnEnable r)

/-- The command is a POSITION of the arm that the port takes. -/
def positionOf (c : Instr) (arm : Arm) (s : State) : Prop := ∃ r, c = .position r ∧ onArm arm r s

/-- The command ends a change of the arm in CHANGE_FAULT (R88, R130, R132). -/
def changeFaultOf (c : Instr) (arm : Arm) (s : State) : Prop :=
  (c = .changeTimerExpiry arm ∧ s.due (s.rack.changes.get arm).timer = true) ∨
    ∃ r, c = .changeClose r ∧ onArm arm r s ∧ (s.rack.changes.get arm).phase = .finish ∧ r.d0.toNat ≤ 65535 ∧
      r.d0.toNat ≠ (s.rack.changes.get arm).takeId.toNat

/-- What the command brings to the judgement. -/
structure TriggerOf (c : Instr) (s : State) (trigger : Trigger) : Prop where
  position : ∀ arm, trigger = .position arm ↔ positionOf c arm s
  changeFault : ∀ arm, trigger = .changeFault arm ↔ changeFaultOf c arm s
  clear : ∀ arm, trigger ≠ .faultClear arm

/-- The command ends the settle window of the arm. -/
def endsWindow (c : Instr) (arm : Arm) : Bool := decide (c = .settleWindowExpiry arm)

/-- A command as one event: from the state before it the causes move to `u`, and the arms are judged there. -/
structure EventOf (c : Instr) (s t : State) (val : Arm → Cause → Bool) (trigger : Trigger) (u : State) : Prop where
  causes : CausesMove val (endsWindow c) (faultReport trigger) s u
  before : ∀ arm, (u.attn.arms.get arm).permit = (s.attn.arms.get arm).permit
  time : u.cellTime = s.cellTime
  brings : TriggerOf c s trigger
  sup : t.sup = (conclude s trigger u).sup
  fault : ¬ attnOn .cell c → t.attn.cell.fault = u.attn.cell.fault
  permit : ∀ arm, ¬ attnOn (linkOf arm) c →
    (t.attn.arms.get arm).permit = ((conclude s trigger u).attn.arms.get arm).permit

/-- A command that brings nothing of itself to the judgement. -/
def quiet : Instr → Bool
  | .position _ | .changeClose _ | .changeTimerExpiry _ => false
  | _ => true

theorem TriggerOf.plain {c : Instr} {s : State} (hp : ∀ arm, ¬ positionOf c arm s) (hf : ∀ arm, ¬ changeFaultOf c arm s) :
    TriggerOf c s .plain where
  position arm := by simp [hp]
  changeFault arm := by simp [hf]
  clear arm := by simp

theorem TriggerOf.of_quiet {c : Instr} {s : State} (h : quiet c = true) : TriggerOf c s .plain := by
  refine .plain (fun arm hp => ?_) (fun arm hf => ?_)
  · obtain ⟨r, rfl, -⟩ := hp
    exact Bool.false_ne_true h
  · obtain ⟨rfl, -⟩ | ⟨r, rfl, -⟩ := hf
    · exact Bool.false_ne_true h
    · exact Bool.false_ne_true h

section Events
variable {c : Instr} {s t u : State} {val : Arm → Cause → Bool} {trigger : Trigger}

theorem CausesMove.of_ended {ended : Arm → Bool} {reported : Arm → Bool} (h : CausesMove val noReport reported s u) :
    CausesMove val ended reported s u where
  sup arm :=
    have ⟨state, settings, command, window, timer, present, recorded⟩ := h.sup arm
    ⟨state, settings, command, fun _ => window rfl, timer, present, recorded⟩
  fault := h.fault

/-- A command that ends with the judgement of the arms. -/
theorem EventOf.conclude (hc : CausesMove val (endsWindow c) (faultReport trigger) s u)
    (hbefore : ∀ arm, (u.attn.arms.get arm).permit = (s.attn.arms.get arm).permit) (htime : u.cellTime = s.cellTime)
    (htrigger : TriggerOf c s trigger) : EventOf c s (conclude s trigger u) val trigger u where
  causes := hc
  before := hbefore
  time := htime
  brings := htrigger
  sup := rfl
  fault _ := by rw [conclude_cell_unit]
  permit _ _ := rfl

/-- The blocks that a command without an event for the supervisors leaves alone. -/
def eventReads : List Block :=
  [.time, .faultSource] ++ ofArms .supervisor ++ ofArms .settings ++ ofArms .sense ++ ofArms .permitSource

/-- A command that reaches no supervisor, and neither FAULT nor PERMIT attention. -/
theorem EventOf.of_unchangedBut {l : List Block} (h : unchangedBut l s t) (apart : ∀ b ∈ eventReads, b ∉ l)
    (htrigger : TriggerOf c s .plain) : EventOf c s t (fun _ _ => false) .plain t := by
  have unmoved : CausesMove (fun _ _ => false) (endsWindow c) noReport s t :=
    .of_unchangedBut _ _ h fun b hb => apart b (by revert b hb; decide)
  have judged : Machine.conclude s .plain t = t := conclude_same s t fun arm =>
    (h (.supervisor arm) (apart _ (by cases arm <;> decide))).2.1
  exact {
    causes := by rw [faultReport_plain]; exact unmoved
    before := fun arm => h (.permitSource arm) (apart _ (by cases arm <;> decide))
    time := h .time (apart _ (by decide))
    brings := htrigger
    sup := by rw [judged]
    fault := fun _ => rfl
    permit := fun _ _ => by rw [judged] }

theorem supOf_unchangedBut {l : List Block} {arm : Arm} (h : unchangedBut l s t)
    (apart : ∀ b ∈ [Block.supervisor arm, .settings arm, .sense arm], b ∉ l) : t.sup.get arm = s.sup.get arm := by
  obtain ⟨state, present, recorded, timer, command, window⟩ := h (.supervisor arm) (apart _ (by simp))
  have settings := h (.settings arm) (apart _ (by simp))
  have sense := h (.sense arm) (apart _ (by simp))
  revert state present recorded timer command window settings sense
  simp only [Block.same]
  cases t.sup.get arm
  cases s.sup.get arm
  rintro rfl rfl rfl rfl rfl rfl rfl rfl
  rfl

theorem sup_of_unchangedBut {l : List Block} (h : unchangedBut l s t)
    (apart : ∀ b ∈ ofArms .supervisor ++ ofArms .settings ++ ofArms .sense, b ∉ l) : t.sup = s.sup :=
  PerArm.ext_get fun arm => supOf_unchangedBut h fun b hb => apart b (by revert hb; cases arm <;> simp [ofArms] <;> tauto)

/-- A command that leaves the state as it is. -/
theorem EventOf.refl (htrigger : TriggerOf c s .plain) : EventOf c s s (fun _ _ => false) .plain s :=
  .of_unchangedBut (unchangedBut_refl [] s) (by simp) htrigger

end Events

/-! ### The end of a frame as an event -/

section Frame
variable {c : Instr} {access : Access} {l : Link} {act : State → Act} {finish : Reply → State → State × Reply} {s : State}

theorem acceptFrame_permit (l : Link) (s : State) (arm : Arm) :
    ((acceptFrame l s).attn.arms.get arm).permit = (s.attn.arms.get arm).permit :=
  acceptFrame_unchangedBut l s (.permitSource arm) (by cases l <;> cases arm <;> decide)

/-- The end of a frame whose request brings something to the causes. -/
theorem EventOf.ofFrame {bs fs : List Block}
    (hact : ∀ u, RequestMoves (faultReport (act u).trigger) u (act u).st) (hblocks : ∀ u, unchangedBut bs u (act u).st)
    (hfinish : ∀ reply u, unchangedBut fs u (finish reply u).1)
    (apart : ∀ b ∈ .time :: ofArms .permitSource, b ∉ bs) (afterwards : ∀ b ∈ eventReads, b ∉ fs)
    (passed : takesFrame l s = false → TriggerOf c s .plain)
    (denied : takesFrame l s = true → access.permits l = false → TriggerOf c s .plain)
    (taken : takesFrame l s = true → access.permits l = true → TriggerOf c s (act (acceptFrame l s)).trigger) :
    ∃ val trigger u, EventOf c s (handleFrame access l act finish s) val trigger u := by
  cases ht : takesFrame l s with
  | false =>
    rw [handleFrame_passed ht]
    exact ⟨_, _, _, .of_unchangedBut (modPort_unchangedBut s l _) (by simp [eventReads, ofArms]) (passed ht)⟩
  | true =>
    have done : ∃ val, CausesMove val noReport (faultReport (frameAct access l act s).trigger) s
          (frameAct access l act s).st ∧
        TriggerOf c s (frameAct access l act s).trigger ∧
        (∀ arm, ((frameAct access l act s).st.attn.arms.get arm).permit = (s.attn.arms.get arm).permit) ∧
        (frameAct access l act s).st.cellTime = s.cellTime := by
      cases hp : access.permits l with
      | false =>
        rw [frameAct, hp]
        refine ⟨fun _ _ => false, ?_, denied ht hp, acceptFrame_permit l s, acceptFrame_cellTime l s⟩
        exact faultReport_plain ▸ CausesMove.acceptFrame l fun _ => rfl
      | true =>
        rw [frameAct, hp]
        obtain ⟨val, link, moves⟩ := hact (acceptFrame l s)
        have reached := hblocks (acceptFrame l s)
        exact ⟨val, (CausesMove.acceptFrame l link).after moves, taken ht hp,
          fun arm => (reached (.permitSource arm) (apart _ (by cases arm <;> decide))).trans (acceptFrame_permit l s arm),
          (reached .time (apart _ (by decide))).trans (acceptFrame_cellTime l s)⟩
    obtain ⟨val, moves, htrigger, hpermit, htime⟩ := done
    rw [handleFrame_taken ht]
    have finished := hfinish (frameAct access l act s).reply
      (Machine.conclude s (frameAct access l act s).trigger (frameAct access l act s).st)
    have sup := sup_of_unchangedBut finished fun b hb => afterwards b (by revert b hb; decide)
    exact ⟨val, _, _, moves.of_ended, hpermit, htime, htrigger, sup,
      fun _ => (finished .faultSource (afterwards _ (by decide))).trans (by rw [conclude_cell_unit]),
      fun arm _ => finished (.permitSource arm) (afterwards _ (by cases arm <;> decide))⟩

/-- The end of a frame whose request reaches the attention units alone: the supervisors are judged as the frame itself
leaves them. -/
theorem EventOf.ofAttn (hact : ∀ u, unchangedBut (sourceBlocks ++ masterBlocks) u (act u).st)
    (hplain : ∀ u, (act u).trigger = .plain) (hcell : ¬ attnOn .cell c → ∀ u, (act u).st.attn.cell = u.attn.cell)
    (harm : ∀ arm, ¬ attnOn (linkOf arm) c → ∀ u, ((act u).st.attn.arms.get arm).permit = (u.attn.arms.get arm).permit)
    (htrigger : TriggerOf c s .plain) :
    ∃ val trigger u, EventOf c s (handleRequest access l act s) val trigger u := by
  cases ht : takesFrame l s with
  | false =>
    rw [handleRequest, handleFrame_passed ht]
    exact ⟨_, _, _, .of_unchangedBut (modPort_unchangedBut s l _) (by simp [eventReads, ofArms]) htrigger⟩
  | true =>
    have moves : CausesMove (fun _ _ => false) (endsWindow c) (faultReport .plain) s (acceptFrame l s) :=
      faultReport_plain ▸ CausesMove.acceptFrame l fun _ => rfl
    cases hp : access.permits l with
    | false =>
      rw [handleRequest_denied ht hp]
      exact ⟨_, _, _, moves, acceptFrame_permit l s, acceptFrame_cellTime l s, htrigger, rfl,
        fun _ => by rw [← conclude_cell_unit s .plain (acceptFrame l s)]; rfl, fun _ _ => rfl⟩
    | true =>
      rw [handleRequest_permitted ht hp]
      have reached := hact (acceptFrame l s)
      have sup : (act (acceptFrame l s)).st.sup = (acceptFrame l s).sup := sup_of_unchangedBut reached (by decide)
      have time : (act (acceptFrame l s)).st.cellTime = (acceptFrame l s).cellTime := reached .time (by decide)
      refine ⟨_, _, _, moves, acceptFrame_permit l s, acceptFrame_cellTime l s, htrigger, ?_, fun hc => ?_, fun arm ha => ?_⟩
      · refine PerArm.ext_get fun arm => ?_
        simp only [hplain]
        exact conclude_sup_congr (congrArg (PerArm.get · arm) sup) time s .plain
      · refine (congrArg CellUnit.fault (conclude_cell_unit s _ (act (acceptFrame l s)).st)).trans ?_
        rw [hcell hc]
      · simp only [hplain]
        exact conclude_permit_congr .plain (congrArg (PerArm.get · arm) sup) time (harm arm ha _)

end Frame

end Sys2Proof.Machine
end

section
/-! PROOFS. Every command that moves no supervision state of itself is one event: what it brings to the causes, and the
judgement of the arms that ends it (R84 to R89). -/

namespace Sys2Proof.Machine

/-- The command moves no supervision state, mode or recorded flag but through the causes it brings. -/
def ordinary : Instr → Bool
  | .resetInputAsserted | .armEnable _ | .armDisable _ | .armReset _ | .faultClear _ | .armSet _ => false
  | _ => true

/-! ### The events that are no requests -/

section Events
variable {c : Instr} {s t : State}

theorem setPresent_permit (arm : Arm) (k : Cause) (now : Bool) (s : State) (other : Arm) :
    ((setPresent arm k now s).attn.arms.get other).permit = (s.attn.arms.get other).permit := by rw [setPresent_arms]

theorem judgeSense_permit (arm : Arm) (s : State) (other : Arm) :
    ((judgeSense arm s).attn.arms.get other).permit = (s.attn.arms.get other).permit := by
  rw [judgeSense]; split
  · rfl
  · rw [setPresent_arms]

theorem judgeSense_cellTime (arm : Arm) (s : State) : (judgeSense arm s).cellTime = s.cellTime := by
  rw [judgeSense]; split <;> simp

/-- A permit sense that differs from its command, as a condition. -/
def senseConditions (s : State) (arm : Arm) : Cause → Bool
  | .permitMismatch => decide ((s.sup.get arm).sense ≠ (s.sup.get arm).command)
  | _ => false

theorem judgeSense_sense (arm other : Arm) (s : State) :
    ((judgeSense arm s).sup.get other).sense = (s.sup.get other).sense ∧
      ((judgeSense arm s).sup.get other).command = (s.sup.get other).command := by
  have supervisor := judgeSense_unchangedBut arm s (.sense other) (by cases arm <;> cases other <;> decide)
  have moves : CausesMove (fun k => senseConditions s k) noReport noReport s (judgeSense arm s) := .judgeSense rfl
  exact ⟨supervisor, (moves.sup other).command⟩

/-- The deassertion of the reset input judges both permit senses (R100, R171). -/
theorem leaveReset_event (s : State) : ∃ val trigger u,
    EventOf .resetInputDeasserted s (conclude s .plain (leaveReset s)) val trigger u := by
  let started : State := { s with
    resetHeld := false
    rack := { s.rack with slots := vmap (fun _ x =>
      { x with settleTimer := some ({ s with resetHeld := false }.timer presenceSettleMs) }) s.rack.slots } }
  have moves : CausesMove (senseConditions s) (endsWindow .resetInputDeasserted) noReport s (leaveReset s) :=
    CausesMove.andThen (u := started) (.of_same _ _ rfl rfl) <| CausesMove.andThen (.judgeSense rfl) <| .judgeSense <| by
      obtain ⟨sense, command⟩ := judgeSense_sense .a .b started
      rw [sense, command]; rfl
  exact ⟨_, _, _, .conclude (faultReport_plain ▸ moves)
    (fun arm => (judgeSense_permit .b _ arm).trans (judgeSense_permit .a _ arm))
    ((judgeSense_cellTime .b _).trans (judgeSense_cellTime .a _)) (.of_quiet rfl)⟩

/-- A discarded frame can make LINK present (R87). -/
theorem discardFrame_event (l : Link) (s : State) : ∃ val trigger u,
    EventOf (.frameDiscard l) s (conclude s .plain (discardFrame l s)) val trigger u := by
  let counted : State := s.modPort l fun p =>
    { p with phase := .idle, reply := .zeros .frameError, runCount := min 255 (p.runCount + 1) }
  have port : CausesMove (fun _ _ => true) (endsWindow (.frameDiscard l)) noReport s counted := .of_same _ _ rfl rfl
  suffices h : CausesMove (fun _ _ => true) (endsWindow (.frameDiscard l)) noReport s (discardFrame l s) ∧
      (∀ arm, ((discardFrame l s).attn.arms.get arm).permit = (s.attn.arms.get arm).permit) ∧
      (discardFrame l s).cellTime = s.cellTime from
    ⟨_, _, _, .conclude (faultReport_plain ▸ h.1) h.2.1 h.2.2 (.of_quiet rfl)⟩
  simp only [discardFrame]
  split
  · exact ⟨port, fun _ => rfl, rfl⟩
  next arm _ =>
  split
  · exact ⟨port.andThen (.setPresent rfl), setPresent_permit arm .link true counted, by simp⟩
  · exact ⟨port, fun _ => rfl, rfl⟩

/-- The report timer runs out: it stops, and OVERDUE becomes present (R98). -/
theorem expireReport_event (arm : Arm) (s : State) : ∃ val trigger u,
    EventOf (.reportTimerExpiry arm) s (conclude s .plain (expireReport arm s)) val trigger u := by
  have stopped : CausesMove (fun _ _ => true) (endsWindow (.reportTimerExpiry arm)) noReport s
      (s.modSup arm fun v => { v with reportTimer := none }) :=
    .modSup (.of_flags _ rfl rfl rfl (fun _ => rfl) (fun _ _ => rfl) rfl rfl) rfl
  exact ⟨_, _, _, .conclude (faultReport_plain ▸ stopped.andThen (.setPresent rfl))
    (setPresent_permit arm .overdue true _) (by simp [expireReport]) (.of_quiet rfl)⟩

/-- The settle window ends, and the sense is judged (R100). -/
theorem expireWindow_event (arm : Arm) (s : State) : ∃ val trigger u,
    EventOf (.settleWindowExpiry arm) s (conclude s .plain (expireWindow arm s)) val trigger u := by
  have ended : CausesMove (senseConditions s) (endsWindow (.settleWindowExpiry arm)) noReport s
      (s.modSup arm fun v => { v with window := none }) :=
    .modSup (.of_flags _ rfl rfl rfl (fun h => absurd h (by simp [endsWindow])) (fun _ h => h) rfl rfl) rfl
  exact ⟨_, _, _, .conclude (faultReport_plain ▸ ended.andThen (.judgeSense (by simp [senseConditions, State.modSup])))
    (judgeSense_permit arm _) (judgeSense_cellTime arm _) (.of_quiet rfl)⟩

/-- A permit sense that changes is judged (R100). -/
theorem changeSense_event (arm : Arm) (level : Bool) (s : State) : ∃ val trigger u,
    EventOf (.permitSenseChange arm level) s (conclude s .plain (changeSense arm level s)) val trigger u := by
  let line : State := s.modSup arm fun v => { v with sense := level }
  have taken (val : Arm → Cause → Bool) :
      CausesMove val (endsWindow (.permitSenseChange arm level)) noReport s line :=
    .modSup (.of_flags _ rfl rfl rfl (fun _ => rfl) (fun _ h => h) rfl rfl) rfl
  suffices h : CausesMove (senseConditions line) (endsWindow (.permitSenseChange arm level)) noReport s
      (changeSense arm level s) ∧
      (∀ other, ((changeSense arm level s).attn.arms.get other).permit = (s.attn.arms.get other).permit) ∧
      (changeSense arm level s).cellTime = s.cellTime from
    ⟨_, _, _, .conclude (faultReport_plain ▸ h.1) h.2.1 h.2.2 (.of_quiet rfl)⟩
  simp only [changeSense]
  split
  · exact ⟨.of_same _ _ rfl rfl, fun _ => rfl, rfl⟩
  split
  · exact ⟨taken _, fun _ => rfl, rfl⟩
  · exact ⟨(taken _).andThen (.judgeSense rfl), judgeSense_permit arm line, judgeSense_cellTime arm line⟩

/-- A change timer runs out, and the change ends in CHANGE_FAULT (R88, R132). -/
theorem expireChange_event (arm : Arm) {s : State} (hdue : s.due (s.rack.changes.get arm).timer = true) :
    ∃ val trigger u, EventOf (.changeTimerExpiry arm) s (conclude s (.changeFault arm) (expireChange arm s)) val trigger u := by
  have resolved : ∃ u, unchangedBut (expiredBlocks.filter fun b => b ∉ causeBlocks) s u ∧
      expireChange arm s = raiseChange arm (reportChangeFault arm (closeChange arm .timedOut u)) := by
    have blocked := unchangedBut_mono (l' := expiredBlocks.filter fun b => b ∉ causeBlocks) (by decide)
      (blockSlot_unchangedBut (s.rack.changes.get arm) s)
    simp only [expireChange]
    split
    · exact ⟨_, unchangedBut_last (startBlank_unchangedBut arm _) (by decide)
        (unchangedBut_last (mountTake_unchangedBut arm _) (by decide) blocked), rfl⟩
    · exact ⟨_, blocked, rfl⟩
  obtain ⟨u, hu, outcome⟩ := resolved
  have before := unchangedBut_last (closeChange_unchangedBut arm .timedOut u) (by decide) hu
  have moves : CausesMove (fun _ _ => false) (endsWindow (.changeTimerExpiry arm)) (fun k => decide (k = arm)) s
      (expireChange arm s) := by
    rw [outcome]
    exact CausesMove.after (.of_unchangedBut _ _ before (by decide)) <|
      CausesMove.andThen .reportChangeFault (.of_same _ _ rfl rfl)
  have reached := expireChange_unchangedBut arm s
  refine ⟨_, _, _, .conclude (faultReport_changeFault arm ▸ moves) (fun other => ?_) (reached .time (by decide)) ?_⟩
  · have own : ((reportChangeFault arm (closeChange arm .timedOut u)).attn.arms.get other).permit =
        (u.attn.arms.get other).permit := by
      rw [reportChangeFault, recordCause_spec]; split <;> rfl
    rw [outcome]
    refine Eq.trans ?_ (own.trans (hu (.permitSource other) (by cases other <;> decide)))
    exact raiseChange_unchangedBut_arms _ arm (.permitSource other) (by simp [ofArms])
  · exact ⟨fun k => by simp [positionOf], fun k => by
      simp only [Trigger.changeFault.injEq, changeFaultOf, Instr.changeTimerExpiry.injEq, reduceCtorEq, false_and,
        exists_false, or_false]
      exact ⟨fun same => by subst same; exact ⟨rfl, hdue⟩, fun h => h.1⟩, fun k => by simp⟩

theorem exec_event_of_noRequest (h : exec c s = .next t) (hr : requestOf c = none) (hc : ordinary c = true) :
    ∃ val trigger u, EventOf c s t val trigger u := by
  have unmoved (apart : ∀ b ∈ eventReads, b ∉ eventBlocks c) (hq : quiet c = true) :
      ∃ val trigger u, EventOf c s t val trigger u :=
    ⟨_, _, _, .of_unchangedBut (exec_event_unchangedBut h hr (by rintro rfl; exact Bool.false_ne_true hc)) apart
      (.of_quiet hq)⟩
  cases c <;> cases hr <;> cases hc
  case resetInputDeasserted =>
    simp only [exec, execResetInputDeasserted] at h
    split at h <;> cases h
    · exact leaveReset_event s
    · exact ⟨_, _, _, .refl (.of_quiet rfl)⟩
  case frameDiscard l =>
    simp only [exec, execFrameDiscard] at h
    split at h <;> cases h
    · exact discardFrame_event l s
    · exact ⟨_, _, _, .of_unchangedBut (modPort_unchangedBut s l _) (by simp [eventReads, ofArms]) (.of_quiet rfl)⟩
  case reportTimerExpiry arm =>
    simp only [exec, execReportTimerExpiry] at h
    split at h <;> cases h
    · exact expireReport_event arm s
    · exact ⟨_, _, _, .refl (.of_quiet rfl)⟩
  case permitSenseChange arm level => cases h; exact changeSense_event arm level s
  case settleWindowExpiry arm =>
    simp only [exec, execSettleWindowExpiry] at h
    split at h <;> cases h
    · exact expireWindow_event arm s
    · exact ⟨_, _, _, .refl (.of_quiet rfl)⟩
  case changeTimerExpiry arm =>
    simp only [exec, execChangeTimerExpiry] at h
    split at h <;> cases h
    · next hdue => exact expireChange_event arm hdue
    · next hdue =>
      refine ⟨_, _, _, .refl (.plain (by simp [positionOf]) fun k hf => ?_)⟩
      obtain ⟨same, due⟩ | ⟨r, no, -⟩ := hf
      · cases same; exact hdue due
      · cases no
  all_goals exact unmoved (of_decide_eq_true rfl) rfl

end Events

/-! ### The requests -/

section Requests
variable {c : Instr} {r : Request} {s t : State}

/-- A request of an arm that its link carries, and that the port takes. -/
theorem armOf_eq_some {l : Link} {arm : Arm} : armOf l = some arm ↔ l = linkOf arm := by
  cases l <;> cases arm <;> simp [armOf, linkOf]

theorem linkOf_injective {arm other : Arm} (h : linkOf arm = linkOf other) : arm = other := by
  cases arm <;> cases other <;> simp_all [linkOf]

theorem permits_armLinks {l : Link} (h : Access.armLinks.permits l = true) : ∃ arm, l = linkOf arm := by
  cases l
  · exact ⟨.a, rfl⟩
  · exact ⟨.b, rfl⟩
  · cases h

/-- A request whose act brings nothing to the causes. -/
theorem exec_event_of_still (h : exec c s = .next t) (hr : requestOf c = some r)
    (apart : ∀ b ∈ eventReads, b ∉ requestBlocks c) (hplain : ∀ trigger, triggersOf c trigger → trigger = .plain)
    (hq : quiet c = true) : ∃ val trigger u, EventOf c s t val trigger u := by
  obtain ⟨access, act, finish, rfl, hact, htrigger, hfinish⟩ := exec_request_endsFrame h hr
  have trigger (u : State) : (act u).trigger = .plain := hplain _ (htrigger u)
  refine EventOf.ofFrame (fun u => ?_) hact hfinish (fun b hb => apart b (by revert b hb; decide)) apart
    (fun _ => .of_quiet hq) (fun _ _ => .of_quiet hq) fun _ _ => trigger _ ▸ .of_quiet hq
  rw [trigger, faultReport_plain]
  exact .of_unchangedBut (hact u) fun b hb => apart b (by revert b hb; decide)

/-- A request that brings causes up to date and nothing to the judgement. -/
theorem EventOf.ofRequest {access : Access} {act : State → Act} {bs : List Block}
    (hact : ∀ u, RequestMoves noReport u (act u).st) (hplain : ∀ u, (act u).trigger = .plain)
    (hblocks : ∀ u, unchangedBut bs u (act u).st) (apart : ∀ b ∈ .time :: ofArms .permitSource, b ∉ bs)
    (hq : quiet c = true) : ∃ val trigger u, EventOf c s (handleRequest access r.link act s) val trigger u :=
  EventOf.ofFrame (fun u => by rw [hplain, faultReport_plain]; exact hact u) hblocks
    (fun _ u => unchangedBut_refl [] u) apart (by simp) (fun _ => .of_quiet hq) (fun _ _ => .of_quiet hq)
    fun _ _ => by rw [hplain]; exact .of_quiet hq

/-- POSITION as an event: it brings itself to the judgement of its arm (R86, R89). -/
theorem position_event (r : Request) (s : State) : ∃ val trigger u, EventOf (.position r) s
    (handleRequest .armLinks r.link (forLinkArm r.link fun arm => positionBy arm r) s) val trigger u := by
  have unjudged (h : ∀ arm, ¬ onArm arm r s) : TriggerOf (.position r) s .plain :=
    .plain (fun arm hp => by obtain ⟨_, same, taken⟩ := hp; cases same; exact h arm taken)
      (fun arm hf => by obtain ⟨no, -⟩ | ⟨_, no, -⟩ := hf <;> cases no)
  refine EventOf.ofFrame (fun u => ?_) (forLinkArm_unchangedBut (positionBy_unchangedBut r))
    (fun _ u => unchangedBut_refl [] u) (by decide) (by simp) (fun passed => ?_) (fun _ denied => ?_) fun taken permitted => ?_
  · rw [forLinkArm]
    split
    · next arm _ =>
      rw [show (positionBy arm r u).trigger = .position arm from rfl, faultReport_position]
      exact positionBy_moves r arm u
    · rw [refuse_trigger, faultReport_plain]; exact .of_same rfl rfl
  · refine unjudged fun arm ⟨hl, taken⟩ => ?_
    rw [hl, taken] at passed
    exact absurd passed (by simp)
  · refine unjudged fun arm ⟨hl, _⟩ => ?_
    rw [hl] at denied
    cases arm <;> cases denied
  · obtain ⟨arm, hl⟩ := permits_armLinks permitted
    have own : (forLinkArm r.link (fun arm => positionBy arm r) (acceptFrame r.link s)).trigger = .position arm := by
      simp only [forLinkArm, armOf_eq_some.mpr hl]; rfl
    rw [own]
    refine ⟨fun k => ?_, fun k => ?_, fun k => by simp⟩
    · simp only [Trigger.position.injEq, positionOf, Instr.position.injEq]
      refine ⟨fun same => ?_, fun ⟨q, same, hq, _⟩ => ?_⟩
      · subst same; exact ⟨r, rfl, hl, hl ▸ taken⟩
      · subst same; exact linkOf_injective (hl.symm.trans hq)
    · simp [changeFaultOf]

/-- CHANGE_CLOSE reports CHANGE_FAULT in FINISH with an id that is not the take id (R130). -/
theorem changeCloseBy_trigger_eq (r : Request) (arm : Arm) (s : State) :
    (changeCloseBy arm r s).trigger =
      if (s.rack.changes.get arm).phase = .finish ∧ r.d0.toNat ≤ 65535 ∧
        r.d0.toNat ≠ (s.rack.changes.get arm).takeId.toNat then .changeFault arm else .plain := by
  rw [changeCloseBy]
  by_cases phase : (s.rack.changes.get arm).phase = .finish
  · by_cases large : 65535 < r.d0.toNat
    · simp [phase, large, Nat.not_le.mpr large, changeAct]
    · by_cases same : r.d0.toNat = (s.rack.changes.get arm).takeId.toNat
      · have small : (s.rack.changes.get arm).takeId.toNat ≤ 65535 := same ▸ Nat.le_of_not_lt large
        simp [phase, same, changeAct, Nat.not_lt.mpr small]
      · simp [phase, large, same, Nat.le_of_not_lt large]
  · simp [phase, changeAct]

/-- CHANGE_CLOSE as an event (R129, R130). -/
theorem changeClose_event (r : Request) (s : State) : ∃ val trigger u, EventOf (.changeClose r) s
    (handleRequest .armLinks r.link (forLinkArm r.link fun arm => changeCloseBy arm r) s) val trigger u := by
  have unjudged (h : ∀ arm, ¬ onArm arm r s) : TriggerOf (.changeClose r) s .plain :=
    .plain (fun arm hp => by obtain ⟨_, no, -⟩ := hp; cases no) fun arm hf => by
      obtain ⟨no, -⟩ | ⟨_, same, taken, -⟩ := hf
      · cases no
      · cases same; exact h arm taken
  refine EventOf.ofFrame (fun u => ?_) (forLinkArm_unchangedBut (changeCloseBy_unchangedBut r))
    (fun _ u => unchangedBut_refl [] u) (by decide) (by simp) (fun passed => ?_) (fun _ denied => ?_) fun taken permitted => ?_
  · rw [forLinkArm]
    split
    · exact changeCloseBy_moves r _ u
    · rw [refuse_trigger, faultReport_plain]; exact .of_same rfl rfl
  · refine unjudged fun arm ⟨hl, taken⟩ => ?_
    rw [hl, taken] at passed
    exact absurd passed (by simp)
  · refine unjudged fun arm ⟨hl, _⟩ => ?_
    rw [hl] at denied
    cases arm <;> cases denied
  · obtain ⟨arm, hl⟩ := permits_armLinks permitted
    have own : (forLinkArm r.link (fun arm => changeCloseBy arm r) (acceptFrame r.link s)).trigger =
        (changeCloseBy arm r (acceptFrame r.link s)).trigger := by simp only [forLinkArm, armOf_eq_some.mpr hl]
    have mine : onArm arm r s := ⟨hl, hl ▸ taken⟩
    rw [own, changeCloseBy_trigger_eq, acceptFrame_rack]
    split
    · next faults =>
      refine ⟨fun k => by simp [positionOf], fun k => ?_, fun k => by simp⟩
      simp only [Trigger.changeFault.injEq, changeFaultOf, Instr.changeClose.injEq, reduceCtorEq, false_and, false_or]
      refine ⟨fun same => ?_, fun ⟨q, same, hq, _⟩ => ?_⟩
      · subst same; exact ⟨r, rfl, mine, faults⟩
      · subst same; exact linkOf_injective (hl.symm.trans hq.1)
    · next sound =>
      refine .plain (fun k hp => by obtain ⟨_, no, -⟩ := hp; cases no) fun k hf => ?_
      obtain ⟨no, -⟩ | ⟨q, same, hq, faults⟩ := hf
      · cases no
      · cases same
        cases linkOf_injective (hl.symm.trans hq.1)
        exact sound faults

/-! ### The ATTN requests -/

theorem attnTake_cell {l : Link} (h : l ≠ .cell) (s : State) : (attnTake l s).st.attn.cell = s.attn.cell := by
  obtain ⟨arm, harm⟩ : ∃ arm, armOf l = some arm := by cases l <;> simp_all [armOf]
  rw [attnTake]
  split
  · rfl
  · simp only [harm]; rfl

theorem attnDone_cell {l : Link} (h : l ≠ .cell) (s : State) : (attnDone l s).st.attn.cell = s.attn.cell := by
  obtain ⟨arm, harm⟩ : ∃ arm, armOf l = some arm := by cases l <;> simp_all [armOf]
  rw [attnDone]
  split
  · rfl
  · simp only [harm]; rfl

theorem attnEnable_cell {r : Request} (h : r.link ≠ .cell) (s : State) : (attnEnable r s).st.attn.cell = s.attn.cell := by
  obtain ⟨arm, harm⟩ : ∃ arm, armOf r.link = some arm := by cases hl : r.link <;> simp_all [armOf]
  simp only [attnEnable, harm]
  split <;> rfl

theorem setArmUnit_permit_other {arm other : Arm} (h : other ≠ arm) (s : State) (u : ArmUnit) :
    ((s.setArmUnit arm u).attn.arms.get other).permit = (s.attn.arms.get other).permit := by
  simp [h]

theorem attnTake_permit {l : Link} {arm : Arm} (h : l ≠ linkOf arm) (s : State) :
    ((attnTake l s).st.attn.arms.get arm).permit = (s.attn.arms.get arm).permit := by
  rw [attnTake]
  split
  · rfl
  split
  · rfl
  · next own hown => exact setArmUnit_permit_other (by rintro rfl; exact h (armOf_eq_some.mp hown)) _ _

theorem attnDone_permit {l : Link} {arm : Arm} (h : l ≠ linkOf arm) (s : State) :
    ((attnDone l s).st.attn.arms.get arm).permit = (s.attn.arms.get arm).permit := by
  rw [attnDone]
  split
  · rfl
  split
  · rfl
  · next own hown => exact setArmUnit_permit_other (by rintro rfl; exact h (armOf_eq_some.mp hown)) _ _

theorem attnEnable_permit {r : Request} {arm : Arm} (h : r.link ≠ linkOf arm) (s : State) :
    ((attnEnable r s).st.attn.arms.get arm).permit = (s.attn.arms.get arm).permit := by
  simp only [attnEnable]
  split
  · split <;> rfl
  · next own hown =>
    split
    · rfl
    · exact setArmUnit_permit_other (by rintro rfl; exact h (armOf_eq_some.mp hown)) _ _

/-! ### Every ordinary command -/

theorem exec_event_of_request (h : exec c s = .next t) (hr : requestOf c = some r) (hc : ordinary c = true) :
    ∃ val trigger u, EventOf c s t val trigger u := by
  have still (apart : ∀ b ∈ eventReads, b ∉ requestBlocks c) (hplain : ∀ trigger, triggersOf c trigger → trigger = .plain)
      (hq : quiet c = true) := exec_event_of_still h hr apart hplain hq
  have ofArm {act : Arm → State → Act} {bs : List Block} (hact : ∀ arm u, RequestMoves noReport u (act arm u).st)
      (hplain : ∀ arm u, (act arm u).trigger = .plain) (hblocks : ∀ arm u, unchangedBut bs u (act arm u).st)
      (apart : ∀ b ∈ .time :: ofArms .permitSource, b ∉ bs) (hq : quiet c = true) :
      ∃ val trigger u, EventOf c s (handleRequest .armLinks r.link (forLinkArm r.link act) s) val trigger u := by
    refine EventOf.ofRequest (fun u => ?_) (forLinkArm_trigger (p := (· = .plain)) rfl hplain)
      (forLinkArm_unchangedBut hblocks) apart hq
    rw [forLinkArm]
    split
    · exact hact _ u
    · exact .of_same rfl rfl
  cases c <;> cases hr <;> cases hc
  case attnTake =>
    cases h
    exact EventOf.ofAttn (fun u => unchangedBut_mono (by simp) (attnTake_unchangedBut r.link u)) (attnTake_trigger r.link)
      (fun no u => attnTake_cell (fun hl => no ⟨r, hl, .inl rfl⟩) u)
      (fun arm no u => attnTake_permit (fun hl => no ⟨r, hl, .inl rfl⟩) u) (.of_quiet rfl)
  case attnDone =>
    cases h
    exact EventOf.ofAttn (fun u => unchangedBut_mono (by simp) (attnDone_unchangedBut r.link u)) (attnDone_trigger r.link)
      (fun no u => attnDone_cell (fun hl => no ⟨r, hl, .inr (.inl rfl)⟩) u)
      (fun arm no u => attnDone_permit (fun hl => no ⟨r, hl, .inr (.inl rfl)⟩) u) (.of_quiet rfl)
  case attnEnable =>
    cases h
    exact EventOf.ofAttn (attnEnable_unchangedBut r) (attnEnable_trigger r)
      (fun no u => attnEnable_cell (fun hl => no ⟨r, hl, .inr (.inr rfl)⟩) u)
      (fun arm no u => attnEnable_permit (fun hl => no ⟨r, hl, .inr (.inr rfl)⟩) u) (.of_quiet rfl)
  case position => cases h; exact position_event r s
  case changeClose => cases h; exact changeClose_event r s
  case claim =>
    cases h; exact ofArm (claimBy_moves r) (claimBy_trigger r) (claimBy_unchangedBut r) (by decide) rfl
  case release =>
    cases h; exact ofArm (releaseBy_moves r) (releaseBy_trigger r) (releaseBy_unchangedBut r) (by decide) rfl
  case zoneFree =>
    cases h
    exact EventOf.ofRequest (zoneFree_moves r) (zoneFree_trigger r) (zoneFree_unchangedBut r) (by decide) rfl
  case zoneDefine =>
    cases h
    exact EventOf.ofRequest (zoneDefine_moves r) (zoneDefine_trigger r) (zoneDefine_act_unchangedBut r) (by decide) rfl
  all_goals exact still (of_decide_eq_true rfl) (fun _ => id) rfl

/-- Every ordinary command is an event. -/
theorem exec_event (h : exec c s = .next t) (hc : ordinary c = true) : ∃ val trigger u, EventOf c s t val trigger u := by
  cases hr : requestOf c with
  | none => exact exec_event_of_noRequest h hr hc
  | some r => exact exec_event_of_request h hr hc

end Requests

end Sys2Proof.Machine
end

section
/-! PROOFS. ARM_SET and the causes whose modes change (R81, R82), and which events record a cause (R84, R85, R88). -/

namespace Sys2Proof.Machine

/-! ### ARM_SET (R82) -/

/-- FAULT attention raised for an arm, or not. -/
def faultIf (on : Bool) (arm : Arm) (s : State) : State := if on then raiseFault arm s else s

@[simp] theorem faultIf_sup (on : Bool) (arm : Arm) (s : State) : (faultIf on arm s).sup = s.sup := by
  cases on <;> rfl

@[simp] theorem faultIf_fault (on : Bool) (arm : Arm) (s : State) :
    (faultIf on arm s).attn.cell.fault = faultNamed on arm s.attn.cell.fault := by
  cases on <;> rfl

theorem faultIf_setSup (on : Bool) (arm k : Arm) (v : Supervisor) (s : State) :
    (faultIf on arm s).setSup k v = faultIf on arm (s.setSup k v) := by
  cases on <;> rfl

theorem faultIf_or (x y : Bool) (arm : Arm) (s : State) : faultIf x arm (faultIf y arm s) = faultIf (y || x) arm s := by
  have twice : raiseFault arm (raiseFault arm s) = raiseFault arm s := by
    cases he : s.attn.cell.fault.enable
    · simp [raiseFault, State.modCellUnit, Source.raise, he]
    · simp [raiseFault, State.modCellUnit, Source.raise, he, addMark, BitVec.or_assoc]
  cases y
  · rfl
  · cases x
    · rfl
    · exact twice

/-- A mode leaves OFF while its cause is present. -/
def turnsOn (before after : Mode) (present : Bool) : Bool := decide (before = .off ∧ after ≠ .off) && present

/-- The recorded flag of a cause after a taken ARM_SET (R82). -/
def recordedAfter (before after : Mode) (recorded present : Bool) : Bool :=
  if after = .off then recorded && decide (before = .off) else recorded || (decide (before = .off) && present)

theorem recordedAfter_same (m : Mode) (recorded present : Bool) (h : m ≠ .off) :
    recordedAfter m m recorded present = recorded := by simp [recordedAfter, h]

theorem changeMode_eq {arm : Arm} {before after : Modes} {k : Cause} {s : State}
    (hset : (s.sup.get arm).settings.modes = after) :
    changeMode arm before after k s =
      let v := s.sup.get arm
      faultIf (turnsOn (modeOf before k) (modeOf after k) (v.present.get k)) arm (s.setSup arm { v with
        recorded := v.recorded.set k
          (recordedAfter (modeOf before k) (modeOf after k) (v.recorded.get k) (v.present.get k)) }) := by
  have kept {on flag : Bool} (hon : on = false) (hflag : flag = (s.sup.get arm).recorded.get k) :
      s = faultIf on arm (s.setSup arm { s.sup.get arm with recorded := (s.sup.get arm).recorded.set k flag }) := by
    rw [hon, hflag, PerCause.set_get]; exact (State.setSup_get s arm).symm
  rw [changeMode]
  by_cases same : modeOf before k = modeOf after k
  · rw [if_pos same, same]
    by_cases off : modeOf after k = .off
    · exact kept (by simp [turnsOn, off]) (by simp [recordedAfter, off])
    · exact kept (by simp [turnsOn, off]) (by simp [recordedAfter, off])
  by_cases off : modeOf after k = .off
  · rw [if_neg same, if_pos off]
    have on : ¬ modeOf before k = .off := fun h => same (h.trans off.symm)
    simp [off, on, turnsOn, recordedAfter, faultIf, State.modSup]
  · rw [if_neg same, if_neg off]
    have mode : ¬ (s.sup.get arm).mode k = .off := by rw [Supervisor.mode, hset]; exact off
    by_cases leaves : modeOf before k = .off ∧ (s.sup.get arm).present.get k = true
    · obtain ⟨was, present⟩ := leaves
      simp [off, was, present, turnsOn, recordedAfter, faultIf, recordCause_spec, mode]
    · have none : (decide (modeOf before k = .off) && (s.sup.get arm).present.get k) = false := by simpa using leaves
      rw [if_neg leaves]
      exact kept (by simpa [turnsOn, off] using none) (by simp [recordedAfter, off, none])

/-- The four settable causes of an arm that leave OFF while present. -/
def someTurnsOn (before after : Modes) (present : PerCause Bool) : Bool :=
  turnsOn before.guard after.guard present.guard || turnsOn before.overdue after.overdue present.overdue ||
    turnsOn before.compLost after.compLost present.compLost || turnsOn before.link after.link present.link

/-- The supervisor after its modes are replaced (R82). -/
def remoded (after : Modes) (v : Supervisor) : Supervisor :=
  let m := v.settings.modes
  { v with
    settings := { v.settings with modes := after }
    recorded := { v.recorded with
      guard := recordedAfter m.guard after.guard v.recorded.guard v.present.guard
      overdue := recordedAfter m.overdue after.overdue v.recorded.overdue v.present.overdue
      compLost := recordedAfter m.compLost after.compLost v.recorded.compLost v.present.compLost
      link := recordedAfter m.link after.link v.recorded.link v.present.link } }

/-- One cause after others in the same ARM_SET. -/
theorem changeMode_setSup {arm : Arm} {before after : Modes} {k : Cause} {on : Bool} {w : Supervisor} {s : State}
    (hset : w.settings.modes = after) :
    changeMode arm before after k (faultIf on arm (s.setSup arm w)) =
      faultIf (on || turnsOn (modeOf before k) (modeOf after k) (w.present.get k)) arm (s.setSup arm { w with
        recorded := w.recorded.set k
          (recordedAfter (modeOf before k) (modeOf after k) (w.recorded.get k) (w.present.get k)) }) := by
  have own : (faultIf on arm (s.setSup arm w)).sup.get arm = w := by simp
  rw [changeMode_eq (by rw [own]; exact hset)]
  simp only [own, faultIf_setSup, State.setSup_setSup, faultIf_or]

theorem setModes_eq (arm : Arm) (modes : Modes) (s : State) :
    setModes arm modes s =
      faultIf (someTurnsOn (s.sup.get arm).settings.modes modes (s.sup.get arm).present) arm
        (s.setSup arm (remoded modes (s.sup.get arm))) := by
  have written : s.setSettings arm { (s.sup.get arm).settings with modes := modes } =
      faultIf false arm (s.setSup arm { s.sup.get arm with
        settings := { (s.sup.get arm).settings with modes := modes } }) := rfl
  simp only [setModes, written]
  rw [changeMode_setSup, changeMode_setSup, changeMode_setSup, changeMode_setSup]
  all_goals rfl

theorem remoded_recorded (after : Modes) (v : Supervisor) (k : Cause) :
    (remoded after v).recorded.get k =
      recordedAfter (v.mode k) ((remoded after v).mode k) (v.recorded.get k) (v.present.get k) := by
  cases k
  case permitMismatch | changeFault => exact (recordedAfter_same .latched _ _ (by decide)).symm
  all_goals rfl

theorem someTurnsOn_iff (after : Modes) (v : Supervisor) :
    someTurnsOn v.settings.modes after v.present = true ↔
      ∃ k, turnsOn (v.mode k) ((remoded after v).mode k) (v.present.get k) = true := by
  constructor
  · intro h
    simp only [someTurnsOn, Bool.or_eq_true] at h
    obtain ((guard | overdue) | lost) | link := h
    · exact ⟨.guard, guard⟩
    · exact ⟨.overdue, overdue⟩
    · exact ⟨.compLost, lost⟩
    · exact ⟨.link, link⟩
  · rintro ⟨k, h⟩
    simp only [someTurnsOn, Bool.or_eq_true]
    cases k
    case guard => exact .inl (.inl (.inl h))
    case overdue => exact .inl (.inl (.inr h))
    case compLost => exact .inl (.inr h)
    case link => exact .inr h
    case permitMismatch => simp [turnsOn, Supervisor.mode, modeOf] at h
    case changeFault => simp [turnsOn, Supervisor.mode, modeOf] at h

/-- What a taken or refused ARM_SET leaves of the supervisor of its arm: its settings, and the recorded flags that the
modes call for; outside DISABLED nothing moves (R81, R82). -/
structure SetMoves (v w : Supervisor) : Prop where
  state : w.state = v.state
  present : w.present = v.present
  timer : w.reportTimer = v.reportTimer
  command : w.command = v.command
  window : w.window = v.window
  still : v.state ≠ .disabled → w = v
  recorded : ∀ k, w.recorded.get k = recordedAfter (v.mode k) (w.mode k) (v.recorded.get k) (v.present.get k) ∨ w = v

theorem armSet_outcome (r : Request) (s : State) : ∃ arm w on, (armSet r s).st = faultIf on arm (s.setSup arm w) ∧
    SetMoves (s.sup.get arm) w ∧
    (on = true ↔ ∃ k, turnsOn ((s.sup.get arm).mode k) (w.mode k) ((s.sup.get arm).present.get k) = true) := by
  have none (arm : Arm) (w : Supervisor) (h : w.settings.modes = (s.sup.get arm).settings.modes) :
      (false = true ↔ ∃ k, turnsOn ((s.sup.get arm).mode k) (w.mode k) ((s.sup.get arm).present.get k) = true) := by
    have mode (k : Cause) : w.mode k = (s.sup.get arm).mode k := by rw [Supervisor.mode, h, Supervisor.mode]
    simp only [mode, turnsOn, false_iff, not_exists, Bool.false_eq_true]
    intro k
    simp only [Bool.and_eq_true, decide_eq_true_eq]
    exact fun ⟨⟨off, on⟩, _⟩ => on off
  have kept (arm : Arm) : ∃ arm w on, s = faultIf on arm (s.setSup arm w) ∧ SetMoves (s.sup.get arm) w ∧
      (on = true ↔ ∃ k, turnsOn ((s.sup.get arm).mode k) (w.mode k) ((s.sup.get arm).present.get k) = true) :=
    ⟨arm, s.sup.get arm, false, (State.setSup_get s arm).symm, ⟨rfl, rfl, rfl, rfl, rfl, fun _ => rfl, fun _ => .inr rfl⟩,
      none arm _ rfl⟩
  have wrote (arm : Arm) (x : ArmSettings) (hx : x.modes = (s.sup.get arm).settings.modes)
      (disabled : (s.sup.get arm).state = .disabled) : ∃ k w on, s.setSettings arm x = faultIf on k (s.setSup k w) ∧
      SetMoves (s.sup.get k) w ∧
      (on = true ↔ ∃ c, turnsOn ((s.sup.get k).mode c) (w.mode c) ((s.sup.get k).present.get c) = true) := by
    refine ⟨arm, { s.sup.get arm with settings := x }, false, rfl, ⟨rfl, rfl, rfl, rfl, rfl,
      fun h => absurd disabled h, fun k => .inl ?_⟩, none arm _ hx⟩
    have mode : ({ s.sup.get arm with settings := x } : Supervisor).mode k = (s.sup.get arm).mode k := by
      rw [Supervisor.mode, hx, Supervisor.mode]
    rw [mode]
    by_cases off : (s.sup.get arm).mode k = .off <;> simp [recordedAfter, off]
  have remodes (arm : Arm) (modes : Modes) (disabled : (s.sup.get arm).state = .disabled) :
      ∃ k w on, setModes arm modes s = faultIf on k (s.setSup k w) ∧ SetMoves (s.sup.get k) w ∧
      (on = true ↔ ∃ c, turnsOn ((s.sup.get k).mode c) (w.mode c) ((s.sup.get k).present.get c) = true) :=
    ⟨arm, _, _, setModes_eq arm modes s, ⟨rfl, rfl, rfl, rfl, rfl, fun h => absurd disabled h,
      fun k => .inl (remoded_recorded modes _ k)⟩, someTurnsOn_iff modes _⟩
  simp only [armSet]
  split; · exact kept .a
  next arm _ =>
  split; · exact kept arm
  split; · exact kept arm
  next disabled =>
  split
  · split
    · exact kept arm
    · exact wrote arm _ rfl (not_not.mp disabled)
  · split
    · exact kept arm
    · exact wrote arm _ rfl (not_not.mp disabled)
  · split
    · exact kept arm
    · exact remodes arm _ (not_not.mp disabled)

/-! ### Operations that leave every flag -/

/-- Settings, present and recorded flags and FAULT attention are as they were. -/
structure SameFlags (s t : State) : Prop where
  settings : ∀ arm, (t.sup.get arm).settings = (s.sup.get arm).settings
  present : ∀ arm, (t.sup.get arm).present = (s.sup.get arm).present
  recorded : ∀ arm, (t.sup.get arm).recorded = (s.sup.get arm).recorded
  fault : t.attn.cell.fault = s.attn.cell.fault

section Flags
variable {s t u : State}

theorem SameFlags.trans (h1 : SameFlags s t) (h2 : SameFlags t u) : SameFlags s u where
  settings arm := (h2.settings arm).trans (h1.settings arm)
  present arm := (h2.present arm).trans (h1.present arm)
  recorded arm := (h2.recorded arm).trans (h1.recorded arm)
  fault := h2.fault.trans h1.fault

theorem SameFlags.of_same (hsup : t.sup = s.sup) (hfault : t.attn.cell.fault = s.attn.cell.fault) : SameFlags s t :=
  ⟨fun _ => by rw [hsup], fun _ => by rw [hsup], fun _ => by rw [hsup], hfault⟩

theorem SameFlags.refl (s : State) : SameFlags s s := .of_same rfl rfl

/-- An operation on the supervisor of one arm that leaves its settings and flags alone. -/
theorem SameFlags.of_arm {arm : Arm} {w : Supervisor} (hsup : t.sup = s.sup.set arm w)
    (hset : w.settings = (s.sup.get arm).settings) (hpresent : w.present = (s.sup.get arm).present)
    (hrecorded : w.recorded = (s.sup.get arm).recorded) (hfault : t.attn.cell.fault = s.attn.cell.fault) :
    SameFlags s t where
  settings k := by by_cases hk : k = arm <;> simp [hsup, hk, hset]
  present k := by by_cases hk : k = arm <;> simp [hsup, hk, hpresent]
  recorded k := by by_cases hk : k = arm <;> simp [hsup, hk, hrecorded]
  fault := hfault

theorem restartReport_flags (arm : Arm) (s : State) : SameFlags s (restartReport arm s) :=
  .of_arm (arm := arm) rfl rfl rfl rfl rfl

theorem enterState_flags (arm : Arm) (st : SupState) (s : State) : SameFlags s (enterState arm st s) := by
  rw [enterState_spec]
  split
  · exact .of_arm (arm := arm) rfl rfl rfl rfl rfl
  · exact .of_arm (arm := arm) rfl rfl rfl rfl rfl

theorem judgeArm_flags (s0 : State) (t : Trigger) (arm : Arm) (s : State) : SameFlags s (judgeArm s0 t arm s) := by
  obtain same | ⟨-, moved⟩ := judgeArm_spec s0 t arm s
  · rw [same]; exact .refl s
  · rw [moved]
    split
    · exact (enterState_flags arm _ s).trans (restartReport_flags arm _)
    · exact enterState_flags arm _ s

/-- The judgement of the arms moves no flag. -/
theorem conclude_flags (s0 : State) (t : Trigger) (s : State) : SameFlags s (conclude s0 t s) :=
  (judgeArm_flags s0 t .a s).trans (judgeArm_flags s0 t .b _)

theorem armEnable_flags (l : Link) (arm : Arm) (s : State) : SameFlags s (armEnable l arm s).st := by
  simp only [armEnable]
  split; · exact .refl s
  split
  · exact .refl s
  · exact (enterState_flags arm .starting s).trans (restartReport_flags arm _)

theorem removeClaim_flags (arm : Arm) (s : State) : SameFlags s (removeClaim arm s) :=
  .of_same (sup_of_unchangedBut (removeClaim_unchangedBut_claims arm s) (by decide))
    (removeClaim_unchangedBut_claims arm s .faultSource (by decide))

theorem armDisable_flags (l : Link) (arm : Arm) (s : State) : SameFlags s (armDisable l arm s).st := by
  simp only [armDisable]
  split
  · exact .refl s
  · let stopped : State := (enterState arm .disabled s).modSup arm fun v => { v with reportTimer := none }
    have entered : SameFlags s stopped :=
      (enterState_flags arm .disabled s).trans (.of_arm (arm := arm) rfl rfl rfl rfl rfl)
    exact (entered.trans (removeClaim_flags arm stopped)).trans (.of_same rfl rfl)

end Flags

end Sys2Proof.Machine
end

section
/-! PROOFS. A cause is recorded, with FAULT attention, exactly at the events that make it present or report it, and a
recorded flag stays until it is cleared (R82, R84, R85, R88). -/

namespace Sys2Proof.Machine

/-- A timer is due when its duration has elapsed and the part is not held in reset (R171, R172). -/
theorem State.due_iff {s : State} {timer : Option Timer} :
    s.due timer = true ↔ s.resetHeld = false ∧ ∃ t ∈ timer, t.duration ≤ (s.cellTime - t.start).toNat := by
  cases timer with
  | none => simp [State.due]
  | some t =>
    simp only [State.due, State.reached, State.age, Bool.and_eq_true, Bool.not_eq_true', Option.mem_def, Option.some.injEq,
      exists_eq_left']
    exact and_congr_right fun _ => decide_eq_true_iff

/-! ### The events that record a cause -/

/-- The cause becomes present at the event, in a mode other than OFF. -/
def becameIn (s t : State) (arm : Arm) (k : Cause) : Prop :=
  (s.sup.get arm).present.get k = false ∧ (t.sup.get arm).present.get k = true ∧ (s.sup.get arm).mode k ≠ .off

/-- The event takes the mode of a present cause out of OFF. -/
def turnedOnIn (s t : State) (arm : Arm) (k : Cause) : Prop :=
  (s.sup.get arm).present.get k = true ∧ (s.sup.get arm).mode k = .off ∧ (t.sup.get arm).mode k ≠ .off

/-- The event records the cause. -/
def recordsIn (c : Instr) (s t : State) (arm : Arm) (k : Cause) : Prop :=
  becameIn s t arm k ∨ turnedOnIn s t arm k ∨ (k = .changeFault ∧ changeFaultOf c arm s)

theorem becameIn_iff {s t : State} {arm : Arm} {k : Cause} :
    becameIn s t arm k ↔ becamePresent (s.sup.get arm) (t.sup.get arm) k = true := becamePresent_iff.symm

/-- A cause is recorded at the events that record it, a recorded flag is old or recorded by the event, and FAULT attention
is raised for the arms of which the event records a cause. -/
structure Recording (c : Instr) (s t : State) : Prop where
  set : ∀ arm k, recordsIn c s t arm k → (t.sup.get arm).recorded.get k = true
  only : ∀ arm k, (t.sup.get arm).recorded.get k = true → (s.sup.get arm).recorded.get k = true ∨ recordsIn c s t arm k
  fault : ¬ attnOn .cell c → ∀ a b : Bool, (a = true ↔ ∃ k, recordsIn c s t .a k) → (b = true ↔ ∃ k, recordsIn c s t .b k) →
    t.attn.cell.fault = faultNamed b .b (faultNamed a .a s.attn.cell.fault)

/-- A command that keeps every setting and moves flags by what it brings to the causes. -/
structure FlagsOf (c : Instr) (s t : State) (reported : Arm → Bool) : Prop where
  settings : ∀ arm, (t.sup.get arm).settings = (s.sup.get arm).settings
  recorded : ∀ arm k, (t.sup.get arm).recorded.get k = ((s.sup.get arm).recorded.get k ||
    becamePresent (s.sup.get arm) (t.sup.get arm) k || (reported arm && decide (k = .changeFault)))
  fault : ¬ attnOn .cell c → t.attn.cell.fault = faultRaised (faultArms reported s t) s.attn.cell.fault
  reports : ∀ arm, reported arm = true ↔ changeFaultOf c arm s

section Flags
variable {c : Instr} {s t u : State} {reported : Arm → Bool}

theorem FlagsOf.mode (h : FlagsOf c s t reported) (arm : Arm) (k : Cause) :
    (t.sup.get arm).mode k = (s.sup.get arm).mode k := by rw [Supervisor.mode, h.settings, Supervisor.mode]

theorem FlagsOf.recordsIn_iff (h : FlagsOf c s t reported) (arm : Arm) (k : Cause) : recordsIn c s t arm k ↔
    (becamePresent (s.sup.get arm) (t.sup.get arm) k || (reported arm && decide (k = .changeFault))) = true := by
  have unturned : ¬ turnedOnIn s t arm k := fun ⟨_, off, on⟩ => on ((h.mode arm k).trans off)
  rw [recordsIn, becameIn_iff, ← h.reports]
  simp [unturned, and_comm]

theorem FlagsOf.recording (h : FlagsOf c s t reported) : Recording c s t where
  set arm k records := by
    have := (h.recordsIn_iff arm k).mp records
    rw [h.recorded, Bool.or_assoc, this, Bool.or_true]
  only arm k recorded := by
    rw [h.recorded, Bool.or_assoc, Bool.or_eq_true] at recorded
    exact recorded.imp_right (h.recordsIn_iff arm k).mpr
  fault hc a b ha hb := by
    have arms (arm : Arm) : faultArms reported s t arm = true ↔ ∃ k, recordsIn c s t arm k := by
      simp only [h.recordsIn_iff, Bool.or_eq_true, faultArms, someBecame_iff, exists_or, Bool.and_eq_true, decide_eq_true_eq]
      simp
    rw [h.fault hc, faultRaised, Bool.eq_iff_iff.mpr ((arms .a).trans ha.symm),
      Bool.eq_iff_iff.mpr ((arms .b).trans hb.symm)]

/-- What an operation brings to the causes, and operations that leave every flag after it. -/
theorem FlagsOf.of_causes {val : Arm → Cause → Bool} {ended : Arm → Bool} (hc : CausesMove val ended reported s u)
    (settings : ∀ arm, (t.sup.get arm).settings = (u.sup.get arm).settings)
    (present : ∀ arm, (t.sup.get arm).present = (u.sup.get arm).present)
    (recorded : ∀ arm, (t.sup.get arm).recorded = (u.sup.get arm).recorded)
    (fault : ¬ attnOn .cell c → t.attn.cell.fault = u.attn.cell.fault)
    (reports : ∀ arm, reported arm = true ↔ changeFaultOf c arm s) : FlagsOf c s t reported := by
  have became (arm : Arm) (k : Cause) : becamePresent (s.sup.get arm) (t.sup.get arm) k =
      becamePresent (s.sup.get arm) (u.sup.get arm) k := by rw [becamePresent, becamePresent, present]
  have arms : faultArms reported s t = faultArms reported s u := by
    funext arm
    rw [faultArms, faultArms, show someBecame (s.sup.get arm) (t.sup.get arm) = someBecame (s.sup.get arm) (u.sup.get arm)
      from by rw [Bool.eq_iff_iff, someBecame_iff, someBecame_iff]; simp only [became]]
  exact {
    settings := fun arm => (settings arm).trans (hc.sup arm).settings
    recorded := fun arm k => by rw [became, recorded]; exact (hc.sup arm).recorded k
    fault := fun hcell => by rw [fault hcell, hc.fault, arms]
    reports := reports }

theorem EventOf.flags {val : Arm → Cause → Bool} {trigger : Trigger} (h : EventOf c s t val trigger u) :
    FlagsOf c s t (faultReport trigger) := by
  obtain ⟨settings, present, recorded, -⟩ := conclude_flags s trigger u
  exact .of_causes h.causes (fun arm => by rw [h.sup]; exact settings arm) (fun arm => by rw [h.sup]; exact present arm)
    (fun arm => by rw [h.sup]; exact recorded arm) h.fault fun arm => by
      rw [faultReport, decide_eq_true_eq]; exact h.brings.changeFault arm

/-- The end of a frame whose request leaves every flag. -/
theorem FlagsOf.of_frame {access : Access} {l : Link} {act : State → Act} {finish : Reply → State → State × Reply}
    (hact : ∀ u, SameFlags u (act u).st) (hfinish : ∀ reply u, SameFlags u (finish reply u).1)
    (none : ∀ arm, ¬ changeFaultOf c arm s) : FlagsOf c s (handleFrame access l act finish s) noReport := by
  have reports (arm : Arm) : noReport arm = true ↔ changeFaultOf c arm s := by simp [none]
  cases ht : takesFrame l s with
  | false =>
    have kept : CausesMove (fun _ _ => false) noReport noReport s s := .of_same _ _ rfl rfl
    rw [handleFrame_passed ht]
    exact .of_causes kept (fun _ => rfl) (fun _ => rfl) (fun _ => rfl) (fun _ => rfl) reports
  | true =>
    have accepted : CausesMove (fun _ _ => false) noReport noReport s (acceptFrame l s) := .acceptFrame l fun _ => rfl
    have acted : SameFlags (acceptFrame l s) (frameAct access l act s).st := by
      rw [frameAct]; split
      · exact hact _
      · exact .refl _
    obtain ⟨settings, present, recorded, fault⟩ := (acted.trans (conclude_flags s _ _)).trans (hfinish _ _)
    rw [handleFrame_taken ht]
    exact .of_causes accepted settings present recorded (fun _ => fault) reports

/-- ARM_ENABLE and ARM_DISABLE leave every flag but LINK (R87, R91, R92). -/
theorem FlagsOf.of_control {r : Request} {act : Arm → State → Act} (hact : ∀ arm u, SameFlags u (act arm u).st)
    (none : ∀ arm, ¬ changeFaultOf c arm s) : FlagsOf c s (handleControl r act s) noReport := by
  rw [handleControl]
  split
  · exact .of_frame (fun u => .refl u) (fun _ u => .refl u) none
  · exact .of_frame (hact _) (fun _ u => .refl u) none

theorem exec_flags_of_control (h : exec c s = .next t) (ho : ordinary c = false)
    (hr : ∀ r, c ≠ .armReset r ∧ c ≠ .faultClear r ∧ c ≠ .armSet r) (hc : c ≠ .resetInputAsserted) :
    FlagsOf c s t noReport := by
  cases c <;> cases ho
  case resetInputAsserted => exact absurd rfl hc
  case armReset r => exact absurd rfl (hr r).1
  case faultClear r => exact absurd rfl (hr r).2.1
  case armSet r => exact absurd rfl (hr r).2.2
  case armEnable r => cases h; exact .of_control (armEnable_flags r.link) fun arm => by simp [changeFaultOf]
  case armDisable r => cases h; exact .of_control (armDisable_flags r.link) fun arm => by simp [changeFaultOf]

/-- Every command but ARM_RESET, FAULT_CLEAR, ARM_SET and the reset input keeps every setting and every recorded flag. -/
theorem exec_flags (h : exec c s = .next t) (hr : ∀ r, c ≠ .armReset r ∧ c ≠ .faultClear r ∧ c ≠ .armSet r)
    (hc : c ≠ .resetInputAsserted) : ∃ reported, FlagsOf c s t reported := by
  cases ho : ordinary c with
  | true =>
    obtain ⟨_, _, _, event⟩ := exec_event h ho
    exact ⟨_, event.flags⟩
  | false => exact ⟨_, exec_flags_of_control h ho hr hc⟩

end Flags

/-! ### ARM_SET and FAULT_CLEAR -/

section Settings
variable {c : Instr} {s : State}

theorem passOver_recording (l : Link) (s : State) (none : ∀ arm, ¬ changeFaultOf c arm s) :
    Recording c s (passOver l s) :=
  (FlagsOf.of_causes (c := c) (t := passOver l s)
    (CausesMove.of_same (fun _ _ => false) noReport (u := s) (s := s) rfl rfl) (fun _ => rfl) (fun _ => rfl) (fun _ => rfl)
    (fun _ => rfl) fun arm => by simp [none]).recording

/-- A request of the Cell link: passed over or denied it records nothing. -/
theorem recording_of_cellLink {r : Request} {act : State → Act} (none : ∀ arm, ¬ changeFaultOf c arm s)
    (taken : Recording c s (writeReply .cell (act (acceptFrame .cell s)).reply
      (conclude s (act (acceptFrame .cell s)).trigger (act (acceptFrame .cell s)).st))) :
    Recording c s (handleRequest .cellLink r.link act s) := by
  have denied (hl : r.link ≠ .cell) : Recording c s (handleRequest .cellLink r.link act s) := by
    have same : handleRequest .cellLink r.link act s = handleRequest .cellLink r.link (refuse .notPermitted) s := by
      have forbidden : Access.cellLink.permits r.link = false := by simp [Access.permits, hl]
      simp [handleRequest, handleFrame, forbidden]
    rw [same]
    exact (FlagsOf.of_frame (fun u => .refl u) (fun _ u => .refl u) none).recording
  by_cases hl : r.link = .cell
  · rw [hl]
    cases ht : takesFrame .cell s with
    | false => rw [handleRequest, handleFrame_passed ht]; exact passOver_recording _ s none
    | true => rw [handleRequest_permitted ht rfl]; exact taken
  · exact denied hl

/-- A command that replaces the settings of one arm and records the causes that leave OFF while present. -/
theorem Recording.of_setMoves {t u : State} {arm : Arm} {w : Supervisor} {on : Bool} (none : ∀ arm, ¬ changeFaultOf c arm s)
    (hu : u.sup = s.sup.set arm w) (hfault : u.attn.cell.fault = faultNamed on arm s.attn.cell.fault) (ht : SameFlags u t)
    (moves : SetMoves (s.sup.get arm) w)
    (turns : on = true ↔ ∃ k, turnsOn ((s.sup.get arm).mode k) (w.mode k) ((s.sup.get arm).present.get k) = true) :
    Recording c s t := by
  have present (x : Arm) : (t.sup.get x).present = (s.sup.get x).present := by
    rw [ht.present, hu]
    by_cases hx : x = arm
    · subst hx; simp [moves.present]
    · simp [hx]
  have mode (x : Arm) (k : Cause) : (t.sup.get x).mode k = if x = arm then w.mode k else (s.sup.get x).mode k := by
    rw [Supervisor.mode, ht.settings, hu]
    by_cases hx : x = arm
    · subst hx; simp [Supervisor.mode]
    · simp [hx, Supervisor.mode]
  have records (x : Arm) (k : Cause) : recordsIn c s t x k ↔
      x = arm ∧ turnsOn ((s.sup.get arm).mode k) (w.mode k) ((s.sup.get arm).present.get k) = true := by
    have became : ¬ becameIn s t x k := fun ⟨absent, now, _⟩ => by
      rw [present, absent] at now
      exact Bool.false_ne_true now
    simp only [recordsIn, became, none, and_false, or_false, false_or, turnedOnIn, mode, turnsOn, Bool.and_eq_true,
      decide_eq_true_eq]
    by_cases hx : x = arm
    · subst hx; simp only [if_true, true_and]; tauto
    · simp only [hx, if_false, false_and, iff_false]; tauto
  have recorded (x : Arm) (k : Cause) : (t.sup.get x).recorded.get k =
      if x = arm then w.recorded.get k else (s.sup.get x).recorded.get k := by
    rw [ht.recorded, hu]
    by_cases hx : x = arm <;> simp [hx]
  constructor
  · intro x k hrec
    obtain ⟨rfl, turned⟩ := (records x k).mp hrec
    rw [recorded, if_pos rfl]
    simp only [turnsOn, Bool.and_eq_true, decide_eq_true_eq] at turned
    obtain ⟨⟨off, on⟩, held⟩ := turned
    obtain after | same := moves.recorded k
    · rw [after, recordedAfter, if_neg on]; simp [off, held]
    · rw [same] at on; exact absurd off on
  · intro x k hrec
    rw [recorded] at hrec
    split at hrec
    · next hx =>
      subst hx
      obtain after | same := moves.recorded k
      · rw [after, recordedAfter] at hrec
        split at hrec
        · exact .inl (Bool.and_eq_true_iff.mp hrec).1
        · next on =>
          rw [Bool.or_eq_true, Bool.and_eq_true, decide_eq_true_eq] at hrec
          exact hrec.imp_right fun ⟨off, held⟩ => (records x k).mpr ⟨rfl, by simp [turnsOn, off, on, held]⟩
      · exact .inl (same ▸ hrec)
    · exact .inl hrec
  · intro _ a b ha hb
    have some (x : Arm) : (∃ k, recordsIn c s t x k) ↔ x = arm ∧ on = true := by
      rw [turns, ← exists_and_left]
      exact exists_congr fun k => records x k
    rw [some] at ha hb
    rw [ht.fault, hfault]
    cases arm with
    | a =>
      have hb : b = false := by simpa using hb
      have ha : a = on := by rw [Bool.eq_iff_iff, ha]; simp
      rw [ha, hb]; rfl
    | b =>
      have ha : a = false := by simpa using ha
      have hb : b = on := by rw [Bool.eq_iff_iff, hb]; simp
      rw [ha, hb]; rfl

theorem armSet_recording (r : Request) (s : State) :
    Recording (.armSet r) s (handleRequest .cellLink r.link (armSet r) s) := by
  have none (arm : Arm) : ¬ changeFaultOf (.armSet r) arm s := by simp [changeFaultOf]
  refine recording_of_cellLink none ?_
  obtain ⟨arm, w, on, outcome, moves, turns⟩ := armSet_outcome r (acceptFrame .cell s)
  refine .of_setMoves (u := (armSet r (acceptFrame .cell s)).st) (arm := arm) (w := w) (on := on) none ?_ ?_ ?_ moves turns
  · rw [outcome, faultIf_sup]; rfl
  · rw [outcome, faultIf_fault]; rfl
  · exact (conclude_flags s _ _).trans (.of_same rfl rfl)

/-- A taken or refused FAULT_CLEAR clears recorded flags and moves nothing else (R94). -/
theorem faultClear_outcome (r : Request) (s : State) : ∃ arm recorded,
    (faultClear r s).st = s.setSup arm { s.sup.get arm with recorded := recorded } ∧
      (∀ k, recorded.get k = true → (s.sup.get arm).recorded.get k = true) ∧
      ∀ k, (s.sup.get arm).present.get k = true → (s.sup.get arm).recorded.get k = true → recorded.get k = true := by
  have kept (arm : Arm) : ∃ arm recorded, s = s.setSup arm { s.sup.get arm with recorded := recorded } ∧
      (∀ k, recorded.get k = true → (s.sup.get arm).recorded.get k = true) ∧
      ∀ k, (s.sup.get arm).present.get k = true → (s.sup.get arm).recorded.get k = true → recorded.get k = true :=
    ⟨arm, (s.sup.get arm).recorded, (State.setSup_get s arm).symm, fun _ => id, fun _ _ => id⟩
  simp only [faultClear]
  split; · exact kept .a
  next arm _ =>
  split
  · exact kept arm
  · refine ⟨arm, clearedFlags r.d0 (s.sup.get arm), rfl, fun k h => ?_, fun k present recorded => ?_⟩
    · rw [clearedFlags_get, Bool.and_eq_true] at h
      exact h.1
    · simp [clearedFlags_get, present, recorded]

theorem faultClear_recording (r : Request) (s : State) :
    Recording (.faultClear r) s (handleRequest .cellLink r.link (faultClear r) s) := by
  have unreported (arm : Arm) : ¬ changeFaultOf (.faultClear r) arm s := by simp [changeFaultOf]
  refine recording_of_cellLink unreported ?_
  obtain ⟨arm, recorded, outcome, cleared, -⟩ := faultClear_outcome r (acceptFrame .cell s)
  have flags := conclude_flags s (faultClear r (acceptFrame .cell s)).trigger (faultClear r (acceptFrame .cell s)).st
  rw [outcome] at flags ⊢
  generalize (faultClear r (acceptFrame .cell s)).trigger = trigger at flags ⊢
  generalize conclude s trigger ((acceptFrame .cell s).setSup arm
    { (acceptFrame .cell s).sup.get arm with recorded := recorded }) = t at flags ⊢
  have same (x : Arm) : (t.sup.get x).present = (s.sup.get x).present ∧ (t.sup.get x).settings = (s.sup.get x).settings ∧
      ∀ k, (t.sup.get x).recorded.get k = true → (s.sup.get x).recorded.get k = true := by
    rw [flags.present, flags.settings, flags.recorded, State.setSup_sup]
    by_cases hx : x = arm
    · subst hx; rw [PerArm.get_set_same]; exact ⟨rfl, rfl, cleared⟩
    · rw [PerArm.get_set_other _ hx]; exact ⟨rfl, rfl, fun _ => id⟩
  have records (x : Arm) (k : Cause) :
      ¬ recordsIn (.faultClear r) s (writeReply .cell (faultClear r (acceptFrame .cell s)).reply t) x k := by
    obtain ⟨present, settings, -⟩ := same x
    rintro (⟨absent, now, -⟩ | ⟨-, off, on⟩ | ⟨-, reported⟩)
    · exact Bool.false_ne_true (absent.symm.trans ((congrArg (PerCause.get · k) present).symm.trans now))
    · refine on (Eq.trans ?_ off)
      exact congrArg (fun x => modeOf x.modes k) settings
    · exact unreported x reported
  exact ⟨fun x k h => absurd h (records x k), fun x k h => .inl ((same x).2.2 k h), fun _ a b ha hb => by
    have ha : a = false := by simpa [records] using ha
    have hb : b = false := by simpa [records] using hb
    rw [ha, hb]
    exact flags.fault⟩

end Settings

/-! ### The statement -/

section Statement
variable {c : Instr} {s t : State}

theorem changeFaultOf_iff {arm : Arm} : changeFaultOf c arm s ↔
    (c = .changeTimerExpiry arm ∧ s.resetHeld = false ∧
      ∃ u ∈ (s.rack.changes.get arm).timer, u.duration ≤ (s.cellTime - u.start).toNat) ∨
    ∃ r, c = .changeClose r ∧ onArm arm r s ∧ (s.rack.changes.get arm).phase = .finish ∧ r.d0.toNat ≤ 65535 ∧
      r.d0.toNat ≠ (s.rack.changes.get arm).takeId.toNat := by
  rw [changeFaultOf, State.due_iff]

/-- ATTN_DONE on the Cell link brings nothing to the causes. -/
theorem attnDone_present {r : Request} (h : exec (.attnDone r) s = .next t) (hr : r.link = .cell) (arm : Arm) :
    (t.sup.get arm).present = (s.sup.get arm).present := by
  have ends : t = handleRequest .allLinks r.link (attnDone r.link) s := by cases h; rfl
  rw [hr] at ends
  subst ends
  cases ht : takesFrame .cell s with
  | false => rw [handleRequest, handleFrame_passed ht]; rfl
  | true =>
    have done : (attnDone .cell (acceptFrame .cell s)).st.sup = (acceptFrame .cell s).sup :=
      sup_of_unchangedBut (attnDone_unchangedBut .cell _) (by decide)
    rw [handleRequest_permitted ht rfl]
    exact ((conclude_flags s _ _).present arm).trans (congrArg (fun u => (u.get arm).present) done)

/-- FAULT attention names every arm for which it is raised, where its source is enabled. -/
theorem faultRaised_names {on : Arm → Bool} {arm : Arm} {src : Source (BitVec 2)} (h : on arm = true)
    (enable : src.enable = true) :
    (faultRaised on src).pending = true ∧ (faultRaised on src).detail.getLsbD (armIndex arm) = true := by
  cases arm with
  | a => cases hb : on .b <;> simp [faultRaised, faultNamed, h, hb, Source.raise, enable, addMark, armIndex]
  | b => cases ha : on .a <;> simp [faultRaised, faultNamed, h, ha, Source.raise, enable, addMark, armIndex]

/-- A cause that becomes present in a mode other than OFF is named in FAULT attention (R84, R85). -/
theorem fault_of_became (h : exec c s = .next t) {reported : Arm → Bool} (flags : FlagsOf c s t reported)
    (hc : ∀ r, c ≠ .attnTake r ∧ c ≠ .attnEnable r) {arm : Arm} {k : Cause} (became : becameIn s t arm k)
    (enable : s.attn.cell.fault.enable = true) :
    t.attn.cell.fault.pending = true ∧ t.attn.cell.fault.detail.getLsbD (armIndex arm) = true := by
  have quiet : ¬ attnOn .cell c := by
    rintro ⟨r, hr, rfl | rfl | rfl⟩
    · exact (hc r).1 rfl
    · obtain ⟨absent, now, -⟩ := became
      rw [attnDone_present h hr, absent] at now
      exact Bool.false_ne_true now
    · exact (hc r).2 rfl
  rw [flags.fault quiet]
  refine faultRaised_names ?_ enable
  rw [faultArms, Bool.or_eq_true, someBecame_iff]
  exact .inl ⟨k, becameIn_iff.mp became⟩

/-- Every command but ARM_RESET and the reset input records as R82, R84, R85 and R88 say. -/
theorem exec_recording (h : exec c s = .next t) (hr : ∀ r, c ≠ .armReset r) (hc : c ≠ .resetInputAsserted) :
    Recording c s t := by
  by_cases hclear : ∃ r, c = .faultClear r
  · obtain ⟨r, rfl⟩ := hclear
    cases h
    exact faultClear_recording r s
  by_cases hset : ∃ r, c = .armSet r
  · obtain ⟨r, rfl⟩ := hset
    cases h
    exact armSet_recording r s
  obtain ⟨_, flags⟩ := exec_flags h (fun r => ⟨hr r, fun e => hclear ⟨r, e⟩, fun e => hset ⟨r, e⟩⟩) hc
  exact flags.recording

end Statement

/-- Settles O33, with what each command brings to the causes (`exec_flags`) and the records that follow from it
(`exec_recording`). -/
theorem causesAreRecordedAndKept : Obligations.CausesAreRecordedAndKept := by
  constructor
  · intro c s t arm k h hr hc
    obtain ⟨reported, flags⟩ := exec_flags h hr hc
    refine ⟨flags.mode arm k, ?_, ?_, fun became hq enable => fault_of_became h flags hq became enable⟩
    · rintro (recorded | became)
      · rw [flags.recorded, recorded, Bool.true_or, Bool.true_or]
      · exact flags.recording.set arm k (.inl became)
    · intro hk recorded
      rw [flags.recorded] at recorded
      simp only [hk, decide_false, Bool.and_false, Bool.or_false, Bool.or_eq_true] at recorded
      exact recorded.imp_right becameIn_iff.mpr
  · intro c s t h hr hc
    have recording := exec_recording h hr hc
    simp only [← changeFaultOf_iff]
    refine ⟨recording.set, recording.only, fun hq => recording.fault ?_⟩
    rintro ⟨r, hl, rfl | rfl | rfl⟩
    · exact (hq r hl).1 rfl
    · exact (hq r hl).2.1 rfl
    · exact (hq r hl).2.2 rfl

end Sys2Proof.Machine
end

section
/-! PROOFS. What the judgement at the end of an event leaves of each supervisor, and that every step keeps both
supervisors sound (R84, R85, R89, R96, R99). -/

namespace Sys2Proof.Machine

/-! ### The supervisor after the judgement -/

/-- A supervisor moved to a supervision state: its flags and settings stay, the permit command follows the state, and
the report timer is restarted in STARTING alone (R89, R99). -/
structure MovedTo (st : SupState) (v x : Supervisor) : Prop where
  state : x.state = st
  settings : x.settings = v.settings
  present : x.present = v.present
  recorded : x.recorded = v.recorded
  command : v.command = decide (v.state = .running) → x.command = decide (st = .running)
  timer : st ≠ .starting → x.reportTimer = v.reportTimer

theorem MovedTo.refl (v : Supervisor) : MovedTo v.state v v := ⟨rfl, rfl, rfl, rfl, id, fun _ => rfl⟩

theorem enterState_moved (arm : Arm) (st : SupState) (s : State) :
    MovedTo st (s.sup.get arm) ((enterState arm st s).sup.get arm) := by
  rw [enterState_spec]
  split
  · next same => constructor <;> simp [same]
  · constructor <;> simp

theorem restarted_moved {arm : Arm} {v : Supervisor} {s : State} (h : MovedTo .starting v (s.sup.get arm)) :
    MovedTo .starting v ((restartReport arm s).sup.get arm) := by
  obtain ⟨state, settings, present, recorded, command, -⟩ := h
  have restarted : (restartReport arm s).sup.get arm =
      { s.sup.get arm with reportTimer := some (s.timer (timeoutMs (s.sup.get arm).settings.timeoutCode)) } := by
    simp [restartReport]
  rw [restarted]
  exact ⟨state, settings, present, recorded, command, fun no => absurd rfl no⟩

/-- An arm is left as the event leaves it, where the event brings nothing to its judgement, or moved to the state of
Table 5.6. -/
theorem conclude_sup_cases (s0 : State) (t : Trigger) (s : State) (arm : Arm) :
    ((s.sup.get arm).present = (s0.sup.get arm).present ∧ t.arm? ≠ some arm ∧
      (conclude s0 t s).sup.get arm = s.sup.get arm) ∨
    MovedTo (stateAfter (s0.sup.get arm) (s.sup.get arm) t arm) (s.sup.get arm) ((conclude s0 t s).sup.get arm) := by
  rw [conclude_sup, judgeArm]
  dsimp only
  split
  · next unjudged => exact .inl ⟨unjudged.1, unjudged.2, rfl⟩
  · refine .inr ?_
    split
    · next stays => rw [stays]; exact .refl _
    · split
      · next starting => rw [starting]; exact restarted_moved (enterState_moved arm .starting s)
      · exact enterState_moved arm _ s

/-! ### Causes in a mode -/

theorem recordedIn_iff {m : Mode} {v : Supervisor} :
    recordedIn m v = true ↔ ∃ k, v.recorded.get k = true ∧ v.mode k = m := by
  simp [recordedIn]

theorem presentIn_iff {m : Mode} {v : Supervisor} :
    presentIn m v = true ↔ ∃ k, v.present.get k = true ∧ v.mode k = m := by
  simp [presentIn]

theorem latchedNow_iff {before v : Supervisor} : latchedNow before v = true ↔
    ∃ k, v.present.get k = true ∧ before.present.get k = false ∧ v.mode k = .latched := by
  simp [latchedNow, and_assoc]

theorem latchedNow_of_present {before v : Supervisor} (h : v.present = before.present) : latchedNow before v = false := by
  rw [← Bool.not_eq_true, latchedNow_iff]
  rintro ⟨k, now, absent, -⟩
  rw [h, absent] at now
  exact Bool.false_ne_true now

theorem presentIn_congr {v w : Supervisor} (hpresent : w.present = v.present) (hset : w.settings = v.settings) (m : Mode) :
    presentIn m w = presentIn m v := by
  have mode : w.mode = v.mode := by funext k; rw [Supervisor.mode, hset, Supervisor.mode]
  rw [presentIn, presentIn, hpresent, mode]

theorem recordedIn_congr {v w : Supervisor} (hrecorded : w.recorded = v.recorded) (hset : w.settings = v.settings)
    (m : Mode) : recordedIn m w = recordedIn m v := by
  have mode : w.mode = v.mode := by funext k; rw [Supervisor.mode, hset, Supervisor.mode]
  rw [recordedIn, recordedIn, hrecorded, mode]

/-! ### Soundness through the judgement -/

/-- The flags of a supervisor agree with its modes (R84, R85). -/
structure FlagsSound (v : Supervisor) : Prop where
  off : ∀ k, v.mode k = .off → v.recorded.get k = false
  kept : ∀ k, v.present.get k = true → v.mode k ≠ .off → v.recorded.get k = true

theorem SupervisorSound.flags {v : Supervisor} (h : SupervisorSound v) : FlagsSound v :=
  ⟨fun k => h.off k (mem_allCauses k), fun k => h.kept k (mem_allCauses k)⟩

/-- What a supervisor `v` must meet for its judgement, after an event that it began as `before`, to leave it sound. -/
structure Judgeable (arm : Arm) (t : Trigger) (before v : Supervisor) : Prop where
  permit : v.command = decide (v.state = .running)
  timer : v.state = .disabled → v.reportTimer = none
  flags : FlagsSound v
  latched : recordedIn .latched v = true →
    v.state = .stopped ∨ v.state = .disabled ∨ latchedNow before v = true ∨ t = .changeFault arm
  running : v.present = before.present → v.state = .running → presentIn .auto v = false
  held : v.present = before.present → v.state = .held → presentIn .auto v = true

section Judged
variable {arm : Arm} {t : Trigger} {before v x : Supervisor}

/-- An arm that nothing brings to its judgement is sound as it stands. -/
theorem Judgeable.sound_of_unjudged (h : Judgeable arm t before v) (hp : v.present = before.present)
    (ht : t.arm? ≠ some arm) : SupervisorSound v where
  permit := h.permit
  timer := h.timer
  off k _ := h.flags.off k
  kept k _ := h.flags.kept k
  latched recorded := by
    obtain stopped | disabled | now | fault := h.latched recorded
    · exact .inl stopped
    · exact .inr disabled
    · rw [latchedNow_of_present hp] at now
      exact absurd now Bool.false_ne_true
    · exact absurd (congrArg Trigger.arm? fault) ht
  running := h.running hp
  held := h.held hp

/-- The event brings a LATCHED cause. -/
def latchedBy (before v : Supervisor) (t : Trigger) (arm : Arm) : Bool :=
  latchedNow before v || decide (t = .changeFault arm)

/-- The state between RUNNING and HELD follows the AUTO causes present. -/
def runOrHold (v : Supervisor) : SupState := if presentIn .auto v then .held else .running

/-- What Table 5.6 gives an arm that is not DISABLED or STOPPED. -/
theorem stateAfter_active (h : v.state ≠ .disabled ∧ v.state ≠ .stopped) : stateAfter before v t arm =
    if latchedBy before v t arm then .stopped
    else if v.state = .starting then
      if t = .position arm ∧ ¬ presentIn .latched v ∧ ¬ presentIn .auto v then .running else .starting
    else runOrHold v := by
  rw [stateAfter]
  obtain ⟨off, stopped⟩ := h
  cases hv : v.state
  case disabled => exact absurd hv off
  case stopped => exact absurd hv stopped
  all_goals rfl

theorem stateAfter_of_disabled (h : v.state = .disabled) : stateAfter before v t arm = .disabled := by
  rw [stateAfter, h]

theorem stateAfter_of_stopped (h : v.state = .stopped) : stateAfter before v t arm =
    if t = .faultClear arm ∧ ¬ recordedIn .latched v then .starting else .stopped := by
  rw [stateAfter, h]

theorem runOrHold_ne {st : SupState} (h : st ≠ .held ∧ st ≠ .running) : runOrHold v ≠ st := by
  rw [runOrHold]
  split
  · exact h.1.symm
  · exact h.2.symm

/-- No event but ARM_DISABLE and ARM_RESET takes an arm to DISABLED (Table 5.6). -/
theorem stateAfter_ne_disabled (h : v.state ≠ .disabled) : stateAfter before v t arm ≠ .disabled := by
  by_cases hs : v.state = .stopped
  · rw [stateAfter_of_stopped hs]; split <;> simp
  · rw [stateAfter_active ⟨h, hs⟩]
    split; · simp
    split
    · split <;> simp
    · exact runOrHold_ne (by simp)

/-- An arm in RUNNING after its judgement has no AUTO cause present. -/
theorem auto_of_stateAfter_running (h : stateAfter before v t arm = .running) : presentIn .auto v = false := by
  by_cases hd : v.state = .disabled
  · rw [stateAfter_of_disabled hd] at h; cases h
  by_cases hs : v.state = .stopped
  · rw [stateAfter_of_stopped hs] at h; split at h <;> cases h
  rw [stateAfter_active ⟨hd, hs⟩] at h
  split at h; · cases h
  split at h
  · split at h
    · next reported => exact Bool.not_eq_true _ ▸ reported.2.2
    · cases h
  · rw [runOrHold] at h
    split at h
    · cases h
    · next none => exact Bool.not_eq_true _ ▸ none

/-- An arm in HELD after its judgement has an AUTO cause present. -/
theorem auto_of_stateAfter_held (h : stateAfter before v t arm = .held) : presentIn .auto v = true := by
  by_cases hd : v.state = .disabled
  · rw [stateAfter_of_disabled hd] at h; cases h
  by_cases hs : v.state = .stopped
  · rw [stateAfter_of_stopped hs] at h; split at h <;> cases h
  rw [stateAfter_active ⟨hd, hs⟩] at h
  split at h; · cases h
  split at h
  · split at h <;> cases h
  · rw [runOrHold] at h
    split at h
    · next held => exact held
    · cases h

/-- A recorded LATCHED cause leaves an arm STOPPED or DISABLED. -/
theorem Judgeable.stateAfter_latched (h : Judgeable arm t before v) (recorded : recordedIn .latched v = true) :
    stateAfter before v t arm = .stopped ∨ stateAfter before v t arm = .disabled := by
  by_cases hd : v.state = .disabled
  · exact .inr (stateAfter_of_disabled hd)
  by_cases hs : v.state = .stopped
  · left; rw [stateAfter_of_stopped hs, if_neg (fun clears => clears.2 recorded)]
  · left
    have brought : latchedBy before v t arm = true := by
      have := h.latched recorded
      simp only [hs, hd, false_or] at this
      simpa [latchedBy] using this
    rw [stateAfter_active ⟨hd, hs⟩, if_pos brought]

theorem MovedTo.mode {st : SupState} (h : MovedTo st v x) (k : Cause) : x.mode k = v.mode k := by
  rw [Supervisor.mode, h.settings, Supervisor.mode]

/-- The judgement by Table 5.6 leaves an arm sound. -/
theorem Judgeable.sound_of_moved (h : Judgeable arm t before v) (m : MovedTo (stateAfter before v t arm) v x) :
    SupervisorSound x where
  permit := (m.command h.permit).trans (by rw [m.state])
  timer disabled := by
    have was : v.state = .disabled := by
      by_contra no
      exact stateAfter_ne_disabled no (m.state.symm.trans disabled)
    rw [m.timer (by rw [stateAfter_of_disabled was]; simp)]
    exact h.timer was
  off k _ off := by rw [m.recorded]; exact h.flags.off k (m.mode k ▸ off)
  kept k _ present on := by rw [m.recorded]; exact h.flags.kept k (m.present ▸ present) (m.mode k ▸ on)
  latched recorded := by
    rw [recordedIn_congr m.recorded m.settings] at recorded
    rw [m.state]
    exact h.stateAfter_latched recorded
  running running := by
    rw [presentIn_congr m.present m.settings]
    exact auto_of_stateAfter_running (m.state.symm.trans running)
  held held := by
    rw [presentIn_congr m.present m.settings]
    exact auto_of_stateAfter_held (m.state.symm.trans held)

/-- The judgement at the end of an event leaves an arm sound (R89). -/
theorem Judgeable.sound {s0 s : State} (h : Judgeable arm t (s0.sup.get arm) (s.sup.get arm)) :
    SupervisorSound ((conclude s0 t s).sup.get arm) := by
  obtain ⟨present, untriggered, kept⟩ | moved := conclude_sup_cases s0 t s arm
  · rw [kept]; exact h.sound_of_unjudged present untriggered
  · exact h.sound_of_moved moved

/-! ### What leads to a judgement -/

theorem Judgeable.of_disabled (disabled : v.state = .disabled) (command : v.command = false)
    (timer : v.reportTimer = none) (flags : FlagsSound v) : Judgeable arm t before v where
  permit := by rw [command, disabled]; rfl
  timer _ := timer
  flags := flags
  latched _ := .inr (.inl disabled)
  running _ h := by rw [disabled] at h; cases h
  held _ h := by rw [disabled] at h; cases h

/-- An event that moves causes keeps the flags in agreement with the modes (R84, R85). -/
theorem SupMoves.flagsSound {val : Cause → Bool} {ended reported : Bool} (moves : SupMoves val ended reported before v)
    (flags : FlagsSound before) : FlagsSound v where
  off k off := by
    have was : before.mode k = .off := (moves.mode k).symm.trans off
    have other : k ≠ .changeFault := by rintro rfl; cases off
    rw [moves.recorded, flags.off k was]
    simp [becamePresent, was, other]
  kept k present on := by
    have was : before.mode k ≠ .off := fun h => on ((moves.mode k).trans h)
    rw [moves.recorded]
    cases hk : before.present.get k with
    | true => rw [flags.kept k hk was]; rfl
    | false => simp [becamePresent, hk, present, was]

/-- An event that moves causes from a sound supervisor. -/
theorem SupMoves.judgeable {val : Cause → Bool} {ended reported : Bool} (moves : SupMoves val ended reported before v)
    (sound : SupervisorSound before) (fault : reported = true → t = .changeFault arm) : Judgeable arm t before v where
  permit := by rw [moves.command, moves.state]; exact sound.permit
  timer disabled := by
    rw [moves.state] at disabled
    exact moves.timer disabled (sound.timer disabled)
  flags := moves.flagsSound sound.flags
  latched recorded := by
    obtain ⟨k, set, mode⟩ := recordedIn_iff.mp recorded
    rw [moves.recorded, Bool.or_eq_true, Bool.or_eq_true] at set
    obtain (old | became) | rep := set
    · rw [moves.state, ← or_assoc]
      exact .inl (sound.latched (recordedIn_iff.mpr ⟨k, old, (moves.mode k).symm.trans mode⟩))
    · obtain ⟨absent, now, -⟩ := becamePresent_iff.mp became
      exact .inr (.inr (.inl (latchedNow_iff.mpr ⟨k, now, absent, mode⟩)))
    · exact .inr (.inr (.inr (fault (Bool.and_eq_true_iff.mp rep).1)))
  running same running := by
    rw [presentIn_congr same moves.settings]
    exact sound.running (moves.state.symm.trans running)
  held same held := by
    rw [presentIn_congr same moves.settings]
    exact sound.held (moves.state.symm.trans held)

end Judged

end Sys2Proof.Machine
end

section
/-! PROOFS. What ARM_ENABLE, ARM_DISABLE and ARM_RESET leave of the supervisor of their arm (R90 to R93). -/

namespace Sys2Proof.Machine

/-! ### The arm that a request acts for -/

/-- The port takes the frame of a request that acts for the arm: that of its own link, or that of the Cell link with the
arm in its selector (R90). -/
def controls (arm : Arm) (r : Request) (s : State) : Prop :=
  onArm arm r s ∨ (onCell r s ∧ r.sel.toNat = armIndex arm)

section Controls
variable {arm : Arm} {r : Request} {s : State}

theorem controls.takes (h : controls arm r s) : takesFrame r.link s = true := by
  obtain ⟨hl, ht⟩ | ⟨⟨hl, ht⟩, -⟩ := h <;> rw [hl] <;> exact ht

theorem controls.controlled (h : controls arm r s) : controlledArm r = some arm := by
  obtain ⟨hl, -⟩ | ⟨⟨hl, -⟩, hsel⟩ := h
  · rw [controlledArm, hl, armOf_linkOf]
  · rw [controlledArm, hl]
    exact armOfSel_eq_some hsel.symm

theorem armOfSel_cases (sel : Byte) : armOfSel sel = none ∨ ∃ arm, armOfSel sel = some arm ∧ sel.toNat = armIndex arm := by
  rw [armOfSel]
  split
  · next h => exact .inr ⟨.a, rfl, h⟩
  split
  · next h => exact .inr ⟨.b, rfl, h⟩
  · exact .inl rfl

theorem handleControl_taken (h : controls arm r s) (act : Arm → State → Act) :
    handleControl r act s =
      let done := act arm (acceptFrame r.link s)
      let e := conclude s done.trigger done.st
      writeReply r.link (supReply done.reply.code arm e) e := by
  rw [handleControl, h.controlled]
  exact handleFrame_permitted h.takes (by cases r.link <;> rfl)

/-- A request of R90 is passed over or refused for its selector, or it acts for an arm. -/
theorem handleControl_cases (r : Request) (s : State) :
    (∀ act : Arm → State → Act, handleControl r act s = handleRequest .allLinks r.link (refuse .badSelector) s) ∨
    ∃ arm, controls arm r s := by
  cases ht : takesFrame r.link s with
  | false =>
    refine .inl fun act => ?_
    rw [handleControl]
    split
    · rfl
    · rw [handleRequest, handleFrame_passed ht, handleFrame_passed ht]
  | true =>
    cases hl : r.link with
    | cell =>
      rw [hl] at ht
      obtain none | ⟨arm, -, sel⟩ := armOfSel_cases r.sel
      · refine .inl fun act => ?_
        have : controlledArm r = Option.none := by rw [controlledArm, hl]; exact none
        rw [handleControl, this, hl]
      · exact .inr ⟨arm, .inr ⟨⟨hl, ht⟩, sel⟩⟩
    | armA => exact .inr ⟨.a, .inl ⟨hl, by rw [hl] at ht; exact ht⟩⟩
    | armB => exact .inr ⟨.b, .inl ⟨hl, by rw [hl] at ht; exact ht⟩⟩

/-! ### The frame that carries the request -/

/-- The frame of a request that acts for an arm leaves the supervisor of the other as it is. -/
theorem controls.accept_other (h : controls arm r s) :
    (acceptFrame r.link s).sup.get (otherArm arm) = s.sup.get (otherArm arm) := by
  obtain ⟨hl, -⟩ | ⟨⟨hl, -⟩, -⟩ := h
  · rw [hl]; exact acceptFrame_sup_other arm s
  · rw [hl]; rfl

/-- A frame's acceptance moves the supervisor of its arm as an event that brings no cause does (R87, R97). -/
theorem acceptFrame_moves (l : Link) (s : State) (arm : Arm) :
    SupMoves (fun _ => false) false false (s.sup.get arm) ((acceptFrame l s).sup.get arm) :=
  (CausesMove.acceptFrame (val := fun _ _ => false) (ended := fun _ => false) l fun _ => rfl).sup arm

theorem acceptFrame_recorded (l : Link) (s : State) (arm : Arm) :
    ((acceptFrame l s).sup.get arm).recorded = (s.sup.get arm).recorded := by
  cases l with
  | cell => rfl
  | armA => rw [show Link.armA = linkOf .a from rfl, acceptFrame_arm]; cases arm <;> rfl
  | armB => rw [show Link.armB = linkOf .b from rfl, acceptFrame_arm]; cases arm <;> rfl

end Controls

/-! ### The three operations on the supervisor -/

/-- The supervisor of an arm taken out of DISABLED (R91). -/
def startedSup (now : Word) (v : Supervisor) : Supervisor :=
  { v with state := .starting, reportTimer := some ⟨now, timeoutMs v.settings.timeoutCode⟩ }

/-- The supervisor of an arm taken to DISABLED: the report timer stopped, and the permit command off with its settle
window (R92, R99, R100). -/
def disabledSup (now : Word) (v : Supervisor) : Supervisor :=
  { v with
    state := .disabled, reportTimer := none, command := false
    window := if v.command then some ⟨now, settleWindowMs⟩ else v.window }

/-- PERMIT attention at the end of the permit command (R101). -/
def endPermit (v : Supervisor) (src : Source (Option (Bool × SupState))) : Source (Option (Bool × SupState)) :=
  if v.command then src.raise fun _ => some (false, .disabled) else src

section Ops
variable {arm : Arm} {s : State}

/-- An arm with the permit command off is started without a change of the command. -/
theorem start_eq (off : (s.sup.get arm).command = false) :
    restartReport arm (enterState arm .starting s) = s.setSup arm (startedSup s.cellTime (s.sup.get arm)) := by
  have entered : enterState arm .starting s = s.setSup arm { s.sup.get arm with state := .starting } := by
    rw [enterState_spec, if_pos (by rw [off]; rfl)]
  rw [entered, restartReport, State.modSup]
  simp [State.setSup, startedSup, State.timer]

/-- The supervisor of the arm taken to DISABLED. -/
def disableArm (arm : Arm) (s : State) : State :=
  (enterState arm .disabled s).modSup arm fun v => { v with reportTimer := none }

theorem disableArm_sup (arm : Arm) (s : State) :
    (disableArm arm s).sup = s.sup.set arm (disabledSup s.cellTime (s.sup.get arm)) := by
  rw [disableArm, enterState_spec]
  cases hc : (s.sup.get arm).command <;>
    simp [hc, State.modSup, disabledSup, State.timer, raisePermit]

theorem disableArm_permit (arm : Arm) (s : State) :
    ((disableArm arm s).attn.arms.get arm).permit = endPermit (s.sup.get arm) (s.attn.arms.get arm).permit := by
  rw [disableArm, enterState_spec]
  cases hc : (s.sup.get arm).command <;>
    simp [hc, State.modSup, endPermit, raisePermit]

/-- The supervisor at ARM_RESET before the permit sense is judged (R93). -/
def resetSup (now : Word) (v : Supervisor) : Supervisor :=
  { disabledSup now v with present := PerCause.none, recorded := PerCause.none }

theorem resetSupervisor_eq (arm : Arm) (s : State) :
    resetSupervisor arm s = s.setSup arm (resetSup s.cellTime (s.sup.get arm)) := by
  cases hc : (s.sup.get arm).command <;>
    simp [hc, resetSupervisor, commandPermit, State.modSup, State.setSup, resetSup, disabledSup, State.timer]

end Ops

end Sys2Proof.Machine
end

section
/-! PROOFS. Every command ends with the judgement of supervisors that are fit for it: both stay sound, and the permit
line follows the supervision state (R84, R85, R89, R96, R99 to R101). -/

namespace Sys2Proof.Machine

/-! ### Requests that their link or their selector refuses -/

section Refused
variable {c : Instr} {s : State}

/-- A request of the Cell link is refused or passed over, or acts on the Cell link. -/
theorem handleRequest_cellLink_cases (r : Request) (act : State → Act) (s : State) :
    handleRequest .cellLink r.link act s = handleRequest .cellLink r.link (refuse .notPermitted) s ∨
    onCell r s ∧ handleRequest .cellLink r.link act s = writeReply .cell (act (acceptFrame .cell s)).reply
      (conclude s (act (acceptFrame .cell s)).trigger (act (acceptFrame .cell s)).st) := by
  by_cases hl : r.link = .cell
  · cases ht : takesFrame .cell s with
    | false => left; rw [hl, handleRequest, handleRequest, handleFrame_passed ht, handleFrame_passed ht]
    | true => right; exact ⟨⟨hl, ht⟩, by rw [hl, handleRequest_permitted ht rfl]⟩
  · left
    have forbidden : Access.cellLink.permits r.link = false := by simp [Access.permits, hl]
    simp [handleRequest, handleFrame, forbidden]

theorem EventOf.refused (access : Access) (l : Link) (code : ResultCode) (quiet : quiet c = true) :
    ∃ val trigger u, EventOf c s (handleRequest access l (refuse code) s) val trigger u :=
  EventOf.ofAttn (fun u => unchangedBut_refl _ u) (fun _ => rfl) (fun _ _ => rfl) (fun _ _ _ => rfl) (.of_quiet quiet)

end Refused

/-! ### A command's end -/

/-- From the state `s` before a command, the supervisor of an arm as the judgement finds it in `u` and leaves it in `t`:
fit for its judgement, with the permit line following the state. -/
structure SoundEnd (c : Instr) (s t : State) (trigger : Trigger) (u : State) (arm : Arm) : Prop where
  sup : t.sup.get arm = (conclude s trigger u).sup.get arm
  judgeable : Judgeable arm trigger (s.sup.get arm) (u.sup.get arm)
  time : u.cellTime = s.cellTime
  once : (u.sup.get arm).command = (s.sup.get arm).command ∨ (u.sup.get arm).state = .disabled
  started : (u.sup.get arm).command ≠ (s.sup.get arm).command → (u.sup.get arm).window = some (s.timer settleWindowMs)
  kept : (u.sup.get arm).command = (s.sup.get arm).command → endsWindow c arm = false →
    (u.sup.get arm).window = (s.sup.get arm).window
  source : ¬ attnOn (linkOf arm) c → (∀ r, c ≠ .armReset r) →
    (t.attn.arms.get arm).permit = ((conclude s trigger u).attn.arms.get arm).permit ∧
    (u.attn.arms.get arm).permit = if (u.sup.get arm).command = (s.sup.get arm).command
      then (s.attn.arms.get arm).permit
      else (s.attn.arms.get arm).permit.raise fun _ => some ((u.sup.get arm).command, (u.sup.get arm).state)

/-- What a command brings to the judgement of an arm that stands in its state still (Table 5.6). -/
structure StatedEnd (c : Instr) (s : State) (trigger : Trigger) (u : State) (arm : Arm) : Prop where
  state : (u.sup.get arm).state = (s.sup.get arm).state
  clear : trigger ≠ .faultClear arm
  fault : trigger = .changeFault arm → recordedIn .latched (u.sup.get arm) = true
  position : trigger = .position arm ↔ positionOf c arm s

section Ends
variable {c : Instr} {s t u : State} {trigger : Trigger} {arm : Arm}

/-- A supervisor that the command leaves to the judgement but for its flags and its report timer. -/
theorem SoundEnd.of_still (sup : t.sup.get arm = (conclude s trigger u).sup.get arm)
    (judgeable : Judgeable arm trigger (s.sup.get arm) (u.sup.get arm)) (time : u.cellTime = s.cellTime)
    (command : (u.sup.get arm).command = (s.sup.get arm).command)
    (window : endsWindow c arm = false → (u.sup.get arm).window = (s.sup.get arm).window)
    (source : ¬ attnOn (linkOf arm) c → (t.attn.arms.get arm).permit = ((conclude s trigger u).attn.arms.get arm).permit)
    (before : (∀ r, c ≠ .armReset r) → (u.attn.arms.get arm).permit = (s.attn.arms.get arm).permit) :
    SoundEnd c s t trigger u arm where
  sup := sup
  judgeable := judgeable
  time := time
  once := .inl command
  started no := absurd command no
  kept _ := window
  source hattn hreset := ⟨source hattn, by rw [if_pos command]; exact before hreset⟩

theorem EventOf.soundEnd {val : Arm → Cause → Bool} (h : EventOf c s t val trigger u)
    (sound : SupervisorSound (s.sup.get arm)) : SoundEnd c s t trigger u arm :=
  have moves := h.causes.sup arm
  .of_still (by rw [h.sup]) (moves.judgeable sound fun rep => of_decide_eq_true rep) h.time moves.command moves.window
    (h.permit arm) fun _ => h.before arm

theorem EventOf.statedEnd {val : Arm → Cause → Bool} (h : EventOf c s t val trigger u) (arm : Arm) :
    StatedEnd c s trigger u arm where
  state := (h.causes.sup arm).state
  clear := h.brings.clear arm
  fault fault := recordedIn_iff.mpr ⟨.changeFault, by rw [(h.causes.sup arm).recorded]; simp [faultReport, fault], rfl⟩
  position := h.brings.position arm

/-- The supervisor after the command is sound. -/
theorem SoundEnd.sound (h : SoundEnd c s t trigger u arm) : SupervisorSound (t.sup.get arm) := by
  rw [h.sup]; exact h.judgeable.sound

/-- After every command the permit line is as the supervision state and the command before ask (R99, R100). -/
theorem SoundEnd.window (h : SoundEnd c s t trigger u arm) :
    ((t.sup.get arm).command ≠ (s.sup.get arm).command → (t.sup.get arm).window = some (s.timer settleWindowMs)) ∧
    ((t.sup.get arm).command = (s.sup.get arm).command → endsWindow c arm = false →
      (t.sup.get arm).window = (s.sup.get arm).window) := by
  have timer : u.timer settleWindowMs = s.timer settleWindowMs := by rw [State.timer, h.time, State.timer]
  obtain ⟨window, -⟩ := conclude_permit s trigger u arm
  rw [timer] at window
  rw [h.sup]
  obtain same | disabled := h.once
  · rw [same] at window
    exact ⟨fun no => by rw [window, if_neg no], fun eq ended => by rw [window, if_pos eq, h.kept same ended]⟩
  · have stays : (conclude s trigger u).sup.get arm = u.sup.get arm := by
      rw [conclude_sup, judgeArm_of_disabled disabled]
    rw [stays]
    exact ⟨h.started, h.kept⟩

/-- PERMIT attention is raised at each change of the command and at no other event (R101). -/
theorem SoundEnd.permit (h : SoundEnd c s t trigger u arm) (hattn : ¬ attnOn (linkOf arm) c) (hreset : ∀ r, c ≠ .armReset r) :
    (t.attn.arms.get arm).permit = if (t.sup.get arm).command = (s.sup.get arm).command then (s.attn.arms.get arm).permit
      else (s.attn.arms.get arm).permit.raise fun _ => some ((t.sup.get arm).command, (t.sup.get arm).state) := by
  obtain ⟨after, before⟩ := h.source hattn hreset
  obtain ⟨-, source⟩ := conclude_permit s trigger u arm
  rw [after, source, h.sup]
  obtain same | disabled := h.once
  · rw [before, if_pos same, same]
  · have stays : (conclude s trigger u).sup.get arm = u.sup.get arm := by
      rw [conclude_sup, judgeArm_of_disabled disabled]
    rw [stays, if_pos rfl, before]

end Ends

/-! ### The commands that act on a supervisor themselves -/

section Acts
variable {c : Instr} {s : State} {trigger : Trigger} {arm : Arm} {v w : Supervisor}

/-- ARM_SET leaves a supervisor fit for its judgement (R82). -/
theorem SetMoves.judgeable (moves : SetMoves v w) (sound : SupervisorSound v) : Judgeable arm trigger v w := by
  by_cases same : w = v
  · subst same
    exact (SupMoves.refl (fun _ => false) false w).judgeable sound fun no => absurd no Bool.false_ne_true
  have disabled : v.state = .disabled := by
    by_contra no
    exact same (moves.still no)
  have recorded (k : Cause) := (moves.recorded k).resolve_right same
  refine .of_disabled (moves.state.trans disabled) ?_ (moves.timer.trans (sound.timer disabled))
    ⟨fun k off => ?_, fun k present on => ?_⟩
  · rw [moves.command, sound.permit, disabled]; rfl
  · rw [recorded, recordedAfter, if_pos off]
    by_cases was : v.mode k = .off
    · rw [sound.flags.off k was, Bool.false_and]
    · simp [was]
  · rw [recorded, recordedAfter, if_neg on]
    rw [moves.present] at present
    by_cases was : v.mode k = .off
    · simp [was, present]
    · simp [sound.flags.kept k present was]

theorem armSet_soundEnd (r : Request) (s : State) (sound : SupervisorSound (s.sup.get arm)) :
    ∃ trigger u, SoundEnd (.armSet r) s (handleRequest .cellLink r.link (armSet r) s) trigger u arm ∧
      StatedEnd (.armSet r) s trigger u arm := by
  obtain refused | ⟨-, taken⟩ := handleRequest_cellLink_cases r (Machine.armSet r) s
  · rw [refused]
    obtain ⟨_, trigger, u, event⟩ := EventOf.refused (c := .armSet r) (s := s) .cellLink r.link .notPermitted rfl
    exact ⟨trigger, u, event.soundEnd sound, event.statedEnd arm⟩
  rw [taken]
  obtain ⟨k, w, on, outcome, moves, -⟩ := armSet_outcome r (acceptFrame .cell s)
  refine ⟨_, _, .of_still rfl ?_ ?_ ?_ (fun _ => ?_) (fun _ => rfl) fun _ => ?_, ?_, ?_, ?_, ?_⟩
  case refine_6 =>
    rw [outcome, faultIf_sup, State.setSup_sup]
    by_cases hk : arm = k
    · subst hk; rw [PerArm.get_set_same]; exact moves.state
    · rw [PerArm.get_set_other _ hk]; rfl
  case refine_7 => rw [armSet_trigger]; exact nofun
  case refine_8 => rw [armSet_trigger]; exact nofun
  case refine_9 => rw [armSet_trigger]; exact ⟨nofun, fun ⟨_, no, _⟩ => nomatch no⟩
  all_goals rw [outcome]
  · rw [faultIf_sup, State.setSup_sup]
    by_cases hk : arm = k
    · subst hk; rw [PerArm.get_set_same]; exact moves.judgeable sound
    · rw [PerArm.get_set_other _ hk]
      exact (SupMoves.refl (fun _ => false) false _).judgeable sound fun no => absurd no Bool.false_ne_true
  · cases on <;> rfl
  · rw [faultIf_sup, State.setSup_sup]
    by_cases hk : arm = k
    · subst hk; rw [PerArm.get_set_same]; exact moves.command
    · rw [PerArm.get_set_other _ hk]; rfl
  · rw [faultIf_sup, State.setSup_sup]
    by_cases hk : arm = k
    · subst hk; rw [PerArm.get_set_same]; exact moves.window
    · rw [PerArm.get_set_other _ hk]; rfl
  · cases on <;> rfl

/-- FAULT_CLEAR leaves a supervisor fit for its judgement: a present cause stays recorded (R94). -/
theorem Judgeable.of_cleared {recorded : PerCause Bool} (sound : SupervisorSound v)
    (cleared : ∀ k, recorded.get k = true → v.recorded.get k = true)
    (kept : ∀ k, v.present.get k = true → v.recorded.get k = true → recorded.get k = true) :
    Judgeable arm trigger v { v with recorded := recorded } where
  permit := sound.permit
  timer := sound.timer
  flags := {
    off := fun k off => by
      rw [← Bool.not_eq_true]
      intro set
      exact Bool.false_ne_true ((sound.flags.off k off).symm.trans (cleared k set))
    kept := fun k present on => kept k present (sound.flags.kept k present on) }
  latched latched := by
    obtain ⟨k, set, mode⟩ := recordedIn_iff.mp latched
    rw [← or_assoc]
    exact .inl (sound.latched (recordedIn_iff.mpr ⟨k, cleared k set, mode⟩))
  running _ running := sound.running running
  held _ held := sound.held held

theorem faultClear_soundEnd (r : Request) (s : State) (sound : SupervisorSound (s.sup.get arm)) :
    ∃ trigger u, SoundEnd (.faultClear r) s (handleRequest .cellLink r.link (faultClear r) s) trigger u arm := by
  obtain refused | ⟨-, taken⟩ := handleRequest_cellLink_cases r (Machine.faultClear r) s
  · rw [refused]
    obtain ⟨_, trigger, u, event⟩ := EventOf.refused (c := .faultClear r) (s := s) .cellLink r.link .notPermitted rfl
    exact ⟨trigger, u, event.soundEnd sound⟩
  rw [taken]
  obtain ⟨k, recorded, outcome, cleared, kept⟩ := faultClear_outcome r (acceptFrame .cell s)
  refine ⟨_, _, .of_still rfl ?_ ?_ ?_ (fun _ => ?_) (fun _ => rfl) fun _ => ?_⟩
  all_goals rw [outcome]
  · rw [State.setSup_sup]
    by_cases hk : arm = k
    · subst hk; rw [PerArm.get_set_same]; exact .of_cleared sound cleared kept
    · rw [PerArm.get_set_other _ hk]
      exact (SupMoves.refl (fun _ => false) false _).judgeable sound fun no => absurd no Bool.false_ne_true
  · rfl
  · rw [State.setSup_sup]
    by_cases hk : arm = k
    · subst hk; rw [PerArm.get_set_same]; rfl
    · rw [PerArm.get_set_other _ hk]; rfl
  · rw [State.setSup_sup]
    by_cases hk : arm = k
    · subst hk; rw [PerArm.get_set_same]; rfl
    · rw [PerArm.get_set_other _ hk]; rfl
  · rfl

end Acts

/-! ### ARM_ENABLE, ARM_DISABLE and ARM_RESET -/

section Control
variable {c : Instr} {s u : State} {l : Link} {arm : Arm} {reply : Reply}

/-- An arm whose supervisor and PERMIT source a taken frame leaves as its acceptance does. -/
theorem SoundEnd.of_accepted (sound : SupervisorSound (s.sup.get arm))
    (sup : u.sup.get arm = (acceptFrame l s).sup.get arm) (time : u.cellTime = s.cellTime)
    (before : (∀ r, c ≠ .armReset r) → (u.attn.arms.get arm).permit = (s.attn.arms.get arm).permit) :
    SoundEnd c s (writeReply l reply (conclude s .plain u)) .plain u arm := by
  have moves := acceptFrame_moves l s arm
  rw [← sup] at moves
  exact .of_still rfl (moves.judgeable sound fun no => absurd no Bool.false_ne_true) time moves.command
    (fun _ => moves.window rfl) (fun _ => rfl) before

theorem acceptFrame_flags (sound : SupervisorSound (s.sup.get arm)) (l : Link) :
    FlagsSound ((acceptFrame l s).sup.get arm) :=
  (acceptFrame_moves l s arm).flagsSound sound.flags

/-- A request of R90 leaves the other arm as the acceptance of its frame does. -/
theorem SoundEnd.of_other {r : Request} (sound : SupervisorSound (s.sup.get (otherArm arm)))
    {bs : List Block} (reached : unchangedBut bs (acceptFrame r.link s) u)
    (apart : ∀ b ∈ [Block.time, .supervisor (otherArm arm), .settings (otherArm arm), .sense (otherArm arm),
      .permitSource (otherArm arm)], b ∉ bs) :
    SoundEnd c s (writeReply r.link reply (conclude s .plain u)) .plain u (otherArm arm) :=
  .of_accepted sound (supOf_unchangedBut reached fun b hb => apart b (by revert hb; simp; tauto))
    ((reached .time (apart _ (by simp))).trans (acceptFrame_cellTime _ s)) fun _ =>
    (reached (.permitSource (otherArm arm)) (apart _ (by simp))).trans (acceptFrame_permit _ s _)

theorem armEnable_taken {l : Link} (sound : SupervisorSound (s.sup.get arm)) :
    (armEnable l arm (acceptFrame l s)).st = acceptFrame l s ∨
    (armEnable l arm (acceptFrame l s)).st =
        (acceptFrame l s).setSup arm (startedSup s.cellTime ((acceptFrame l s).sup.get arm)) ∧
      (s.sup.get arm).state = .disabled ∧ recordedIn .latched ((acceptFrame l s).sup.get arm) = false := by
  simp only [armEnable]
  split
  · exact .inl rfl
  next enabled =>
  split
  · exact .inl rfl
  next clear =>
  have moves := acceptFrame_moves l s arm
  have disabled : ((acceptFrame l s).sup.get arm).state = .disabled := by
    by_contra no
    exact enabled (.inl no)
  have was : (s.sup.get arm).state = .disabled := moves.state.symm.trans disabled
  have off : ((acceptFrame l s).sup.get arm).command = false := by rw [moves.command, sound.permit, was]; rfl
  refine .inr ⟨?_, was, by simpa using clear⟩
  exact (start_eq off).trans (by rw [acceptFrame_cellTime])

/-- ARM_ENABLE leaves its arm fit for its judgement, with the permit command still off (R91). -/
theorem armEnable_soundEnd_own (sound : SupervisorSound (s.sup.get arm)) :
    SoundEnd c s (writeReply l reply (conclude s .plain (armEnable l arm (acceptFrame l s)).st)) .plain
      (armEnable l arm (acceptFrame l s)).st arm := by
  obtain same | ⟨taken, disabled, clear⟩ := armEnable_taken (l := l) sound
  · rw [same]
    exact .of_accepted sound rfl (acceptFrame_cellTime l s) fun _ => acceptFrame_permit l s arm
  rw [taken]
  have moves := acceptFrame_moves l s arm
  have off : (s.sup.get arm).command = false := by rw [sound.permit, disabled]; rfl
  have sup : ((acceptFrame l s).setSup arm (startedSup s.cellTime ((acceptFrame l s).sup.get arm))).sup.get arm =
      startedSup s.cellTime ((acceptFrame l s).sup.get arm) := by simp
  have flags := acceptFrame_flags sound l
  refine .of_still rfl ?_ (acceptFrame_cellTime l s) ?_ (fun _ => ?_) (fun _ => rfl) fun _ => acceptFrame_permit l s arm
  all_goals rw [sup]
  · exact {
      permit := moves.command.trans off
      timer := fun no => by cases no
      flags := ⟨flags.off, flags.kept⟩
      latched := fun recorded => absurd (clear.symm.trans recorded) Bool.false_ne_true
      running := fun _ no => by cases no
      held := fun _ no => by cases no }
  · exact moves.command
  · exact moves.window rfl

/-- A supervisor taken to DISABLED by a request of R90: the settle window of the permit command's end (R92, R93, R99). -/
theorem SoundEnd.of_disabledSup {v : Supervisor} {present recorded : PerCause Bool}
    (hu : u.sup.get arm = { disabledSup s.cellTime v with present := present, recorded := recorded })
    (flags : FlagsSound (u.sup.get arm)) (command : v.command = (s.sup.get arm).command)
    (window : v.window = (s.sup.get arm).window) (time : u.cellTime = s.cellTime)
    (source : (∀ r, c ≠ .armReset r) → (u.attn.arms.get arm).permit = endPermit v (s.attn.arms.get arm).permit) :
    SoundEnd c s (writeReply l reply (conclude s .plain u)) .plain u arm where
  sup := rfl
  judgeable := .of_disabled (by rw [hu]; rfl) (by rw [hu]; rfl) (by rw [hu]; rfl) flags
  time := time
  once := .inr (by rw [hu]; rfl)
  started ended := by
    have on : v.command = true := by
      rw [hu, ← command] at ended
      simpa [disabledSup] using ended
    rw [hu]
    simp [disabledSup, on, State.timer]
  kept same _ := by
    have off : v.command = false := by
      rw [hu, ← command] at same
      exact same.symm
    rw [hu]
    simp [disabledSup, off, window]
  source _ hreset := by
    refine ⟨rfl, ?_⟩
    rw [source hreset, hu, endPermit, command]
    cases (s.sup.get arm).command <;> simp [disabledSup]

/-- ARM_DISABLE of an arm in another state than DISABLED (R92). -/
def disabledState (l : Link) (arm : Arm) (s : State) : State :=
  let s1 := removeClaim arm (disableArm arm s)
  { s1 with disabledBy := s1.disabledBy.set arm (some l) }

theorem armDisable_eq (l : Link) (arm : Arm) (s : State) : armDisable l arm s =
    if (s.sup.get arm).state = .disabled then okay s else okay (disabledState l arm s) := rfl

theorem disabledState_sup (l : Link) (arm : Arm) (s : State) :
    (disabledState l arm s).sup = s.sup.set arm (disabledSup s.cellTime (s.sup.get arm)) :=
  (sup_of_unchangedBut (removeClaim_unchangedBut_claims arm (disableArm arm s)) (by decide)).trans (disableArm_sup arm s)

theorem disabledState_permit (l : Link) (arm : Arm) (s : State) :
    ((disabledState l arm s).attn.arms.get arm).permit = endPermit (s.sup.get arm) (s.attn.arms.get arm).permit :=
  (removeClaim_unchangedBut arm (disableArm arm s) (.permitSource arm) (by simp)).trans (disableArm_permit arm s)

theorem disabledState_cellTime (l : Link) (arm : Arm) (s : State) : (disabledState l arm s).cellTime = s.cellTime :=
  (removeClaim_unchangedBut arm (disableArm arm s) .time (by simp)).trans (by simp [disableArm, State.modSup])

/-- ARM_DISABLE leaves its arm DISABLED (R92). -/
theorem armDisable_soundEnd_own (sound : SupervisorSound (s.sup.get arm)) :
    SoundEnd c s (writeReply l reply (conclude s .plain (armDisable l arm (acceptFrame l s)).st)) .plain
      (armDisable l arm (acceptFrame l s)).st arm := by
  rw [armDisable_eq]
  split
  · exact .of_accepted sound rfl (acceptFrame_cellTime l s) fun _ => acceptFrame_permit l s arm
  · have moves := acceptFrame_moves l s arm
    have flags := acceptFrame_flags sound l
    have sup : (disabledState l arm (acceptFrame l s)).sup.get arm =
        disabledSup s.cellTime ((acceptFrame l s).sup.get arm) := by
      rw [disabledState_sup, PerArm.get_set_same, acceptFrame_cellTime]
    refine .of_disabledSup sup ?_ moves.command (moves.window rfl) ?_ fun _ => ?_
    · simp only [okay]
      rw [sup]
      exact ⟨flags.off, flags.kept⟩
    · exact (disabledState_cellTime l arm _).trans (acceptFrame_cellTime l s)
    · exact (disabledState_permit l arm _).trans (by rw [acceptFrame_permit])

/-- The records of an arm that ARM_RESET makes absent, its blank timer and its attention unit (R93, R157). -/
def clearRecords (arm : Arm) (s : State) : State :=
  (((s.setLastPos arm none).setGuard arm none).setQueue arm { s.touch.queues.get arm with blankTimer := none }).modArmUnit
    arm clearUnit

/-- The arm reset but for its permit sense (R93). -/
def resetRecords (arm : Arm) (s : State) : State :=
  clearRecords arm (resetSupervisor arm (removeClaim arm (resetChange arm s)))

theorem armReset_eq (arm : Arm) (s : State) : armReset arm s = okay (judgeSense arm (resetRecords arm s)) := rfl

theorem resetRecords_sup (arm : Arm) (s : State) :
    (resetRecords arm s).sup = s.sup.set arm (resetSup s.cellTime (s.sup.get arm)) := by
  have change := resetChange_unchangedBut arm s
  have claim := removeClaim_unchangedBut arm (resetChange arm s)
  have sup : (removeClaim arm (resetChange arm s)).sup = s.sup :=
    (sup_of_unchangedBut claim (by cases arm <;> decide)).trans (sup_of_unchangedBut change (by decide))
  have time : (removeClaim arm (resetChange arm s)).cellTime = s.cellTime :=
    (claim .time (by simp)).trans (change .time (by decide))
  have cleared (u : State) : (clearRecords arm u).sup = u.sup := rfl
  rw [resetRecords, cleared, resetSupervisor_eq, State.setSup_sup, sup, time]

theorem resetRecords_cellTime (arm : Arm) (s : State) : (resetRecords arm s).cellTime = s.cellTime := by
  have cleared (u : State) : (clearRecords arm u).cellTime = u.cellTime := rfl
  rw [resetRecords, cleared, resetSupervisor_eq]
  exact (removeClaim_unchangedBut arm (resetChange arm s) .time (by simp)).trans
    (resetChange_unchangedBut arm s .time (by decide))

/-- Judging the permit sense moves an arm without a cause as R84 says (R100). -/
theorem judgeSense_moves (arm : Arm) (s : State) :
    SupMoves (fun _ => decide ((s.sup.get arm).sense ≠ (s.sup.get arm).command)) false false (s.sup.get arm)
      ((judgeSense arm s).sup.get arm) :=
  (CausesMove.judgeSense (val := fun _ _ => decide ((s.sup.get arm).sense ≠ (s.sup.get arm).command))
    (ended := fun _ => false) rfl).sup arm

/-- ARM_RESET leaves its arm DISABLED, with a mismatch of the permit sense alone (R93, R100). -/
theorem armReset_soundEnd_own (r : Request) (l : Link) (arm : Arm) (s : State) (reply : Reply) :
    SoundEnd (.armReset r) s (writeReply l reply (conclude s .plain (armReset arm (acceptFrame l s)).st)) .plain
      (armReset arm (acceptFrame l s)).st arm := by
  have moves := acceptFrame_moves l s arm
  have sense := judgeSense_moves arm (resetRecords arm (acceptFrame l s))
  have time : (judgeSense arm (resetRecords arm (acceptFrame l s))).cellTime = s.cellTime :=
    (judgeSense_unchangedBut arm _ .time (by simp)).trans <| (resetRecords_cellTime arm _).trans (acceptFrame_cellTime l s)
  rw [armReset_eq]
  simp only [okay]
  rw [resetRecords_sup, PerArm.get_set_same, acceptFrame_cellTime] at sense
  generalize judgeSense arm (resetRecords arm (acceptFrame l s)) = u at sense time ⊢
  have none : FlagsSound (resetSup s.cellTime ((acceptFrame l s).sup.get arm)) :=
    ⟨fun k _ => by cases k <;> rfl, fun k no _ => by cases k <;> cases no⟩
  have command : (u.sup.get arm).command = false := sense.command
  have window : (u.sup.get arm).window =
      if (s.sup.get arm).command then some (s.timer settleWindowMs) else (s.sup.get arm).window := by
    rw [sense.window rfl, ← moves.command, ← moves.window rfl]; rfl
  exact {
    sup := rfl
    judgeable := .of_disabled sense.state command (sense.timer rfl rfl) (sense.flagsSound none)
    time := time
    once := .inr sense.state
    started := fun ended => by
      rw [command] at ended
      rw [window, if_pos (by simpa using ended)]
    kept := fun same _ => by
      rw [command] at same
      rw [window, ← same, if_neg Bool.false_ne_true]
    source := fun _ other => absurd rfl (other r) }

end Control

/-! ### Every command -/

section Exec
variable {c : Instr} {s t : State} {arm : Arm}

/-- One of the requests of R90, from what it does to its own arm and the blocks that it reaches. -/
theorem handleControl_soundEnd {r : Request} {act : Arm → State → Act} {bs : Arm → List Block}
    (sound : ∀ arm, SupervisorSound (s.sup.get arm)) (quiet : quiet c = true)
    (plain : ∀ k u, (act k u).trigger = .plain)
    (own : ∀ k reply, SoundEnd c s (writeReply r.link reply (conclude s .plain (act k (acceptFrame r.link s)).st)) .plain
      (act k (acceptFrame r.link s)).st k)
    (reached : ∀ k, unchangedBut (bs k) (acceptFrame r.link s) (act k (acceptFrame r.link s)).st)
    (apart : ∀ k, ∀ b ∈ [Block.time, .supervisor (otherArm k), .settings (otherArm k), .sense (otherArm k),
      .permitSource (otherArm k)], b ∉ bs k) :
    ∃ trigger u, SoundEnd c s (handleControl r act s) trigger u arm := by
  obtain refused | ⟨k, acts⟩ := handleControl_cases r s
  · obtain ⟨_, trigger, u, event⟩ := EventOf.refused (c := c) (s := s) .allLinks r.link .badSelector quiet
    rw [refused]
    exact ⟨trigger, u, event.soundEnd (sound arm)⟩
  rw [handleControl_taken acts]
  simp only [plain]
  refine ⟨.plain, (act k (acceptFrame r.link s)).st, ?_⟩
  by_cases hk : arm = k
  · subst hk; exact own _ _
  · rw [eq_other_of_ne hk]
    exact .of_other (sound _) (reached k) (apart k)

theorem exec_soundEnd_of_control (h : exec c s = .next t) (ho : ordinary c = false) (hc : c ≠ .resetInputAsserted)
    (sound : ∀ arm, SupervisorSound (s.sup.get arm)) : ∃ trigger u, SoundEnd c s t trigger u arm := by
  cases c <;> cases ho
  case resetInputAsserted => exact absurd rfl hc
  case armSet r =>
    cases h
    obtain ⟨trigger, u, ends, -⟩ := armSet_soundEnd (arm := arm) r s (sound arm)
    exact ⟨trigger, u, ends⟩
  case faultClear r => cases h; exact faultClear_soundEnd r s (sound arm)
  case armEnable r =>
    cases h
    exact handleControl_soundEnd sound rfl (armEnable_trigger r.link) (fun k _ => armEnable_soundEnd_own (sound k))
      (fun k => armEnable_unchangedBut_own r.link k _) (by intro k; cases k <;> decide)
  case armDisable r =>
    cases h
    exact handleControl_soundEnd sound rfl (armDisable_trigger r.link) (fun k _ => armDisable_soundEnd_own (sound k))
      (fun k => armDisable_unchangedBut_own r.link k _) (by intro k; cases k <;> decide)
  case armReset r =>
    cases h
    exact handleControl_soundEnd sound rfl (fun _ _ => rfl) (fun k reply => armReset_soundEnd_own r r.link k s reply)
      (fun k => armReset_unchangedBut_own k _) (by intro k; cases k <;> decide)

/-- Every command but the assertion of the reset input ends with the judgement of supervisors that are fit for it. -/
theorem exec_soundEnd (h : exec c s = .next t) (hc : c ≠ .resetInputAsserted)
    (sound : ∀ arm, SupervisorSound (s.sup.get arm)) (arm : Arm) : ∃ trigger u, SoundEnd c s t trigger u arm := by
  cases ho : ordinary c with
  | true =>
    obtain ⟨_, trigger, u, event⟩ := exec_event h ho
    exact ⟨trigger, u, event.soundEnd (sound arm)⟩
  | false => exact exec_soundEnd_of_control h ho hc sound

theorem supervisorsSound_iff : SupervisorsSound s ↔ ∀ arm, SupervisorSound (s.sup.get arm) :=
  ⟨fun h arm => by cases arm; exacts [h.1, h.2], fun h => ⟨h .a, h .b⟩⟩

end Exec


/-! ### The statements -/

/-- Soundness reads no permit sense. -/
theorem SupervisorSound.congr {v w : Supervisor} (h : SupervisorSound v) (state : w.state = v.state)
    (present : w.present = v.present) (recorded : w.recorded = v.recorded) (timer : w.reportTimer = v.reportTimer)
    (command : w.command = v.command) (settings : w.settings = v.settings) : SupervisorSound w := by
  have mode : w.mode = v.mode := by funext k; rw [Supervisor.mode, settings, Supervisor.mode]
  exact {
    permit := by rw [command, state]; exact h.permit
    timer := by rw [state, timer]; exact h.timer
    off := by rw [mode, recorded]; exact h.off
    kept := by rw [mode, recorded, present]; exact h.kept
    latched := by rw [recordedIn_congr recorded settings, state]; exact h.latched
    running := by rw [presentIn_congr present settings, state]; exact h.running
    held := by rw [presentIn_congr present settings, state]; exact h.held }

theorem supervisorsSound_readsOnly : readsOnly (ofArms .supervisor ++ ofArms .settings) SupervisorsSound := by
  intro s t h sound
  rw [supervisorsSound_iff] at sound ⊢
  intro arm
  obtain ⟨state, present, recorded, timer, command, -⟩ := h (.supervisor arm) (by cases arm <;> decide)
  exact (sound arm).congr state present recorded timer command (h (.settings arm) (by cases arm <;> decide))

theorem supervisorsSound_exec (c : Instr) (s t : State) (h : exec c s = .next t) (hs : SupervisorsSound s) :
    SupervisorsSound t := by
  by_cases hc : c = .resetInputAsserted
  · subst hc
    exact exec_resetInputAsserted_keeps (supervisorsSound_readsOnly.deviceReset (by decide) reset_supervisorsSound) h hs
  · rw [supervisorsSound_iff] at hs ⊢
    intro arm
    obtain ⟨_, _, ends⟩ := exec_soundEnd h hc hs arm
    exact ends.sound

section Table
variable {c : Instr} {s t u : State} {trigger : Trigger} {arm : Arm}

/-- A LATCHED cause is recorded on an arm that was sound and is not STOPPED exactly if the event brings one. -/
theorem StatedEnd.latchedBy_eq (stated : StatedEnd c s trigger u arm)
    (fit : Judgeable arm trigger (s.sup.get arm) (u.sup.get arm))
    (active : (u.sup.get arm).state ≠ .disabled ∧ (u.sup.get arm).state ≠ .stopped) :
    latchedBy (s.sup.get arm) (u.sup.get arm) trigger arm = recordedIn .latched (u.sup.get arm) := by
  rw [Bool.eq_iff_iff, latchedBy, Bool.or_eq_true, decide_eq_true_eq]
  constructor
  · rintro (now | fault)
    · obtain ⟨k, present, -, mode⟩ := latchedNow_iff.mp now
      exact recordedIn_iff.mpr ⟨k, fit.flags.kept k present (by rw [mode]; simp), mode⟩
    · exact stated.fault fault
  · intro recorded
    have := fit.latched recorded
    rwa [or_iff_right active.2, or_iff_right active.1] at this

/-- Table 5.6 from the state before a command, and the causes and the position report that it leaves. -/
def stateFrom (before : SupState) (latched position present auto : Bool) : SupState :=
  match before with
  | .disabled => .disabled
  | .stopped => .stopped
  | .starting => if latched then .stopped else if position && !present && !auto then .running else .starting
  | .running => if latched then .stopped else if auto then .held else .running
  | .held => if latched then .stopped else if auto then .held else .running

/-- The judgement moves an arm by Table 5.6. -/
theorem StatedEnd.stateAfter_eq (stated : StatedEnd c s trigger u arm)
    (fit : Judgeable arm trigger (s.sup.get arm) (u.sup.get arm)) :
    stateAfter (s.sup.get arm) (u.sup.get arm) trigger arm =
      stateFrom (s.sup.get arm).state (recordedIn .latched (u.sup.get arm)) (decide (trigger = .position arm))
        (presentIn .latched (u.sup.get arm)) (presentIn .auto (u.sup.get arm)) := by
  have state := stated.state
  cases hs : (s.sup.get arm).state
  case disabled => exact stateAfter_of_disabled (state.trans hs)
  case stopped =>
    rw [stateAfter_of_stopped (state.trans hs), if_neg (fun clears => stated.clear clears.1)]
    rfl
  all_goals
    rw [hs] at state
    rw [stateAfter_active (by simp [state]), stated.latchedBy_eq fit (by simp [state]), state]
    simp [stateFrom, runOrHold, and_assoc]

/-- An arm that nothing brings to its judgement stands as Table 5.6 says already. -/
theorem StatedEnd.state_eq_of_unjudged (stated : StatedEnd c s trigger u arm)
    (fit : Judgeable arm trigger (s.sup.get arm) (u.sup.get arm))
    (same : (u.sup.get arm).present = (s.sup.get arm).present) (untriggered : trigger.arm? ≠ some arm) :
    (u.sup.get arm).state =
      stateFrom (s.sup.get arm).state (recordedIn .latched (u.sup.get arm)) (decide (trigger = .position arm))
        (presentIn .latched (u.sup.get arm)) (presentIn .auto (u.sup.get arm)) := by
  have state := stated.state
  have sound := fit.sound_of_unjudged same untriggered
  have position : decide (trigger = .position arm) = false :=
    decide_eq_false fun position => untriggered (congrArg Trigger.arm? position)
  have clear (active : (u.sup.get arm).state ≠ .stopped ∧ (u.sup.get arm).state ≠ .disabled) :
      recordedIn .latched (u.sup.get arm) = false :=
    Bool.not_eq_true _ ▸ fun recorded => (sound.latched recorded).elim active.1 active.2
  cases hs : (s.sup.get arm).state
  case disabled | stopped => exact state.trans hs
  all_goals
    rw [hs] at state
    rw [clear (by simp [state]), state, position]
  case starting => rfl
  case running => rw [sound.running state]; rfl
  case held => rw [sound.held state]; rfl

/-- The command is a POSITION of the arm that the port takes. -/
def reportsIn (c : Instr) (arm : Arm) (s : State) : Bool :=
  match c with
  | .position r => decide (r.link = linkOf arm) && takesFrame (linkOf arm) s
  | _ => false

theorem reportsIn_iff : reportsIn c arm s = true ↔ positionOf c arm s := by
  cases c
  case position r => simp [reportsIn, positionOf, onArm]
  all_goals simp [reportsIn, positionOf]

/-- After a command that does not act on the supervisors itself the state follows Table 5.6. -/
theorem SoundEnd.state_eq (ends : SoundEnd c s t trigger u arm) (stated : StatedEnd c s trigger u arm) :
    (t.sup.get arm).state =
      stateFrom (s.sup.get arm).state (recordedIn .latched (t.sup.get arm)) (reportsIn c arm s)
        (presentIn .latched (t.sup.get arm)) (presentIn .auto (t.sup.get arm)) := by
  have position : reportsIn c arm s = decide (trigger = .position arm) := by
    rw [Bool.eq_iff_iff, reportsIn_iff, decide_eq_true_eq, stated.position]
  rw [ends.sup, position]
  obtain ⟨same, untriggered, kept⟩ | moved := conclude_sup_cases s trigger u arm
  · rw [kept]
    exact stated.state_eq_of_unjudged ends.judgeable same untriggered
  · rw [recordedIn_congr moved.recorded moved.settings, presentIn_congr moved.present moved.settings,
      presentIn_congr moved.present moved.settings, moved.state]
    exact stated.stateAfter_eq ends.judgeable

theorem exec_statedEnd_of_special (h : exec c s = .next t) (ho : ordinary c = false) (hc : c ≠ .resetInputAsserted)
    (still : ∀ r, c ≠ .armEnable r ∧ c ≠ .armDisable r ∧ c ≠ .armReset r ∧ c ≠ .faultClear r)
    (sound : ∀ arm, SupervisorSound (s.sup.get arm)) :
    ∃ trigger u, SoundEnd c s t trigger u arm ∧ StatedEnd c s trigger u arm := by
  cases c <;> cases ho
  case resetInputAsserted => exact absurd rfl hc
  case armSet r => cases h; exact armSet_soundEnd r s (sound arm)
  case armEnable r => exact absurd rfl (still r).1
  case armDisable r => exact absurd rfl (still r).2.1
  case armReset r => exact absurd rfl (still r).2.2.1
  case faultClear r => exact absurd rfl (still r).2.2.2

theorem exec_statedEnd (h : exec c s = .next t) (hc : c ≠ .resetInputAsserted)
    (still : ∀ r, c ≠ .armEnable r ∧ c ≠ .armDisable r ∧ c ≠ .armReset r ∧ c ≠ .faultClear r)
    (sound : ∀ arm, SupervisorSound (s.sup.get arm)) (arm : Arm) :
    ∃ trigger u, SoundEnd c s t trigger u arm ∧ StatedEnd c s trigger u arm := by
  cases ho : ordinary c with
  | true =>
    obtain ⟨_, trigger, u, event⟩ := exec_event h ho
    exact ⟨trigger, u, event.soundEnd (sound arm), event.statedEnd arm⟩
  | false => exact exec_statedEnd_of_special h ho hc still sound

end Table

/-- Settles O55: every command ends with the judgement of supervisors that are fit for it (`exec_soundEnd`), and the
reset input leaves the reset values. -/
theorem everyStepKeepsTheSupervisorsSound : Obligations.EveryStepKeepsTheSupervisorsSound := by
  intro s t sound hstep
  exact step_keeps supervisorsSound_readsOnly (by decide) supervisorsSound_exec hstep sound

/-- Settles O32: the state by `SoundEnd.state_eq`, the permit line by `SoundEnd.window` and `SoundEnd.permit`. -/
theorem supervisionFollowsTheCauses : Obligations.SupervisionFollowsTheCauses := by
  constructor
  · intro c s t arm sound h still hc
    obtain ⟨_, _, ends, stated⟩ := exec_statedEnd h hc still (supervisorsSound_iff.mp sound) arm
    have recorded (m : Mode) (v : Supervisor) :
        decide (∃ k ∈ allCauses, v.recorded.get k = true ∧ v.mode k = m) = recordedIn m v := by
      rw [Bool.eq_iff_iff, decide_eq_true_eq, recordedIn_iff]
      simp
    have present (m : Mode) (v : Supervisor) :
        decide (∃ k ∈ allCauses, v.present.get k = true ∧ v.mode k = m) = presentIn m v := by
      rw [Bool.eq_iff_iff, decide_eq_true_eq, presentIn_iff]
      simp
    simp only [recorded, present]
    rw [ends.state_eq stated]
    cases (s.sup.get arm).state <;> rfl
  · intro c s t arm sound h hc
    obtain ⟨_, _, ends⟩ := exec_soundEnd h hc (supervisorsSound_iff.mp sound) arm
    refine ⟨ends.sound.permit, ends.window.1, fun same hw => ends.window.2 same (decide_eq_false hw), fun quiet => ?_⟩
    refine ends.permit ?_ fun r => (quiet r).1
    rintro ⟨r, hl, attn⟩
    obtain ⟨-, none⟩ := quiet r
    obtain ⟨take, done, enable⟩ := none hl
    obtain rfl | rfl | rfl := attn
    · exact take rfl
    · exact done rfl
    · exact enable rfl

end Sys2Proof.Machine
end

section
/-! PROOFS. Zones and claims: every operation of the arbiter keeps the table's intervals, and leaves each arm the waiter
of exactly the zones of its pending claim that it does not hold (R61, R64, R65). -/

namespace Sys2Proof.Machine

section Zones
variable {s t u : State} {arm : Arm} {c : Claim}

/-! ### What leaves the zones alone -/

/-- The zones and the claims are as they were, and no arm with a claim is newly DISABLED. -/
structure ZonesKept (s t : State) : Prop where
  table : t.zones.table = s.zones.table
  claims : t.zones.claims = s.zones.claims
  off : ∀ arm, (t.sup.get arm).state = .disabled → (s.sup.get arm).state = .disabled ∨ s.zones.claims.get arm = none

theorem ZonesKept.zoneAt (h : ZonesKept s t) (z : Fin 16) : zoneAt t z = zoneAt s z := by
  rw [Machine.zoneAt, h.table, Machine.zoneAt]

theorem ZonesSound.of_kept (hs : ZonesSound s) (h : ZonesKept s t) : ZonesSound t := by
  obtain ⟨⟨bounds, undefined, disjoint, rack⟩, ⟨one, range, waiter⟩⟩ := hs
  constructor
  · constructor <;> simp only [h.zoneAt]
    exacts [bounds, undefined, disjoint, rack]
  · constructor <;> simp only [h.zoneAt, h.claims]
    · exact one
    · intro arm c hc
      obtain ⟨on, proper⟩ := range arm c hc
      refine ⟨fun off => ?_, proper⟩
      obtain was | none := h.off arm off
      · exact on was
      · rw [none] at hc; cases hc
    · exact waiter

theorem ZonesKept.of_unchangedBut {l : List Block} (h : unchangedBut l s t)
    (apart : ∀ b ∈ [Block.zoneTable, .claim .a, .claim .b], b ∉ l)
    (off : ∀ arm, (t.sup.get arm).state = .disabled → (s.sup.get arm).state = .disabled) : ZonesKept s t where
  table := h .zoneTable (apart _ (by simp))
  claims := PerArm.ext_get fun arm => h (.claim arm) (apart _ (by cases arm <;> simp))
  off arm disabled := .inl (off arm disabled)

theorem judgeVerdict_kept (arm : Arm) (s : State) : ZonesKept s (judgeVerdict arm s) := by
  have moves : CausesMove (fun k _ => verdict k s) (fun _ => false) noReport s (judgeVerdict arm s) := .judgeVerdict rfl
  exact .of_unchangedBut (judgeVerdict_unchangedBut_verdict arm s) (by decide) fun k off => (moves.sup k).state ▸ off

/-! ### Operations on holders and waiters -/

/-- Holders and waiters of defined zones alone may differ. -/
structure Marked (s t : State) : Prop where
  same : ∀ z, { zoneAt t z with holder := none, waiter := none } = { zoneAt s z with holder := none, waiter := none }
  undefined : ∀ z, (zoneAt s z).defined = false → zoneAt t z = zoneAt s z

theorem Marked.fields (h : Marked s t) (z : Fin 16) : (zoneAt t z).defined = (zoneAt s z).defined ∧
    (zoneAt t z).lower = (zoneAt s z).lower ∧ (zoneAt t z).upper = (zoneAt s z).upper ∧
    (zoneAt t z).kind = (zoneAt s z).kind := by
  have := h.same z
  rw [Zone.mk.injEq] at this
  obtain ⟨defined, lower, upper, kind, -⟩ := this
  exact ⟨defined, lower, upper, kind⟩

theorem Marked.trans (h1 : Marked s t) (h2 : Marked t u) : Marked s u where
  same z := (h2.same z).trans (h1.same z)
  undefined z hz := (h2.undefined z ((h1.fields z).1.trans hz)).trans (h1.undefined z hz)

theorem TableSound.of_marked (hs : TableSound s) (h : Marked s t) : TableSound t := by
  obtain ⟨bounds, undefined, disjoint, rack⟩ := hs
  have defined (z) := (h.fields z).1
  have lower (z) := (h.fields z).2.1
  have upper (z) := (h.fields z).2.2.1
  have kind (z) := (h.fields z).2.2.2
  constructor
  · simpa only [defined, lower, upper] using bounds
  · intro z hz
    rw [defined] at hz
    exact (h.undefined z hz).trans (undefined z hz)
  · simpa only [defined, lower, upper] using disjoint
  · simpa only [defined, kind] using rack

/-- The waiter marks are those of pending claims, perhaps not all (R65). -/
structure ClaimsLoose (s : State) : Prop where
  one : s.zones.claims.a = none ∨ s.zones.claims.b = none
  range : ∀ arm : Arm, ∀ c : Claim, s.zones.claims.get arm = some c →
    (s.sup.get arm).state ≠ .disabled ∧ 1 ≤ c.count ∧ c.first + c.count ≤ 16 ∧
      ∀ z : Fin 16, c.covers z = true → (zoneAt s z).defined = true
  marks : ∀ arm : Arm, ∀ z : Fin 16, (zoneAt s z).waiter = some arm →
    (s.zones.claims.get arm).any (fun c => c.covers z) = true ∧ (zoneAt s z).holder ≠ some arm

theorem ClaimsSound.loose (hs : ClaimsSound s) : ClaimsLoose s :=
  ⟨hs.one, hs.range, fun arm z => (hs.waiter arm z).mp⟩

theorem ClaimsLoose.waiter_ne (hs : ClaimsLoose s) (h : s.zones.claims.get arm = none) (z : Fin 16) :
    (zoneAt s z).waiter ≠ some arm := fun hw => by simpa [h] using (hs.marks arm z hw).1

/-- Without a pending claim the marks are whole. -/
theorem ClaimsLoose.waiter_iff_of_none (hs : ClaimsLoose s) (h : s.zones.claims.get arm = none) (z : Fin 16) :
    (zoneAt s z).waiter = some arm ↔
      (s.zones.claims.get arm).any (fun c => c.covers z) = true ∧ (zoneAt s z).holder ≠ some arm :=
  ⟨hs.marks arm z, fun ⟨hc, _⟩ => by rw [h] at hc; cases hc⟩

theorem one_iff : (s.zones.claims.a = none ∨ s.zones.claims.b = none) ↔ ∃ arm, s.zones.claims.get (otherArm arm) = none :=
  ⟨fun h => h.elim (fun ha => ⟨.b, ha⟩) fun hb => ⟨.a, hb⟩, fun ⟨arm, h⟩ => by cases arm; exacts [.inr h, .inl h]⟩

/-! ### The operations -/

/-- Freeing zones (R73, R74). -/
theorem freeZones_marked (hs : ZonesSound s) (p : Fin 16 → Zone → Bool) : Marked s (freeZones p s) where
  same z := by rw [zoneAt_freeZones]; split <;> rfl
  undefined z hz := by
    have reset : zoneAt s z = Zone.reset := hs.1.undefined z hz
    rw [zoneAt_freeZones, reset]
    split <;> rfl

theorem freeZones_loose (hs : ZonesSound s) (p : Fin 16 → Zone → Bool) : ClaimsLoose (freeZones p s) where
  one := by rw [freeZones_claims]; exact hs.2.one
  range arm c hc := by
    rw [freeZones_claims] at hc
    obtain ⟨on, positive, inside, defined⟩ := hs.2.range arm c hc
    rw [freeZones_sup]
    refine ⟨on, positive, inside, fun z hz => ?_⟩
    rw [((freeZones_marked hs p).fields z).1]
    exact defined z hz
  marks arm z hw := by
    rw [freeZones_claims]
    have waits : (zoneAt s z).waiter = some arm := by
      rw [zoneAt_freeZones] at hw
      split at hw <;> exact hw
    obtain ⟨covered, free⟩ := (hs.2.waiter arm z).mp waits
    refine ⟨covered, ?_⟩
    rw [zoneAt_freeZones]
    split
    · simp
    · exact free

/-- Removing a pending claim (R65). -/
theorem removeClaim_marked (hs : ZonesSound s) (arm : Arm) : Marked s (removeClaim arm s) where
  same z := by rw [zoneAt_removeClaim]; split <;> rfl
  undefined z hz := by
    have reset : zoneAt s z = Zone.reset := hs.1.undefined z hz
    rw [zoneAt_removeClaim, reset]
    split <;> rfl

theorem removeClaim_state (arm other : Arm) (s : State) :
    ((removeClaim arm s).sup.get other).state = (s.sup.get other).state :=
  (removeClaim_unchangedBut arm s (.supervisor other) (by simp)).1

theorem holder_removeClaim (arm : Arm) (s : State) (z : Fin 16) :
    (zoneAt (removeClaim arm s) z).holder = (zoneAt s z).holder := by
  rw [zoneAt_removeClaim]; split <;> rfl

theorem waiter_removeClaim (hs : ZonesSound s) (arm : Arm) (z : Fin 16) :
    (zoneAt (removeClaim arm s) z).waiter = if (zoneAt s z).waiter = some arm then none else (zoneAt s z).waiter := by
  rw [zoneAt_removeClaim]
  cases hc : s.zones.claims.get arm with
  | none => simp [hs.2.waiter_ne hc z]
  | some c => simp only [Option.isSome_some, true_and]; split <;> rfl

theorem ZonesSound.removeClaim (hs : ZonesSound s) (arm : Arm) : ZonesSound (removeClaim arm s) := by
  have marked := removeClaim_marked hs arm
  refine ⟨hs.1.of_marked marked, ?_, fun k c hc => ?_, fun k z => ?_⟩
  · rw [claims_removeClaim]
    obtain ha | hb := hs.2.one
    · left; cases arm; exacts [rfl, ha]
    · right; cases arm; exacts [hb, rfl]
  · rw [claims_removeClaim, PerArm.get_set] at hc
    split at hc
    · cases hc
    · obtain ⟨on, positive, inside, defined⟩ := hs.2.range k c hc
      rw [removeClaim_state]
      exact ⟨on, positive, inside, fun z hz => (marked.fields z).1.trans (defined z hz)⟩
  · rw [claims_removeClaim, PerArm.get_set, holder_removeClaim, waiter_removeClaim hs]
    by_cases hk : k = arm
    · subst hk
      rw [if_pos rfl]
      split <;> simp_all
    · rw [if_neg hk, ← hs.2.waiter k z]
      split
      · next other => rw [other]; simpa using Ne.symm hk
      · rfl

/-- Marks renewed over the range of a pending claim (R68, R70). -/
theorem markWaiter_marked (h : ∀ z : Fin 16, c.covers z = true → (zoneAt s z).defined = true) (arm : Arm) :
    Marked s (markWaiter arm c s) where
  same z := by rw [zoneAt_markWaiter]; split <;> rfl
  undefined z hz := by
    rw [zoneAt_markWaiter, if_neg]
    rintro ⟨covered, -⟩
    exact Bool.false_ne_true (hz.symm.trans (h z covered))

theorem markWaiter_claims (arm : Arm) (c : Claim) (s : State) : (markWaiter arm c s).zones.claims = s.zones.claims := by
  rw [markWaiter, State.mapZones, State.setZoneTable_zones]

/-- With its marks renewed a pending claim is sound (R65, R68). -/
theorem ClaimsLoose.markWaiter (hs : ClaimsLoose s) (hc : s.zones.claims.get arm = some c)
    (other : s.zones.claims.get (otherArm arm) = none) : ClaimsSound (markWaiter arm c s) where
  one := by rw [markWaiter_claims]; exact hs.one
  range k d hd := by
    rw [markWaiter_claims] at hd
    rw [Machine.markWaiter, mapZones_sup]
    obtain ⟨on, positive, inside, defined⟩ := hs.range k d hd
    refine ⟨on, positive, inside, fun z hz => ?_⟩
    exact ((markWaiter_marked (hs.range arm c hc).2.2.2 arm).fields z).1.trans (defined z hz)
  waiter k z := by
    have holder : (zoneAt (Machine.markWaiter arm c s) z).holder = (zoneAt s z).holder := by
      rw [zoneAt_markWaiter]; split <;> rfl
    have waiter : (zoneAt (Machine.markWaiter arm c s) z).waiter =
        if c.covers z = true ∧ (zoneAt s z).holder ≠ some arm then some arm else (zoneAt s z).waiter := by
      rw [zoneAt_markWaiter]; split <;> rfl
    rw [markWaiter_claims, holder, waiter]
    by_cases hk : k = arm
    · subst hk
      have old := hs.marks k z
      rw [hc] at old ⊢
      simp only [Option.any_some] at old ⊢
      split
      · next marks => exact iff_of_true rfl marks
      · next unmarked => exact ⟨old, fun marks => absurd marks unmarked⟩
    · have hk : k = otherArm arm := eq_other_of_ne hk
      subst hk
      rw [← hs.waiter_iff_of_none other z]
      split
      · have := hs.waiter_ne other z
        simp [this, Ne.symm]
      · rfl

theorem covers_defined (hs : ClaimsLoose s) (hc : s.zones.claims.get arm = some c) (z : Fin 16) (hz : c.covers z = true) :
    (zoneAt s z).defined = true := (hs.range arm c hc).2.2.2 z hz

/-- The grant of a pending claim (R70). -/
theorem grantPending_marked (hs : ClaimsLoose s) (hc : s.zones.claims.get arm = some c)
    (reset : ∀ z, (zoneAt s z).defined = false → zoneAt s z = Zone.reset) : Marked s (grantPending arm c s) where
  same z := by rw [zoneAt_grantPending hc]
  undefined z hz := by
    have uncovered : c.covers z = false := Bool.not_eq_true _ ▸ fun covered =>
      Bool.false_ne_true (hz.symm.trans (covers_defined hs hc z covered))
    rw [zoneAt_grantPending hc, uncovered, reset z hz]
    rfl

theorem ClaimsLoose.grantPending (hs : ClaimsLoose s) (hc : s.zones.claims.get arm = some c)
    (other : s.zones.claims.get (otherArm arm) = none) : ClaimsSound (grantPending arm c s) := by
  have none (k : Arm) : (Machine.grantPending arm c s).zones.claims.get k = none := by
    rw [claims_grantPending, PerArm.get_set]
    split
    · rfl
    · next hk => rw [eq_other_of_ne hk]; exact other
  refine ⟨.inl (none .a), fun k d hd => ?_, fun k z => ?_⟩
  · rw [none k] at hd; cases hd
  · rw [none k, zoneAt_grantPending hc]
    simp only [Option.any_none, Bool.false_eq_true, false_and, iff_false]
    split
    · simp
    · next unmarked =>
      by_cases hk : k = arm
      · subst hk; exact unmarked
      · rw [eq_other_of_ne hk]; exact hs.waiter_ne other z

/-- The re-evaluation of a pending claim renews its marks or grants it whole (R70). -/
theorem reevaluateClaim_sound (table : TableSound s) (hs : ClaimsLoose s)
    (other : s.zones.claims.get (otherArm arm) = none) : ZonesSound (reevaluateClaim arm s) := by
  obtain ⟨none, kept⟩ | ⟨c, hc, granted⟩ | ⟨c, hc, waits⟩ := reevaluateClaim_cases arm s
  · rw [kept]
    refine ⟨table, hs.one, hs.range, fun k z => ?_⟩
    by_cases hk : k = arm
    · subst hk; exact hs.waiter_iff_of_none none z
    · rw [eq_other_of_ne hk]; exact hs.waiter_iff_of_none other z
  · rw [granted]
    refine ZonesSound.of_kept ⟨?_, hs.grantPending hc other⟩ (judgeVerdict_kept arm _)
    exact table.of_marked (grantPending_marked hs hc table.undefined)
  · rw [waits]
    exact ⟨table.of_marked (markWaiter_marked (covers_defined hs hc) arm), hs.markWaiter hc other⟩

theorem reevaluate_sound (table : TableSound s) (hs : ClaimsLoose s) : ZonesSound (reevaluate s) := by
  obtain ⟨arm, other⟩ := one_iff.mp hs.one
  rw [reevaluate_of_none other]
  exact reevaluateClaim_sound table hs other

/-- The grant of a claim at once: every zone of the range is free or the claimant's (R67). -/
theorem holdRange_sound (hs : ZonesSound s) (free : ∀ z : Fin 16, c.covers z = true → (zoneAt s z).defined = true ∧
      (zoneAt s z).holder ≠ some (otherArm arm)) (none : s.zones.claims.get arm = none) :
    ZonesSound (holdRange arm c s) := by
  have marked : Marked s (holdRange arm c s) := {
    same := fun z => by rw [zoneAt_holdRange]; split <;> rfl
    undefined := fun z hz => by
      rw [zoneAt_holdRange, if_neg]
      exact fun covered => Bool.false_ne_true (hz.symm.trans (free z covered).1) }
  have claims : (holdRange arm c s).zones.claims = s.zones.claims := by
    rw [holdRange, State.mapZones, State.setZoneTable_zones]
  refine ⟨hs.1.of_marked marked, ?_, fun k d hd => ?_, fun k z => ?_⟩
  · rw [claims]; exact hs.2.one
  · rw [claims] at hd
    rw [holdRange, mapZones_sup]
    obtain ⟨on, positive, inside, defined⟩ := hs.2.range k d hd
    exact ⟨on, positive, inside, fun z hz => (marked.fields z).1.trans (defined z hz)⟩
  · have waiter := hs.2.waiter k z
    rw [claims, zoneAt_holdRange]
    split
    · next covered =>
      by_cases hk : k = arm
      · subst hk
        rw [none] at waiter ⊢
        simpa using waiter
      · have hk : k = otherArm arm := eq_other_of_ne hk
        subst hk
        have unheld := (free z covered).2
        rw [waiter]
        simp [unheld, Ne.symm (otherArm_ne arm)]
    · exact waiter

/-! ### The requests of an arm -/

/-- The range of a request that is taken: at least one zone, in bounds and defined (R66). -/
theorem definedRange_some {r : Request} (h : definedRange r s = some c) :
    c = namedRange r ∧ 1 ≤ c.count ∧ c.first + c.count ≤ 16 ∧
      ∀ z : Fin 16, c.covers z = true → (zoneAt s z).defined = true := by
  rw [definedRange_eq] at h
  split at h
  · cases h
  · next proper =>
    cases h
    simp only [not_or, not_lt, not_exists, not_and, Bool.not_eq_false] at proper
    obtain ⟨positive, -, inside, defined⟩ := proper
    exact ⟨rfl, positive, inside, fun z hz => defined z (covers_iff.mp hz)⟩

theorem grantable_holder (h : grantable s arm c = true) (z : Fin 16) (hz : c.covers z = true) :
    (zoneAt s z).holder ≠ some (otherArm arm) := by
  rw [grantable, Bool.or_eq_true, allCovered_iff, allCovered_iff] at h
  obtain free | own := h
  · obtain ⟨none | own, -⟩ := of_decide_eq_true (free z hz)
    · rw [none]; simp
    · rw [own]; simpa using (otherArm_ne arm).symm
  · rw [of_decide_eq_true (own z hz)]; simpa using (otherArm_ne arm).symm

theorem claimBy_sound (r : Request) (hs : ZonesSound s) : ZonesSound (claimBy arm r s).st := by
  rw [claimBy]
  split; · exact hs
  next on =>
  split; · exact hs
  next c hc =>
  obtain ⟨-, positive, inside, defined⟩ := definedRange_some hc
  split; · exact hs
  next idle =>
  have none : s.zones.claims.get arm = none := by simpa using idle
  split
  · next grants =>
    have free (z : Fin 16) (hz : c.covers z = true) := And.intro (defined z hz) (grantable_holder grants z hz)
    exact (holdRange_sound hs free none).of_kept (judgeVerdict_kept arm _)
  · split; · exact hs
    next idle =>
    have other : s.zones.claims.get (otherArm arm) = Option.none := by simpa using idle
    have claims : (s.setClaim arm (some c)).zones.claims = s.zones.claims.set arm (some c) := rfl
    have claimed : ClaimsLoose (s.setClaim arm (some c)) := by
      refine ⟨?_, fun k d hd => ?_, fun k z hw => ?_⟩
      · exact one_iff.mpr ⟨arm, by simp [other]⟩
      · rw [claims, PerArm.get_set] at hd
        split at hd
        · next hk =>
          subst hk
          cases hd
          exact ⟨on, positive, inside, defined⟩
        · exact hs.2.range k d hd
      · obtain ⟨covered, unheld⟩ := (hs.2.waiter k z).mp hw
        have hk : k ≠ arm := by rintro rfl; rw [none] at covered; cases covered
        rw [claims, PerArm.get_set, if_neg hk]
        exact ⟨covered, unheld⟩
    have same : Marked s (s.setClaim arm (some c)) := ⟨fun _ => rfl, fun _ _ => rfl⟩
    have marked : Marked (s.setClaim arm (some c)) (markWaiter arm c (s.setClaim arm (some c))) :=
      markWaiter_marked (s := s.setClaim arm (some c)) defined arm
    refine ⟨hs.1.of_marked (same.trans marked), claimed.markWaiter ?_ ?_⟩
    · rw [claims, PerArm.get_set_same]
    · rw [claims, PerArm.get_set_other _ (otherArm_ne arm), other]

theorem releaseBy_sound (r : Request) (hs : ZonesSound s) : ZonesSound (releaseBy arm r s).st := by
  have freed (p) : ZonesSound (reevaluate (freeZones p s)) :=
    reevaluate_sound (hs.1.of_marked (freeZones_marked hs p)) (freeZones_loose hs p)
  rw [releaseBy]
  split; · exact hs
  dsimp only
  split; · exact hs
  split; · exact hs
  split
  · exact hs
  · exact freed _

/-! ### The requests of the Cell link -/

theorem armFreed_sound (hs : ZonesSound s) (arm : Arm) : ZonesSound (armFreed arm s) := by
  rw [armFreed]
  split
  · next none =>
    refine hs.of_kept ⟨?_, freeZones_claims _ s, fun k off => .inl (by rwa [freeZones_sup] at off)⟩
    refine vext fun z => ?_
    have unheld := heldSet_eq_zero_iff.mp none z
    exact (zoneAt_freeZones _ s z).trans (if_neg (by simpa using unheld))
  · exact reevaluate_sound (hs.1.of_marked (freeZones_marked hs _)) (freeZones_loose hs _)

theorem zoneFree_sound (r : Request) (hs : ZonesSound s) : ZonesSound (zoneFree r s).st := by
  obtain none | ⟨arm, -, harm⟩ := armOfSel_cases r.sel
  · rw [zoneFree, none]; exact hs
  rw [zoneFree_eq harm.symm]
  split; · exact hs
  split
  · exact hs
  · exact (armFreed_sound hs arm).of_kept (judgeVerdict_kept arm _)

theorem refreshGuard_kept (arm : Arm) (s : State) : ZonesKept s (refreshGuard arm s) :=
  .of_unchangedBut (refreshGuard_unchangedBut arm s) (by cases arm <;> decide) fun k off => refreshGuard_state arm s k ▸ off

/-- What a taken ZONE_DEFINE has checked (Table 4.2). -/
structure DefineChecked (r : Request) (z : Fin 16) (s : State) : Prop where
  disabled : ∀ arm, (s.sup.get arm).state = .disabled
  free : ∀ i : Fin 16, (zoneAt s i).holder = none
  bounds : r.d2 ≠ 0 → -2000000000 ≤ r.d0.toInt ∧ r.d0.toInt < r.d1.toInt ∧ r.d1.toInt ≤ 2000000000
  apart : r.d2 ≠ 0 → ∀ i : Fin 16, i ≠ z → (zoneAt s i).defined = true →
    (zoneAt s i).upper ≤ r.d0.toInt ∨ r.d1.toInt ≤ (zoneAt s i).lower
  rack : r.d2 = 2 → ∀ i : Fin 16, i ≠ z → (zoneAt s i).defined = true → (zoneAt s i).kind ≠ .rack

theorem defineChecked {r : Request} {z : Fin 16} (h : zoneDefineRefusal r z s = none) : DefineChecked r z s := by
  have disabled := disabled_of_zoneDefineRefusal h
  simp only [zoneDefineRefusal] at h
  split at h; · cases h
  split at h; · cases h
  next free =>
  split at h; · cases h
  split at h; · cases h
  next bounds =>
  split at h; · cases h
  next apart =>
  split at h; · cases h
  next rack =>
  exact {
    disabled := disabled
    free := fun i => by_contra fun held => free ⟨i, held⟩
    bounds := fun define => by
      have inside := not_and.mp bounds define
      simp only [not_or, not_lt, not_le] at inside
      omega
    apart := fun define i hi hd => by
      have clear : ¬ (r.d0.toInt < (zoneAt s i).upper ∧ (zoneAt s i).lower < r.d1.toInt) :=
        fun bad => apart ⟨define, i, ⟨hi, hd⟩, bad⟩
      omega
    rack := fun two i hi hd kind => rack ⟨two, i, ⟨hi, hd⟩, kind⟩ }

/-- The record that a taken ZONE_DEFINE writes: its reset values, or the defined interval (R62). -/
theorem zoneDefined_eq {r : Request} {old : Zone} (holder : old.holder = none) (waiter : old.waiter = none) :
    zoneDefined r old = if r.d2 = 0 then Zone.reset else
      { defined := true, lower := r.d0.toInt, upper := r.d1.toInt, kind := if r.d2 = 2 then .rack else .body,
        holder := none, waiter := none } := by
  rw [zoneDefined, holder, waiter]
  split
  · next undefine => simp [undefine, Zone.reset]
  · next define => simp [show ¬ r.d2 = 0#32 from define]

/-- The table with a record that the checks of Table 4.2 let through (R61, R62). -/
theorem tableSound_redefineZone (hs : TableSound s) {r : Request} {z : Fin 16} (checked : DefineChecked r z s)
    {old : Zone} (holder : old.holder = none) (waiter : old.waiter = none) :
    TableSound (redefineZone z (zoneDefined r old) s) := by
  have at_ (i : Fin 16) := zoneAt_redefineZone z (zoneDefined r old) s i
  simp only [zoneDefined_eq holder waiter] at at_ ⊢
  by_cases undefine : r.d2 = 0
  · simp only [undefine, if_true] at at_ ⊢
    have defined {i : Fin 16} (h : (if i = z then Zone.reset else zoneAt s i).defined = true) :
        i ≠ z ∧ (zoneAt s i).defined = true := by
      split at h
      · cases h
      · next other => exact ⟨other, h⟩
    constructor <;> simp only [at_]
    · intro i hi
      obtain ⟨hz, hd⟩ := defined hi
      rw [if_neg hz]; exact hs.bounds i hd
    · intro i hi
      split
      · rfl
      · next other => rw [if_neg other] at hi; exact hs.undefined i hi
    · intro i j hij hi hj
      obtain ⟨hiz, hdi⟩ := defined hi
      obtain ⟨hjz, hdj⟩ := defined hj
      rw [if_neg hiz, if_neg hjz]; exact hs.disjoint i j hij hdi hdj
    · intro i j hi hj
      obtain ⟨hiz, hdi⟩ := defined hi
      obtain ⟨hjz, hdj⟩ := defined hj
      rw [if_neg hiz, if_neg hjz]; exact hs.rack i j hdi hdj
  · simp only [undefine, if_false] at at_ ⊢
    have apart := checked.apart undefine
    constructor <;> simp only [at_]
    · intro i hi
      split
      · simpa [maxCount] using checked.bounds undefine
      · next other => rw [if_neg other] at hi; exact hs.bounds i hi
    · intro i hi
      split
      · next same => rw [if_pos same] at hi; cases hi
      · next other => rw [if_neg other] at hi; exact hs.undefined i hi
    · intro i j hij hi hj
      by_cases hiz : i = z
      · have hjz : j ≠ z := fun h => hij (hiz.trans h.symm)
        rw [if_neg hjz] at hj
        rw [if_pos hiz, if_neg hjz]
        exact (apart j hjz hj).symm
      · rw [if_neg hiz] at hi ⊢
        by_cases hjz : j = z
        · rw [if_pos hjz]; exact apart i hiz hi
        · rw [if_neg hjz] at hj ⊢; exact hs.disjoint i j hij hi hj
    · intro i j hi hj
      have clash {k : Fin 16} (hk : k ≠ z) (hd : (zoneAt s k).defined = true) (rack : (zoneAt s k).kind = .rack)
          (kind : (if r.d2 = 2 then ZoneKind.rack else .body) = .rack) : False := by
        split at kind
        · next two => exact checked.rack two k hk hd rack
        · cases kind
      by_cases hiz : i = z <;> by_cases hjz : j = z
      · exact fun _ _ => hiz.trans hjz.symm
      · rw [if_neg hjz] at hj ⊢
        rw [if_pos hiz]
        exact fun kind rack => (clash hjz hj rack kind).elim
      · rw [if_neg hiz] at hi ⊢
        rw [if_pos hjz]
        exact fun rack kind => (clash hiz hi rack kind).elim
      · rw [if_neg hiz] at hi ⊢
        rw [if_neg hjz] at hj ⊢
        exact hs.rack i j hi hj

theorem redefineZone_claims (z : Fin 16) (record : Zone) (s : State) :
    (redefineZone z record s).zones.claims = s.zones.claims :=
  PerArm.ext_get fun arm => redefineZone_unchangedBut z record s (.claim arm) (by simp)

theorem zoneDefine_sound (r : Request) (hs : ZonesSound s) : ZonesSound (zoneDefine r s).st := by
  rcases lt_or_ge r.sel.toNat 16 with hz | hz
  swap
  · rw [zoneDefine, indexOf_eq_none (by omega)]; exact hs
  rw [zoneDefine_eq (z := ⟨r.sel.toNat, hz⟩) rfl]
  cases refusal : zoneDefineRefusal r ⟨r.sel.toNat, hz⟩ s with
  | some code => exact hs
  | none =>
    have checked := defineChecked refusal
    have none (arm : Arm) := hs.2.none_of_disabled (checked.disabled arm)
    have waiter (z : Fin 16) : (zoneAt s z).waiter = Option.none := by
      cases hw : (zoneAt s z).waiter with
      | none => rfl
      | some arm => exact absurd hw (hs.2.waiter_ne (none arm) z)
    change ZonesSound (redefineZone _ _ s)
    refine ⟨tableSound_redefineZone hs.1 checked (checked.free _) (waiter _), ?_, fun k d hd => ?_, fun k i => ?_⟩
    · exact .inl ((congrArg (·.get .a) (redefineZone_claims _ _ s)).trans (none .a))
    · rw [redefineZone_claims, none k] at hd; cases hd
    · rw [redefineZone_claims, none k, zoneAt_redefineZone, zoneDefined_eq (checked.free _) (waiter _)]
      simp only [Option.any_none, Bool.false_eq_true, false_and, iff_false]
      split
      · split <;> exact nofun
      · rw [waiter]; exact nofun

end Zones

end Sys2Proof.Machine
end

section
/-! PROOFS. Every command keeps the zones and claims sound (R61, R64, R65). -/

namespace Sys2Proof.Machine

/-! ### Arms that stay out of DISABLED -/

/-- The arm is in another state than DISABLED. -/
def armOn (arm : Arm) (s : State) : Prop := (s.sup.get arm).state ≠ .disabled

section On
variable {c : Instr} {s t u : State} {arm : Arm}

/-- The judgement takes no arm to DISABLED (Table 5.6). -/
theorem armOn_conclude (s0 : State) (trigger : Trigger) (h : armOn arm s) : armOn arm (conclude s0 trigger s) := by
  rw [armOn]
  obtain ⟨-, -, kept⟩ | moved := conclude_sup_cases s0 trigger s arm
  · rw [kept]; exact h
  · rw [moved.state]; exact stateAfter_ne_disabled h

theorem armOn_frameStable (arm : Arm) : FrameStable (armOn arm) where
  accept l s h := fun off => h ((acceptFrame_moves l s arm).state ▸ off)
  judge s0 trigger _ h := armOn_conclude s0 trigger h
  answer _ _ _ h := h
  pass _ _ h := h

theorem armOn_armSet (r : Request) (h : armOn arm s) : armOn arm (armSet r s).st := by
  obtain ⟨k, w, on, outcome, moves, -⟩ := armSet_outcome r s
  rw [outcome, armOn, faultIf_sup, State.setSup_sup]
  by_cases hk : arm = k
  · subst hk; rw [PerArm.get_set_same, moves.state]; exact h
  · rw [PerArm.get_set_other _ hk]; exact h

theorem armOn_faultClear (r : Request) (h : armOn arm s) : armOn arm (faultClear r s).st := by
  obtain ⟨k, recorded, outcome, -⟩ := faultClear_outcome r s
  rw [outcome, armOn, State.setSup_sup]
  by_cases hk : arm = k
  · subst hk; rw [PerArm.get_set_same]; exact h
  · rw [PerArm.get_set_other _ hk]; exact h

theorem armOn_armEnable (l : Link) (k : Arm) (h : armOn arm s) : armOn arm (armEnable l k s).st := by
  simp only [armEnable]
  split; · exact h
  split; · exact h
  have entered : armOn arm (enterState k .starting s) := by
    rw [armOn]
    by_cases hk : arm = k
    · subst hk; rw [(enterState_moved arm .starting s).state]; simp
    · rw [eq_other_of_ne hk, enterState_other, ← eq_other_of_ne hk]; exact h
  rw [okay, restartReport, armOn, State.modSup, State.setSup_sup]
  by_cases hk : arm = k
  · subst hk; rw [PerArm.get_set_same]; exact entered
  · rw [PerArm.get_set_other _ hk]; exact entered

theorem armOn_exec_of_special (h : exec c s = .next t) (ho : ordinary c = false) (hc : c ≠ .resetInputAsserted)
    (hr : ∀ r, c ≠ .armDisable r ∧ c ≠ .armReset r) (on : armOn arm s) : armOn arm t := by
  have stable := armOn_frameStable arm
  cases c <;> cases ho
  case resetInputAsserted => exact absurd rfl hc
  case armDisable r => exact absurd rfl (hr r).1
  case armReset r => exact absurd rfl (hr r).2
  case armSet r => cases h; exact stable.handleRequest (fun _ => armOn_armSet r) on
  case faultClear r => cases h; exact stable.handleRequest (fun _ => armOn_faultClear r) on
  case armEnable r => cases h; exact stable.handleControl (fun k _ => armOn_armEnable r.link k) on

/-- Only ARM_DISABLE, ARM_RESET and the reset input take an arm to DISABLED (Table 5.6, R92, R93). -/
theorem armOn_exec (h : exec c s = .next t) (hc : c ≠ .resetInputAsserted)
    (hr : ∀ r, c ≠ .armDisable r ∧ c ≠ .armReset r) (on : armOn arm s) : armOn arm t := by
  cases ho : ordinary c with
  | true =>
    obtain ⟨_, trigger, u, event⟩ := exec_event h ho
    have before : armOn arm u := fun off => on ((event.causes.sup arm).state ▸ off)
    rw [armOn, event.sup]
    exact armOn_conclude s trigger before
  | false => exact armOn_exec_of_special h ho hc hr on

end On

/-! ### Arms taken to DISABLED -/

section Off
variable {s t u : State} {arm : Arm}

/-- Removing a claim reads the zone table and the claims alone. -/
theorem removeClaim_zones_congr (table : t.zones.table = s.zones.table) (claims : t.zones.claims = s.zones.claims) (arm : Arm) :
    (removeClaim arm t).zones.table = (removeClaim arm s).zones.table ∧
      (removeClaim arm t).zones.claims = (removeClaim arm s).zones.claims := by
  refine ⟨?_, by rw [claims_removeClaim, claims_removeClaim, claims]⟩
  rw [removeClaim, removeClaim, claims]
  split
  · exact table
  · simp only [State.mapZones, State.setZoneTable_zones, State.setClaim_zones, table]

/-- An arm taken to DISABLED with its claim removed. -/
theorem removedClaim_kept (table : u.zones.table = (removeClaim arm s).zones.table)
    (claims : u.zones.claims = (removeClaim arm s).zones.claims)
    (other : u.sup.get (otherArm arm) = s.sup.get (otherArm arm)) : ZonesKept (removeClaim arm s) u where
  table := table
  claims := claims
  off k off := by
    by_cases hk : k = arm
    · subst hk
      exact .inr (by rw [claims_removeClaim, PerArm.get_set_same])
    · left
      rw [removeClaim_state]
      rw [eq_other_of_ne hk] at off ⊢
      rwa [other] at off

theorem armDisable_sound (l : Link) (arm : Arm) (hs : ZonesSound s) : ZonesSound (armDisable l arm s).st := by
  rw [armDisable_eq]
  split
  · exact hs
  · have zones : (disableArm arm s).zones = s.zones := by simp [disableArm, State.modSup]
    obtain ⟨table, claims⟩ := removeClaim_zones_congr (congrArg _ zones) (congrArg _ zones) arm
    refine (hs.removeClaim arm).of_kept (removedClaim_kept table claims ?_)
    exact (congrArg (·.get (otherArm arm)) (disabledState_sup l arm s)).trans (PerArm.get_set_other _ (otherArm_ne arm) _)

theorem armReset_zones (arm : Arm) (s : State) : (armReset arm s).st.zones.table = (removeClaim arm s).zones.table ∧
    (armReset arm s).st.zones.claims = (removeClaim arm s).zones.claims := by
  have change := resetChange_unchangedBut_own arm s
  have changeClaims : (resetChange arm s).zones.claims = s.zones.claims :=
    PerArm.ext_get fun k => change (.claim k) (by cases k <;> simp)
  obtain ⟨table, claims⟩ := removeClaim_zones_congr (change .zoneTable (by simp)) changeClaims arm
  have judged := judgeSense_unchangedBut arm (resetRecords arm s)
  have judgedClaims : (judgeSense arm (resetRecords arm s)).zones.claims = (resetRecords arm s).zones.claims :=
    PerArm.ext_get fun k => judged (.claim k) (by simp)
  have cleared (u : State) : (clearRecords arm u).zones.table = u.zones.table ∧
      (clearRecords arm u).zones.claims = u.zones.claims := ⟨rfl, rfl⟩
  have supervised (u : State) : (resetSupervisor arm u).zones = u.zones := rfl
  rw [armReset_eq]
  refine ⟨(judged .zoneTable (by simp)).trans ?_, judgedClaims.trans ?_⟩
  · rw [resetRecords, (cleared _).1, supervised]; exact table
  · rw [resetRecords, (cleared _).2, supervised]; exact claims

theorem armReset_sound (arm : Arm) (hs : ZonesSound s) : ZonesSound (armReset arm s).st := by
  obtain ⟨table, claims⟩ := armReset_zones arm s
  refine (hs.removeClaim arm).of_kept (removedClaim_kept table claims ?_)
  exact supOf_unchangedBut (armReset_unchangedBut_own arm s) (by cases arm <;> decide)

end Off

/-! ### Every command -/

section Exec
variable {c : Instr} {s t : State}

theorem zonesSound_frameStable : FrameStable ZonesSound where
  accept l s hs := hs.of_kept <| .of_unchangedBut (acceptFrame_unchangedBut l s) (by cases l <;> decide) fun arm off =>
    by_contra fun on => (armOn_frameStable arm).accept l s on off
  judge s0 trigger s hs := hs.of_kept <| .of_unchangedBut (conclude_unchangedBut_judged s0 trigger s) (by decide)
    fun arm off => by_contra fun on => (armOn_frameStable arm).judge s0 trigger s on off
  answer _ _ _ hs := hs.of_kept ⟨rfl, rfl, fun _ => .inl⟩
  pass _ _ hs := hs.of_kept ⟨rfl, rfl, fun _ => .inl⟩

/-- The commands that reach the zone table, a claim, or DISABLED. -/
def reachesZones : Instr → Bool
  | .resetInputAsserted | .armDisable _ | .armReset _ | .claim _ | .claimWithdraw _ | .release _ | .zoneFree _
  | .zoneDefine _ => true
  | _ => false

theorem zonesApart (h : reachesZones c = false) : ∀ b ∈ [Block.zoneTable, .claim .a, .claim .b], b ∉ blocksOf c := by
  cases c <;> cases h <;> exact of_decide_eq_true rfl

theorem exec_zonesKept (h : exec c s = .next t) (hc : reachesZones c = false) : ZonesKept s t := by
  have ne : c ≠ .resetInputAsserted := by rintro rfl; cases hc
  refine .of_unchangedBut (exec_unchangedBut h ne) (zonesApart hc) fun arm off => by_contra fun on => ?_
  exact armOn_exec h ne (fun r => ⟨fun e => (by rw [e] at hc; cases hc), fun e => (by rw [e] at hc; cases hc)⟩) on off

theorem zonesSound_readsOnly :
    readsOnly ([Block.zoneTable, .claim .a, .claim .b] ++ ofArms .supervisor) ZonesSound := by
  intro s t h hs
  exact hs.of_kept {
    table := h .zoneTable (by decide)
    claims := PerArm.ext_get fun arm => h (.claim arm) (by cases arm <;> decide)
    off := fun arm off => .inl ((h (.supervisor arm) (by cases arm <;> decide)).1 ▸ off) }

theorem zonesSound_exec_of_reaches (h : exec c s = .next t) (hc : reachesZones c = true) (hs : ZonesSound s) :
    ZonesSound t := by
  have stable := zonesSound_frameStable
  have ofArm {access : Access} {l : Link} {act : Arm → State → Act}
      (hact : ∀ arm u, ZonesSound u → ZonesSound (act arm u).st) :
      ZonesSound (handleRequest access l (forLinkArm l act) s) :=
    stable.handleRequest (fun _ => FrameStable.forLinkArm hact) hs
  cases c <;> cases hc
  case resetInputAsserted =>
    exact exec_resetInputAsserted_keeps (zonesSound_readsOnly.deviceReset (by decide) reset_zonesSound) h hs
  case armDisable r => cases h; exact stable.handleControl (fun arm _ => armDisable_sound r.link arm) hs
  case armReset r => cases h; exact stable.handleControl (fun arm _ => armReset_sound arm) hs
  case claim r => cases h; exact ofArm fun _ _ => claimBy_sound r
  case claimWithdraw r => cases h; exact ofArm fun arm _ hu => hu.removeClaim arm
  case release r => cases h; exact ofArm fun _ _ => releaseBy_sound r
  case zoneFree r => cases h; exact stable.handleRequest (fun _ => zoneFree_sound r) hs
  case zoneDefine r => cases h; exact stable.handleRequest (fun _ => zoneDefine_sound r) hs

theorem zonesSound_exec (c : Instr) (s t : State) (h : exec c s = .next t) (hs : ZonesSound s) : ZonesSound t := by
  cases hc : reachesZones c with
  | false => exact hs.of_kept (exec_zonesKept h hc)
  | true => exact zonesSound_exec_of_reaches h hc hs

/-- Settles O57. -/
theorem everyStepKeepsZonesAndClaimsSound : Obligations.EveryStepKeepsZonesAndClaimsSound := by
  intro s t hs h
  exact step_keeps zonesSound_readsOnly (by decide) zonesSound_exec h hs

end Exec

end Sys2Proof.Machine
end

section
/-! PROOFS. A zone gets its holder by a grant alone and loses it by release or freeing alone (R61, R67, R70, R73, R74). -/

namespace Sys2Proof.Machine

/-! ### What an accepted frame leaves of the zones -/

section Frames
variable {s : State} {r : Request}

/-- A frame that is not taken, or denied, leaves the zones; one that is taken leaves them as its request does. -/
theorem handleRequest_zones (access : Access) (l : Link) (act : State → Act) (s : State) :
    (handleRequest access l act s).zones = s.zones ∨
    takesFrame l s = true ∧ access.permits l = true ∧
      (handleRequest access l act s).zones = (act (acceptFrame l s)).st.zones := by
  cases ht : takesFrame l s with
  | false => rw [handleRequest, handleFrame_passed ht]; exact .inl rfl
  | true =>
    cases hp : access.permits l with
    | false => rw [handleRequest_denied ht hp]; left; simp [writeReply]
    | true => rw [handleRequest_permitted ht hp]; right; simp [writeReply]

/-- A request of an arm link leaves the zones, or acts for the arm of its link. -/
theorem handleRequest_arm_zones (act : Arm → State → Act) (r : Request) (s : State) :
    (handleRequest .armLinks r.link (forLinkArm r.link act) s).zones = s.zones ∨
    ∃ arm, onArm arm r s ∧ (handleRequest .armLinks r.link (forLinkArm r.link act) s).zones =
      (act arm (acceptFrame (linkOf arm) s)).st.zones := by
  obtain kept | ⟨taken, permitted, zones⟩ := handleRequest_zones .armLinks r.link (forLinkArm r.link act) s
  · exact .inl kept
  right
  obtain ⟨arm, hl⟩ := permits_armLinks permitted
  rw [hl] at taken
  refine ⟨arm, ⟨hl, taken⟩, zones.trans ?_⟩
  rw [hl, forLinkArm, armOf_linkOf]

theorem zoneAt_of_zones {s t : State} (h : t.zones = s.zones) (z : Fin 16) : zoneAt t z = zoneAt s z := by
  rw [zoneAt, h, zoneAt]

end Frames

/-! ### How an operation moves a holder -/

section Holders
variable {s : State} {arm : Arm} {r : Request} {z : Fin 16}

/-- A re-evaluation leaves a holder, or gives a free zone of the pending claim to its arm (R70). -/
theorem reevaluateClaim_holder (arm : Arm) (s : State) (z : Fin 16) :
    (zoneAt (reevaluateClaim arm s) z).holder = (zoneAt s z).holder ∨
    ((zoneAt s z).holder = none ∧ (zoneAt (reevaluateClaim arm s) z).holder = some arm ∧
      (s.zones.claims.get arm).any (fun c => c.covers z) = true ∧ (reevaluateClaim arm s).zones.claims.get arm = none) := by
  cases hc : s.zones.claims.get arm with
  | none => rw [reevaluateClaim_of_none hc]; exact .inl rfl
  | some c =>
    by_cases blocked : ∃ z : Fin 16, c.covers z = true ∧ (zoneAt s z).holder = some (otherArm arm)
    · rw [reevaluateClaim_of_blocked hc blocked, zoneAt_markWaiter]
      left; split <;> rfl
    · push Not at blocked
      obtain ⟨none, zones, -⟩ := reevaluateClaim_grants hc blocked
      rw [zones]
      cases covered : c.covers z with
      | false => exact .inl rfl
      | true =>
        have unheld := blocked z covered
        cases hh : (zoneAt s z).holder with
        | none => exact .inr ⟨rfl, rfl, covered, none⟩
        | some k =>
          have own : k = arm := by
            by_contra other
            rw [hh, eq_other_of_ne other] at unheld
            exact unheld rfl
          left; simp [own]

/-- A re-evaluation of the pending claim, whichever arm's it is. -/
theorem reevaluate_holder (hs : ClaimsLoose s) (z : Fin 16) :
    (zoneAt (reevaluate s) z).holder = (zoneAt s z).holder ∨
    ∃ arm, (zoneAt s z).holder = none ∧ (zoneAt (reevaluate s) z).holder = some arm ∧
      (s.zones.claims.get arm).any (fun c => c.covers z) = true ∧ (reevaluate s).zones.claims.get arm = none := by
  obtain ⟨arm, other⟩ := one_iff.mp hs.one
  rw [reevaluate_of_none other]
  exact (reevaluateClaim_holder arm s z).imp_right fun moved => ⟨arm, moved⟩

/-- A CLAIM gives free zones of its range to its arm and takes none (R67). -/
theorem claimBy_holder (arm : Arm) (r : Request) (s : State) (z : Fin 16) :
    (zoneAt (claimBy arm r s).st z).holder = (zoneAt s z).holder ∨
    ((zoneAt s z).holder = none ∧ (zoneAt (claimBy arm r s).st z).holder = some arm ∧
      r.sel.toNat ≤ z.val ∧ z.val < r.sel.toNat + r.d0.toNat) := by
  rw [claimBy]
  split; · exact .inl rfl
  split; · exact .inl rfl
  next c hc =>
  obtain ⟨rfl, -⟩ := definedRange_some hc
  split; · exact .inl rfl
  split
  · next grants =>
    have moved : zoneAt (judgeVerdict arm (holdRange arm (namedRange r) s)) z = zoneAt (holdRange arm (namedRange r) s) z :=
      (judgeVerdict_kept arm _).zoneAt z
    simp only [zoneAct, moved, zoneAt_holdRange]
    split
    · next covered =>
      have unheld := grantable_holder grants z covered
      cases hh : (zoneAt s z).holder with
      | none => exact .inr ⟨rfl, rfl, covers_iff.mp covered⟩
      | some k =>
        left
        by_contra other
        have hk : k = otherArm arm := eq_other_of_ne fun e => other (by rw [e])
        rw [hh, hk] at unheld
        exact unheld rfl
    · exact .inl rfl
  · split
    · exact .inl rfl
    · left; simp only [zoneAct, zoneAt_markWaiter]; split <;> rfl

/-- The holder that a freeing and the re-evaluation after it leave (R70, R73, R74). -/
theorem freed_holder (hs : ZonesSound s) (p : Fin 16 → Zone → Bool) (z : Fin 16) :
    (zoneAt (reevaluate (freeZones p s)) z).holder =
        (if p z (zoneAt s z) then none else (zoneAt s z).holder) ∨
    ∃ arm, (if p z (zoneAt s z) then none else (zoneAt s z).holder) = none ∧
      (zoneAt (reevaluate (freeZones p s)) z).holder = some arm ∧
      (s.zones.claims.get arm).any (fun c => c.covers z) = true ∧
      (reevaluate (freeZones p s)).zones.claims.get arm = none := by
  have freed : (zoneAt (freeZones p s) z).holder = if p z (zoneAt s z) then none else (zoneAt s z).holder := by
    rw [zoneAt_freeZones]; split <;> rfl
  have moved := reevaluate_holder (freeZones_loose hs p) z
  rwa [freed, freeZones_claims] at moved

/-- The arms to which a zone goes between two states, and those from which it goes. -/
structure HolderMoves (gives takes : Arm → Prop) (s u : State) (z : Fin 16) : Prop where
  gets : ∀ arm, (zoneAt u z).holder = some arm → gives arm
  loses : ∀ arm, (zoneAt s z).holder = some arm → takes arm

/-- A freeing moves a holder by its own zones and by the grant after it. -/
theorem freed_moves (hs : ZonesSound s) (p : Fin 16 → Zone → Bool) {u : State}
    (zones : u.zones.table = (reevaluate (freeZones p s)).zones.table)
    (claims : u.zones.claims = (reevaluate (freeZones p s)).zones.claims) {z : Fin 16}
    (moved : (zoneAt u z).holder ≠ (zoneAt s z).holder) :
    HolderMoves (fun arm => (s.zones.claims.get arm).any (fun c => c.covers z) = true ∧ u.zones.claims.get arm = none)
      (fun _ => p z (zoneAt s z) = true) s u z := by
  have at_ : zoneAt u z = zoneAt (reevaluate (freeZones p s)) z := by rw [zoneAt, zones, zoneAt]
  rw [at_] at moved
  constructor
  · intro arm gets
    rw [at_] at gets
    obtain same | ⟨k, -, gives, covered, none⟩ := freed_holder hs p z
    · rw [same] at gets moved
      split at gets
      · cases gets
      · next kept => exact absurd (if_neg kept) moved
    · cases gives.symm.trans gets
      exact ⟨covered, claims ▸ none⟩
  · intro arm loses
    by_contra kept
    obtain same | ⟨k, none, -⟩ := freed_holder hs p z
    · exact moved (same.trans (if_neg kept))
    · rw [if_neg kept, loses] at none
      cases none

/-- A RELEASE frees zones of its arm alone (R73). -/
theorem releaseBy_holder (hs : ZonesSound s) (moved : (zoneAt (releaseBy arm r s).st z).holder ≠ (zoneAt s z).holder) :
    HolderMoves (fun k => (s.zones.claims.get k).any (fun c => c.covers z) = true ∧
        (releaseBy arm r s).st.zones.claims.get k = none)
      (fun k => k = arm ∧ r.sel.toNat ≤ z.val ∧ z.val < r.sel.toNat + r.d0.toNat) s (releaseBy arm r s).st z := by
  rw [releaseBy_eq] at moved ⊢
  cases refusal : releaseRefusal arm r s with
  | some code => rw [refusal] at moved; exact absurd rfl moved
  | none =>
    rw [refusal] at moved
    obtain ⟨gets, loses⟩ := freed_moves hs _ rfl rfl moved
    refine ⟨gets, fun k held => ?_⟩
    have covered := covers_iff.mp (loses k held)
    have own := held_of_releaseRefusal refusal covered
    rw [held] at own
    exact ⟨Option.some.inj own, covered⟩

/-- A ZONE_FREE frees the zones of a DISABLED arm alone (R74). -/
theorem zoneFree_holder (hs : ZonesSound s) (moved : (zoneAt (zoneFree r s).st z).holder ≠ (zoneAt s z).holder) :
    HolderMoves (fun k => (s.zones.claims.get k).any (fun c => c.covers z) = true ∧
        (zoneFree r s).st.zones.claims.get k = none)
      (fun k => r.sel.toNat = armIndex k ∧ (s.sup.get k).state = .disabled) s (zoneFree r s).st z := by
  obtain none | ⟨arm, -, harm⟩ := armOfSel_cases r.sel
  · rw [zoneFree, none] at moved; exact absurd rfl moved
  rw [zoneFree_eq harm.symm] at moved ⊢
  split at moved; · exact absurd rfl moved
  next disabled =>
  split at moved; · exact absurd rfl moved
  next closed =>
  rw [if_neg disabled, if_neg closed]
  have judged := judgeVerdict_kept arm (armFreed arm s)
  have unfreed (none : heldSet s arm = 0#16) : False := by
    refine moved ((congrArg Zone.holder (judged.zoneAt z)).trans ?_)
    rw [armFreed, if_pos none, zoneAt_freeZones, if_neg]
    simpa using heldSet_eq_zero_iff.mp none z
  have freed : armFreed arm s = reevaluate (freeZones (fun _ z => decide (z.holder = some arm)) s) := by
    rw [armFreed, if_neg unfreed]
  have zones : (judgeVerdict arm (armFreed arm s)).zones.table = _ := judged.table
  obtain ⟨gets, loses⟩ := freed_moves hs _ (judged.table.trans (by rw [freed])) (judged.claims.trans (by rw [freed])) moved
  refine ⟨gets, fun k held => ?_⟩
  have own := of_decide_eq_true (loses k held)
  rw [held] at own
  cases own
  exact ⟨harm, not_not.mp disabled⟩

end Holders

/-! ### Every command -/

section Exec
variable {c : Instr} {s t : State} {z : Fin 16}

/-- A grant at once, or that of the pending claim after a release or a freeing (R67, R70). -/
def grantsTo (c : Instr) (s t : State) (z : Fin 16) (arm : Arm) : Prop :=
  (∃ r, c = .claim r ∧ onArm arm r s ∧ r.sel.toNat ≤ z.val ∧ z.val < r.sel.toNat + r.d0.toNat) ∨
  ((s.zones.claims.get arm).any (fun k => k.covers z) = true ∧ t.zones.claims.get arm = none ∧
    ∃ r, c = .release r ∨ c = .zoneFree r)

/-- A release by the holder, or the freeing of a DISABLED arm's zones (R73, R74). -/
def freesFrom (c : Instr) (s : State) (z : Fin 16) (arm : Arm) : Prop :=
  (∃ r, c = .release r ∧ onArm arm r s ∧ r.sel.toNat ≤ z.val ∧ z.val < r.sel.toNat + r.d0.toNat) ∨
  (∃ r, c = .zoneFree r ∧ onCell r s ∧ r.sel.toNat = armIndex arm ∧ (s.sup.get arm).state = .disabled)

theorem acceptFrame_zonesSound (hs : ZonesSound s) (l : Link) : ZonesSound (acceptFrame l s) :=
  zonesSound_frameStable.accept l s hs

theorem claim_holderMoves {r : Request} (h : exec (.claim r) s = .next t)
    (moved : (zoneAt t z).holder ≠ (zoneAt s z).holder) :
    HolderMoves (grantsTo (.claim r) s t z) (freesFrom (.claim r) s z) s t z := by
  cases h
  obtain kept | ⟨arm, own, zones⟩ := handleRequest_arm_zones (fun arm => claimBy arm r) r s
  · exact absurd (congrArg Zone.holder (zoneAt_of_zones kept z)) moved
  have accepted : zoneAt (acceptFrame (linkOf arm) s) z = zoneAt s z := zoneAt_acceptFrame _ s z
  have acted := claimBy_holder arm r (acceptFrame (linkOf arm) s) z
  rw [accepted, ← zoneAt_of_zones zones z] at acted
  obtain ⟨free, gives, range⟩ := acted.resolve_left moved
  constructor
  · intro k gets
    cases gives.symm.trans gets
    exact .inl ⟨r, rfl, own, range⟩
  · intro k held
    rw [free] at held
    cases held

theorem release_holderMoves {r : Request} (hs : ZonesSound s) (h : exec (.release r) s = .next t)
    (moved : (zoneAt t z).holder ≠ (zoneAt s z).holder) :
    HolderMoves (grantsTo (.release r) s t z) (freesFrom (.release r) s z) s t z := by
  cases h
  obtain kept | ⟨arm, own, zones⟩ := handleRequest_arm_zones (fun arm => releaseBy arm r) r s
  · exact absurd (congrArg Zone.holder (zoneAt_of_zones kept z)) moved
  have accepted : (acceptFrame (linkOf arm) s).zones = s.zones := acceptFrame_zones _ s
  rw [zoneAt_of_zones zones z, ← zoneAt_of_zones accepted z] at moved
  obtain ⟨gets, loses⟩ := releaseBy_holder (acceptFrame_zonesSound hs _) moved
  constructor
  · intro k held
    obtain ⟨covered, none⟩ := gets k (zoneAt_of_zones zones z ▸ held)
    rw [accepted] at covered
    exact .inr ⟨covered, by rw [zones]; exact none, r, .inl rfl⟩
  · intro k held
    obtain ⟨rfl, range⟩ := loses k (by rw [zoneAt_of_zones accepted z]; exact held)
    exact .inl ⟨r, rfl, own, range⟩

theorem zoneFree_holderMoves {r : Request} (hs : ZonesSound s) (h : exec (.zoneFree r) s = .next t)
    (moved : (zoneAt t z).holder ≠ (zoneAt s z).holder) :
    HolderMoves (grantsTo (.zoneFree r) s t z) (freesFrom (.zoneFree r) s z) s t z := by
  cases h
  obtain kept | ⟨taken, permitted, zones⟩ := handleRequest_zones .cellLink r.link (zoneFree r) s
  · exact absurd (congrArg Zone.holder (zoneAt_of_zones kept z)) moved
  have hl : r.link = .cell := of_decide_eq_true permitted
  rw [hl] at taken
  have accepted : (acceptFrame r.link s).zones = s.zones := acceptFrame_zones _ s
  have sup : (acceptFrame r.link s).sup = s.sup := by rw [hl]; rfl
  rw [zoneAt_of_zones zones z, ← zoneAt_of_zones accepted z] at moved
  obtain ⟨gets, loses⟩ := zoneFree_holder (acceptFrame_zonesSound hs _) moved
  constructor
  · intro k held
    obtain ⟨covered, none⟩ := gets k (zoneAt_of_zones zones z ▸ held)
    rw [accepted] at covered
    exact .inr ⟨covered, (congrArg (fun u => u.claims.get k) zones).trans none, r, .inr rfl⟩
  · intro k held
    obtain ⟨sel, disabled⟩ := loses k (by rw [zoneAt_of_zones accepted z]; exact held)
    rw [sup] at disabled
    exact .inr ⟨r, rfl, ⟨hl, taken⟩, sel, disabled⟩

/-- The zone has the holder. -/
def heldBy (z : Fin 16) (holder : Option Arm) (s : State) : Prop := (zoneAt s z).holder = holder

theorem heldBy_of_table {holder : Option Arm} (h : t.zones.table = s.zones.table) (hs : heldBy z holder s) :
    heldBy z holder t := by
  rw [heldBy, zoneAt, h]; exact hs

theorem heldBy_frameStable (z : Fin 16) (holder : Option Arm) : FrameStable (heldBy z holder) where
  accept l s := heldBy_of_table (congrArg _ (acceptFrame_zones l s))
  judge s0 trigger s := heldBy_of_table (congrArg _ (conclude_zones s0 trigger s))
  answer _ _ _ hs := hs
  pass _ _ hs := hs

theorem heldBy_removeClaim {holder : Option Arm} (arm : Arm) (hs : heldBy z holder s) :
    heldBy z holder (removeClaim arm s) := (holder_removeClaim arm s z).trans hs

theorem heldBy_armDisable {holder : Option Arm} (l : Link) (arm : Arm) (hs : heldBy z holder s) :
    heldBy z holder (armDisable l arm s).st := by
  rw [armDisable_eq]
  split
  · exact hs
  · have zones : (disableArm arm s).zones = s.zones := by simp [disableArm, State.modSup]
    exact heldBy_of_table (removeClaim_zones_congr (congrArg _ zones) (congrArg _ zones) arm).1 (heldBy_removeClaim arm hs)

theorem heldBy_zoneDefine {holder : Option Arm} (r : Request) (hs : heldBy z holder s) :
    heldBy z holder (zoneDefine r s).st := by
  rcases lt_or_ge r.sel.toNat 16 with hz | hz
  swap
  · rw [zoneDefine, indexOf_eq_none (by omega)]; exact hs
  rw [zoneDefine_eq (z := ⟨r.sel.toNat, hz⟩) rfl]
  cases zoneDefineRefusal r ⟨r.sel.toNat, hz⟩ s with
  | some code => exact hs
  | none =>
    change heldBy z holder (redefineZone _ _ s)
    rw [heldBy, zoneAt_redefineZone]
    split
    · next same => subst same; exact hs
    · exact hs

/-- The commands that move holders. -/
def movesHolders : Instr → Bool
  | .resetInputAsserted | .claim _ | .release _ | .zoneFree _ => true
  | _ => false

theorem holder_exec_of_claimRemoved (h : exec c s = .next t) (hr : reachesZones c = true) (hc : movesHolders c = false) :
    (zoneAt t z).holder = (zoneAt s z).holder := by
  have stable := heldBy_frameStable z (zoneAt s z).holder
  have same : heldBy z (zoneAt s z).holder s := rfl
  cases c <;> cases hr
  case resetInputAsserted | claim | release | zoneFree => cases hc
  case armDisable r => cases h; exact stable.handleControl (fun arm _ => heldBy_armDisable r.link arm) same
  case armReset r =>
    cases h
    exact stable.handleControl (fun arm u hu => heldBy_of_table (armReset_zones arm u).1 (heldBy_removeClaim arm hu)) same
  case claimWithdraw r =>
    cases h
    exact stable.handleRequest (fun _ => FrameStable.forLinkArm fun arm _ => heldBy_removeClaim arm) same
  case zoneDefine r => cases h; exact stable.handleRequest (fun _ => heldBy_zoneDefine r) same

/-- No other command moves a holder. -/
theorem holder_exec (h : exec c s = .next t) (hc : movesHolders c = false) : (zoneAt t z).holder = (zoneAt s z).holder := by
  cases hr : reachesZones c with
  | false => rw [(exec_zonesKept h hr).zoneAt z]
  | true => exact holder_exec_of_claimRemoved h hr hc

theorem exec_holderMoves (h : exec c s = .next t) (hc : c ≠ .resetInputAsserted) (hs : ZonesSound s)
    (hm : movesHolders c = true) (moved : (zoneAt t z).holder ≠ (zoneAt s z).holder) :
    HolderMoves (grantsTo c s t z) (freesFrom c s z) s t z := by
  cases c <;> cases hm
  case resetInputAsserted => exact absurd rfl hc
  case claim r => exact claim_holderMoves h moved
  case release r => exact release_holderMoves hs h moved
  case zoneFree r => exact zoneFree_holderMoves hs h moved

/-- Settles O31: the three commands that move holders one by one, and every other command leaves them. -/
theorem holdersChangeOnlyByGrantReleaseOrFree : Obligations.HoldersChangeOnlyByGrantReleaseOrFree := by
  intro c s t z h hc hs moved
  cases hm : movesHolders c with
  | false => exact absurd (holder_exec h hm) moved
  | true =>
    obtain ⟨gets, loses⟩ := exec_holderMoves h hc hs hm moved
    exact ⟨gets, loses⟩

end Exec

end Sys2Proof.Machine
end

section
/-! PROOFS. The probe registry and the touch queues stay sound (R103, R138, Table 6.1). -/

namespace Sys2Proof.Machine

section Registry
variable {s t : State} {e : Fin 14} {p q : Probe}

/-! ### The registry -/

theorem RegistrySound.congr (hs : RegistrySound s) (h : t.registry = s.registry) : RegistrySound t := by
  have entry : entryAt t = entryAt s := by funext e; rw [entryAt, h, entryAt]
  obtain ⟨probes, ids, limits⟩ := hs
  exact ⟨by rw [entry]; exact probes, by rw [entry]; exact ids, by rw [h]; exact limits⟩

theorem registrySound_readsOnly : readsOnly [.entries, .limits] RegistrySound := by
  intro s t h hs
  have entries : t.registry.entries = s.registry.entries := h .entries (by simp)
  obtain ⟨use, drift⟩ := h .limits (by simp)
  refine hs.congr ?_
  revert entries use drift
  cases t.registry
  cases s.registry
  rintro rfl rfl rfl
  rfl

/-- An entry emptied. -/
theorem RegistrySound.remove (hs : RegistrySound s) (e : Fin 14) : RegistrySound (s.setEntry e none) where
  probes f p h := by
    rw [entryAt_setEntry] at h
    split at h
    · cases h
    · exact hs.probes f p h
  ids f g p q hp hq same := by
    rw [entryAt_setEntry] at hp hq
    split at hp
    · cases hp
    · split at hq
      · cases hq
      · exact hs.ids f g p q hp hq same
  limits := hs.limits

/-- An entry written with a sound record whose id no other entry has. -/
theorem RegistrySound.write (hs : RegistrySound s) (hq : ProbeSound q)
    (fresh : ∀ f p, f ≠ e → entryAt s f = some p → p.id ≠ q.id) : RegistrySound (s.setEntry e (some q)) where
  probes f p h := by
    rw [entryAt_setEntry] at h
    split at h
    · cases h; exact hq
    · exact hs.probes f p h
  ids f g p r hp hr same := by
    rw [entryAt_setEntry] at hp hr
    split at hp
    · next hf =>
      cases hp
      split at hr
      · next hg => exact hf.trans hg.symm
      · next hg => exact absurd same.symm (fresh g r hg hr)
    · next hf =>
      split at hr
      · cases hr; exact absurd same (fresh f p hf hp)
      · exact hs.ids f g p r hp hr same
  limits := hs.limits

/-- A record rewritten with its id kept. -/
theorem RegistrySound.rewrite (hs : RegistrySound s) (hp : entryAt s e = some p) (hq : ProbeSound q) (id : q.id = p.id) :
    RegistrySound (s.setEntry e (some q)) :=
  hs.write hq fun f r hf hr same => hf (hs.ids f e r p hr hp (same.trans id))

theorem RegistrySound.modProbe {f : Probe → Probe} (hs : RegistrySound s) (e : Fin 14)
    (hf : ∀ p, ProbeSound p → ProbeSound (f p) ∧ (f p).id = p.id) : RegistrySound (s.modProbe e f) := by
  rw [State.modProbe]
  cases hp : entryAt s e with
  | none => exact hs.remove e
  | some p =>
    obtain ⟨sound, id⟩ := hf p (hs.probes e p hp)
    exact hs.rewrite hp sound id

/-! ### Records -/

theorem ProbeSound.located (h : ProbeSound p) (loc : Location) : ProbeSound { p with location := loc } := by
  obtain ⟨id, tips, offsets, count, tcal⟩ := h
  exact ⟨id, tips, offsets, count, tcal⟩

theorem ProbeSound.reserved (h : ProbeSound p) (arm : Option Arm) : ProbeSound { p with reservation := arm } := by
  obtain ⟨id, tips, offsets, count, tcal⟩ := h
  exact ⟨id, tips, offsets, count, tcal⟩

/-- A probe that is qualified becomes DUE with its Tcal kept (R111). -/
theorem ProbeSound.due (h : ProbeSound p) (hq : p.qual = .qualified) {count : Nat} (hc : count ≤ 65535) :
    ProbeSound { p with useCount := count, qual := .due } := by
  obtain ⟨id, tips, offsets, -, tcal⟩ := h
  refine ⟨id, tips, offsets, hc, ?_⟩
  rw [hq] at tcal
  simpa using tcal

theorem ProbeSound.used (h : ProbeSound p) {count : Nat} (hc : count ≤ 65535) : ProbeSound { p with useCount := count } := by
  obtain ⟨id, tips, offsets, -, tcal⟩ := h
  exact ⟨id, tips, offsets, hc, tcal⟩

theorem ProbeSound.retipped (h : ProbeSound p) {tips : List (Axes Int)} (length : tips.length ≤ 5)
    (offsets : ∀ t ∈ tips, tipInRange t = true) :
    ProbeSound { p with tips := tips, qual := .unqualified, tcal := none } :=
  ⟨h.id, length, offsets, h.count, by simp⟩

/-! ### The shared operations -/

theorem RegistrySound.locate (hs : RegistrySound s) (e : Fin 14) (loc : Location) : RegistrySound (locate e loc s) :=
  hs.modProbe e fun _ h => ⟨h.located loc, rfl⟩

theorem RegistrySound.locateAny (hs : RegistrySound s) (e : Option (Fin 14)) (loc : Location) :
    RegistrySound (locateAny e loc s) := by
  cases e with
  | none => exact hs
  | some e => exact hs.locate e loc

theorem RegistrySound.mountCheck (hs : RegistrySound s) (e : Fin 14) : RegistrySound (mountCheck e s) := by
  cases hp : entryAt s e with
  | none => rw [Machine.mountCheck, hp]; exact hs
  | some p =>
    rw [mountCheck_spec hp]
    split
    · next drifted => exact (hs.rewrite hp ((hs.probes e p hp).due drifted.1 (hs.probes e p hp).count) rfl).congr rfl
    · exact hs

theorem RegistrySound.countUse (hs : RegistrySound s) (e : Fin 14) : RegistrySound (countUse e s) := by
  cases hp : entryAt s e with
  | none => rw [Machine.countUse, hp]; exact hs
  | some p =>
    rw [countUse_spec hp]
    split
    · next worn => exact (hs.rewrite hp ((hs.probes e p hp).due worn.1 (min_le_left _ _)) rfl).congr rfl
    · exact hs.rewrite hp ((hs.probes e p hp).used (min_le_left _ _)) rfl

theorem RegistrySound.mountTake (hs : RegistrySound s) (arm : Arm) : RegistrySound (mountTake arm s) := by
  rw [Machine.mountTake]
  split
  · exact hs
  · next e _ =>
    exact (hs.modProbe (f := fun p => { p with reservation := if p.reservation = some arm then none else p.reservation })
      e fun _ h => ⟨h.reserved _, rfl⟩).mountCheck e

theorem giveBackSlot_registry (c : ChangeContext) (s : State) : (giveBackSlot c s).registry = s.registry := by
  rw [giveBackSlot]
  split
  · cases c.putSlot <;> rfl
  · cases c.takeSlot <;> rfl
  · rfl

theorem blockSlot_registry (c : ChangeContext) (s : State) : (blockSlot c s).registry = s.registry := by
  rw [blockSlot]
  split
  · cases c.putSlot <;> rfl
  · cases c.takeSlot <;> rfl
  · rfl

theorem RegistrySound.resetChange (hs : RegistrySound s) (arm : Arm) : RegistrySound (resetChange arm s) := by
  simp only [Machine.resetChange]
  split; · exact hs
  have given := hs.congr (giveBackSlot_registry (s.rack.changes.get arm) s)
  split
  · exact (given.mountTake arm).congr rfl
  · exact given.congr rfl

theorem RegistrySound.expireChange (hs : RegistrySound s) (arm : Arm) : RegistrySound (expireChange arm s) := by
  have blocked := hs.congr (blockSlot_registry (s.rack.changes.get arm) s)
  have ended {u : State} (hu : RegistrySound u) :
      RegistrySound (raiseChange arm (reportChangeFault arm (closeChange arm .timedOut u))) :=
    hu.congr (recordCause_registry arm .changeFault (closeChange arm .timedOut u))
  simp only [Machine.expireChange]
  split
  · exact ended ((blocked.mountTake arm).congr rfl)
  · exact ended blocked

theorem RegistrySound.changeCloseBy (hs : RegistrySound s) (arm : Arm) (r : Request) :
    RegistrySound (changeCloseBy arm r s).st := by
  have wrong {u : State} (hu : RegistrySound u) :
      RegistrySound (raiseChange arm (reportChangeFault arm (closeChange arm .wrongProbe u))) :=
    hu.congr (recordCause_registry arm .changeFault (closeChange arm .wrongProbe u))
  have closed : RegistrySound (closeChange arm .closed s) := hs.congr rfl
  simp only [Machine.changeCloseBy]
  split; · exact hs
  split; · exact hs
  split
  · split
    · exact (closed.mountTake arm).congr rfl
    · exact closed.congr rfl
  · split
    · exact wrong (hs.locateAny _ _)
    · exact wrong hs

/-! ### Presence -/

theorem RegistrySound.unexpectedChange (hs : RegistrySound s) (i : Fin 12) : RegistrySound (unexpectedChange i s) := by
  simp only [Machine.unexpectedChange]
  split
  · exact (hs.locateAny _ _).congr rfl
  all_goals exact hs.congr rfl

theorem RegistrySound.completeDeposit (hs : RegistrySound s) (arm : Arm) (h : Fin 12) :
    RegistrySound (completeDeposit arm h s) := by
  have located : RegistrySound (enterSlot h .stored (headProbe s arm) (Machine.locateAny (headProbe s arm) (.slot h) s)) :=
    (hs.locateAny _ _).congr rfl
  simp only [Machine.completeDeposit]
  generalize enterSlot h .stored (headProbe s arm) (Machine.locateAny (headProbe s arm) (.slot h) s) = u at located ⊢
  split
  · exact located.congr rfl
  · split <;> exact located.congr rfl

theorem RegistrySound.completePick (hs : RegistrySound s) (arm : Arm) (t : Fin 12) :
    RegistrySound (completePick arm t s) := (hs.locateAny (slotAt s t).probe (.head arm)).congr rfl

theorem RegistrySound.settledChange (hs : RegistrySound s) (i : Fin 12) (seated : Bool) :
    RegistrySound (settledChange i seated s) := by
  have advanced (arm : Arm) : RegistrySound (advanceChange arm i seated s) := by
    rw [advanceChange]
    split
    · exact hs.completeDeposit arm i
    · exact hs.completePick arm i
  rw [Machine.settledChange]
  split
  · split; · exact advanced .a
    split
    · exact advanced .b
    · exact hs
  · exact hs.unexpectedChange i

theorem RegistrySound.expireSettle (hs : RegistrySound s) (i : Fin 12) : RegistrySound (expireSettle i s) := by
  have settled (x : Slot) : RegistrySound (s.setSlot i x) := hs.congr rfl
  simp only [Machine.expireSettle]
  split
  · exact settled _
  · exact (settled _).settledChange i _

theorem RegistrySound.serviceSlot (hs : RegistrySound s) (i : Fin 12) : RegistrySound (serviceSlot i s) := by
  simp only [Machine.serviceSlot]
  split
  · split
    · exact hs.congr rfl
    · exact (hs.locate _ _).congr rfl
    · exact hs.congr rfl
  · exact (hs.locateAny _ _).congr rfl

/-! ### The requests -/

theorem RegistrySound.probeSet (hs : RegistrySound s) (r : Request) : RegistrySound (probeSet r s).st := by
  rw [Machine.probeSet]
  split
  · exact hs
  · next valid => exact ⟨hs.probes, hs.ids, by simp only [okay]; omega⟩

theorem newProbe_sound {id : Nat} (h : 1 ≤ id ∧ id ≤ 65535) (i : Fin 12) : ProbeSound (newProbe (BitVec.ofNat 16 id) i) where
  id no := by
    have := congrArg BitVec.toNat no
    simp only [newProbe, BitVec.toNat_ofNat, show (0 : Half).toNat = 0 from rfl] at this
    omega
  tips := by simp [newProbe]
  offsets := by simp [newProbe]
  count := by simp [newProbe]
  tcal := by simp [newProbe]

theorem RegistrySound.probeRegister (hs : RegistrySound s) (r : Request) : RegistrySound (probeRegister r s).st := by
  simp only [Machine.probeRegister]
  split; · exact hs
  next i _ =>
  split; · exact hs
  next inRange =>
  split; · exact hs
  next unused =>
  split; · exact hs
  split
  · exact hs
  · next e _ =>
    have valid : 1 ≤ r.d0.toNat ∧ r.d0.toNat ≤ 65535 := by omega
    have unlike := findProbe_none (Option.not_isSome_iff_eq_none.mp unused)
    have written : RegistrySound (s.setEntry e (some (newProbe (BitVec.ofNat 16 r.d0.toNat) i))) := by
      refine hs.write (newProbe_sound valid i) fun f p _ hp same => ?_
      have id := congrArg BitVec.toNat same
      simp only [newProbe, BitVec.toNat_ofNat] at id
      exact of_decide_eq_false (unlike f p hp) (by omega)
    rw [okProbe_st]
    exact written.congr rfl

theorem freeToChange_ok {id : Nat} (h : freeToChange s id = .ok (e, p)) : entryAt s e = some p := by
  rw [freeToChange] at h
  split at h; · cases h
  split at h
  · cases h
  · next found =>
    split at h <;> cases h
    exact found

theorem writeTip_length {tips : List (Axes Int)} {index : Nat} (t : Axes Int) (length : tips.length ≤ 5) (h : index ≤ 4) :
    (writeTip tips index t).length ≤ 5 := by
  rw [writeTip]
  split
  · rw [List.length_set]; exact length
  · rw [List.length_append, List.length_singleton]; omega

theorem mem_writeTip {tips : List (Axes Int)} {index : Nat} {t x : Axes Int} (h : x ∈ writeTip tips index t) :
    x = t ∨ x ∈ tips := by
  rw [writeTip] at h
  split at h
  · exact (List.mem_or_eq_of_mem_set h).symm
  · rw [List.mem_append, List.mem_singleton] at h
    exact h.symm

theorem RegistrySound.probeTipWrite (hs : RegistrySound s) (r : Request) : RegistrySound (probeTipWrite r s).st := by
  simp only [Machine.probeTipWrite]
  split; · exact hs
  split
  · exact hs
  · next e p found =>
    have hp := freeToChange_ok found
    have sound := hs.probes e p hp
    split; · exact hs
    next index =>
    split
    · exact hs
    · next proper =>
      rw [okProbe_st]
      refine hs.rewrite hp (sound.retipped (writeTip_length _ sound.tips (by omega)) fun t ht => ?_) rfl
      obtain rfl | old := mem_writeTip ht
      · exact not_not.mp proper
      · exact sound.offsets t old

theorem RegistrySound.probeTipClear (hs : RegistrySound s) (r : Request) : RegistrySound (probeTipClear r s).st := by
  simp only [Machine.probeTipClear]
  split
  · exact hs
  · next e p found =>
    have hp := freeToChange_ok found
    rw [okProbe_st]
    exact hs.rewrite hp ((hs.probes e p hp).retipped (by simp) (by simp)) rfl

theorem RegistrySound.probeQualify (hs : RegistrySound s) (r : Request) : RegistrySound (probeQualify r s).st := by
  simp only [Machine.probeQualify]
  split
  · exact hs
  · next e p found =>
    have hp := freeToChange_ok found
    obtain ⟨id, tips, offsets, -, -⟩ := hs.probes e p hp
    split; · exact hs
    split
    · exact hs
    · rw [okProbe_st]
      exact hs.rewrite hp ⟨id, tips, offsets, by simp, by simp⟩ rfl

theorem RegistrySound.probeReserve (hs : RegistrySound s) (r : Request) : RegistrySound (probeReserve r s).st := by
  simp only [Machine.probeReserve]
  split; · exact hs
  split
  · exact hs
  · rw [okProbe_st]
    exact hs.modProbe _ fun _ h => ⟨h.reserved _, rfl⟩

theorem RegistrySound.probeUnreserve (hs : RegistrySound s) (r : Request) : RegistrySound (probeUnreserve r s).st := by
  simp only [Machine.probeUnreserve]
  split
  · exact hs
  · rw [okProbe_st]
    exact hs.modProbe _ fun _ h => ⟨h.reserved _, rfl⟩

theorem RegistrySound.probeRemove (hs : RegistrySound s) (r : Request) : RegistrySound (probeRemove r s).st := by
  simp only [Machine.probeRemove]
  split; · exact hs
  next e _ =>
  split
  · split
    · exact hs
    · split
      · exact (hs.remove e).congr rfl
      · exact hs.remove e
  · exact hs
  · exact hs.remove e

theorem RegistrySound.slotService (hs : RegistrySound s) (r : Request) : RegistrySound (slotService r s).st := by
  simp only [Machine.slotService]
  split; · exact hs
  split
  · exact hs
  · exact hs.serviceSlot _

theorem RegistrySound.touchBy (hs : RegistrySound s) (arm : Arm) (r : Request) : RegistrySound (touchBy arm r s).st := by
  have counted (e : Fin 14) (q : TouchQueue) : RegistrySound (reportFill arm (Machine.countUse e (s.setQueue arm q))) := by
    have queued : RegistrySound (s.setQueue arm q) := hs.congr rfl
    rw [reportFill]
    split
    · exact (queued.countUse e).congr rfl
    · exact queued.countUse e
  simp only [Machine.touchBy]
  split; · exact hs
  split; · exact hs
  split; · exact hs
  split; · exact hs
  split; · exact hs
  split
  · exact hs
  · exact counted _ _

theorem RegistrySound.armReset (hs : RegistrySound s) (arm : Arm) : RegistrySound (armReset arm s).st := by
  have claim := removeClaim_unchangedBut arm (Machine.resetChange arm s)
  have judged := judgeSense_unchangedBut arm (resetRecords arm s)
  have kept {l : List Block} {u v : State} (h : unchangedBut l u v) (apart : ∀ b ∈ [Block.entries, .limits], b ∉ l)
      (hu : RegistrySound u) : RegistrySound v := registrySound_readsOnly.kept h apart hu
  have cleared {u : State} (hu : RegistrySound u) : RegistrySound (clearRecords arm (resetSupervisor arm u)) := hu.congr rfl
  rw [armReset_eq]
  exact kept judged (by simp) (cleared (kept claim (by simp) (hs.resetChange arm)))

end Registry

/-! ### The touch queues -/

section Queue
variable {q : TouchQueue} {t : TouchRecord}

/-- The sequences of a queue count up to its counter (R138). -/
def countsUp (records : List TouchRecord) (counter : Word) : Prop :=
  records.map TouchRecord.sequence =
    (List.range records.length).map fun i => counter - BitVec.ofNat 32 (records.length - 1 - i)

theorem countsUp_append {records : List TouchRecord} {counter : Word} (h : countsUp records counter)
    (next : t.sequence = counter + 1) : countsUp (records ++ [t]) (counter + 1) := by
  rw [countsUp] at h ⊢
  rw [List.map_append, List.length_append, List.length_singleton, List.range_succ, List.map_append, h, List.map_singleton,
    List.map_singleton, next]
  refine congrArg₂ _ (List.map_congr_left fun i hi => ?_) ?_
  · have : i < records.length := List.mem_range.mp hi
    have step : records.length + 1 - 1 - i = records.length - 1 - i + 1 := by omega
    rw [step]
    bv_omega
  · simp

theorem countsUp_tail {rest : List TouchRecord} {counter : Word} (h : countsUp (t :: rest) counter) :
    countsUp rest counter := by
  rw [countsUp, List.map_cons, List.length_cons, List.range_succ_eq_map, List.map_cons, List.map_map,
    List.cons.injEq] at h
  rw [countsUp, h.2]
  refine List.map_congr_left fun i _ => ?_
  have : rest.length + 1 - 1 - (i + 1) = rest.length - 1 - i := by omega
  simp only [Function.comp_apply, Nat.succ_eq_add_one, this]

/-- A record appended to a queue with room (R140, R142). -/
theorem QueueSound.append (h : QueueSound q) (room : q.records.length < 32) (tip : t.tip ≤ 4)
    (next : t.sequence = q.counter + 1) : QueueSound { q with records := q.records ++ [t], counter := q.counter + 1 } := by
  obtain ⟨-, tips, counts⟩ := h
  refine ⟨by simpa using room, fun x hx => ?_, countsUp_append counts next⟩
  obtain old | new := List.mem_append.mp hx
  · exact tips x old
  · rw [List.mem_singleton.mp new]; exact tip

/-- The oldest record dropped (R147). -/
theorem QueueSound.drop {rest : List TouchRecord} (h : QueueSound q) (hq : q.records = t :: rest) :
    QueueSound { q with records := rest } := by
  obtain ⟨length, tips, counts⟩ := h
  rw [hq] at length tips counts
  exact ⟨Nat.le_of_succ_le length, fun x hx => tips x (List.mem_cons_of_mem t hx), countsUp_tail counts⟩

theorem QueueSound.retimed (h : QueueSound q) (timer : Option Timer) : QueueSound { q with blankTimer := timer } := h

end Queue

section Queues
variable {s t : State} {arm : Arm}

theorem queuesSound_iff : QueuesSound s ↔ (∀ arm, QueueSound (s.touch.queues.get arm)) ∧ s.touch.blankTime ≤ 2000 ∧
    1 ≤ s.touch.fillLevel ∧ s.touch.fillLevel ≤ 32 :=
  ⟨fun ⟨a, b, settings⟩ => ⟨fun arm => by cases arm; exacts [a, b], settings⟩,
    fun ⟨queues, settings⟩ => ⟨queues .a, queues .b, settings⟩⟩

theorem queuesSound_readsOnly : readsOnly (.touchSettings :: ofArms .queue) QueuesSound := by
  intro s t h hs
  rw [queuesSound_iff] at hs ⊢
  obtain ⟨queues, settings⟩ := hs
  obtain ⟨blank, fill⟩ := h .touchSettings (by decide)
  rw [blank, fill]
  exact ⟨fun arm => h (.queue arm) (by cases arm <;> decide) ▸ queues arm, settings⟩

theorem QueuesSound.congr (hs : QueuesSound s) (h : t.touch = s.touch) : QueuesSound t := by
  rw [QueuesSound, h]; exact hs

theorem QueuesSound.setQueue {q : TouchQueue} (hs : QueuesSound s) (hq : QueueSound q) : QueuesSound (s.setQueue arm q) := by
  rw [queuesSound_iff] at hs ⊢
  obtain ⟨queues, settings⟩ := hs
  refine ⟨fun k => ?_, settings⟩
  rw [State.setQueue_touch, PerArm.get_set]
  split
  · exact hq
  · exact queues k

theorem QueuesSound.retime (hs : QueuesSound s) (timer : Option Timer) :
    QueuesSound (s.setQueue arm { s.touch.queues.get arm with blankTimer := timer }) :=
  hs.setQueue ((hs.queue arm).retimed timer)

theorem QueuesSound.touchSet (hs : QueuesSound s) (r : Request) : QueuesSound (touchSet r s).st := by
  rw [Machine.touchSet]
  split
  · exact hs
  · next valid =>
    obtain ⟨queues, -⟩ := queuesSound_iff.mp hs
    exact queuesSound_iff.mpr ⟨queues, by simp only [okay]; omega⟩

theorem QueuesSound.touchDrop (hs : QueuesSound s) (r : Request) : QueuesSound (touchDrop r s).st := by
  simp only [Machine.touchDrop]
  split; · exact hs
  next arm _ =>
  split; · exact hs
  next hq =>
  split
  · exact hs
  · exact hs.setQueue ((hs.queue arm).drop hq)

theorem QueuesSound.mountTake (hs : QueuesSound s) (arm : Arm) : QueuesSound (mountTake arm s) :=
  queuesSound_readsOnly.kept (mountTake_unchangedBut arm s) (by decide) hs

theorem QueuesSound.startBlank (hs : QueuesSound s) (arm : Arm) : QueuesSound (startBlank arm s) := hs.retime _

theorem QueuesSound.touchBy (hs : QueuesSound s) (arm : Arm) (r : Request)
    (tips : ∀ e p, entryAt s e = some p → p.tips.length ≤ 5) :
    QueuesSound (touchBy arm r s).st := by
  have counted {u : State} (hu : QueuesSound u) (e : Fin 14) : QueuesSound (reportFill arm (countUse e u)) := by
    have used := queuesSound_readsOnly.kept (countUse_unchangedBut e u) (by decide) hu
    rw [reportFill]
    split
    · exact used.congr rfl
    · exact used
  simp only [Machine.touchBy]
  split; · exact hs
  split; · exact hs
  split; · exact hs
  split; · exact hs
  next p hp =>
  split; · exact hs
  next offset hoffset =>
  split
  · exact hs
  · next room =>
    refine counted (hs.setQueue ((hs.queue arm).append (by simpa [queueCapacity] using room) ?_ rfl)) _
    have := (List.getElem?_eq_some_iff.mp hoffset).1
    have := tips _ p hp
    simp only [touchRecord]
    omega

theorem QueuesSound.changeCloseBy (hs : QueuesSound s) (arm : Arm) (r : Request) : QueuesSound (changeCloseBy arm r s).st := by
  have closed : QueuesSound (closeChange arm .closed s) := hs.congr rfl
  have wrong {u : State} (hu : QueuesSound u) :
      QueuesSound (raiseChange arm (reportChangeFault arm (closeChange arm .wrongProbe u))) :=
    hu.congr (recordCause_touch arm .changeFault (closeChange arm .wrongProbe u))
  have located (e : Option (Fin 14)) : QueuesSound (locateAny e .missing s) := by cases e <;> exact hs.congr rfl
  simp only [Machine.changeCloseBy]
  split; · exact hs
  split; · exact hs
  split
  · split
    · exact ((closed.mountTake arm).startBlank arm).congr rfl
    · exact closed.congr rfl
  · split
    · exact wrong (located _)
    · exact wrong hs

theorem QueuesSound.expireChange (hs : QueuesSound s) (arm : Arm) : QueuesSound (expireChange arm s) := by
  have blocked : QueuesSound (blockSlot (s.rack.changes.get arm) s) := by
    rw [blockSlot]
    split
    · cases (s.rack.changes.get arm).putSlot <;> exact hs.congr rfl
    · cases (s.rack.changes.get arm).takeSlot <;> exact hs.congr rfl
    · exact hs
  have ended {u : State} (hu : QueuesSound u) :
      QueuesSound (raiseChange arm (reportChangeFault arm (closeChange arm .timedOut u))) :=
    hu.congr (recordCause_touch arm .changeFault (closeChange arm .timedOut u))
  simp only [Machine.expireChange]
  split
  · exact ended ((blocked.mountTake arm).startBlank arm)
  · exact ended blocked

theorem QueuesSound.armReset (hs : QueuesSound s) (arm : Arm) : QueuesSound (armReset arm s).st := by
  have kept {l : List Block} {u v : State} (h : unchangedBut l u v) (apart : ∀ b ∈ .touchSettings :: ofArms .queue, b ∉ l)
      (hu : QueuesSound u) : QueuesSound v := queuesSound_readsOnly.kept h apart hu
  have cleared {u : State} (hu : QueuesSound u) : QueuesSound (clearRecords arm (resetSupervisor arm u)) :=
    (QueuesSound.retime (s := resetSupervisor arm u) (arm := arm) (hu.congr rfl) none).congr rfl
  rw [armReset_eq]
  exact kept (judgeSense_unchangedBut arm _) (by simp [ofArms]) <| cleared <|
    kept (removeClaim_unchangedBut arm _) (by simp [ofArms]) (kept (resetChange_unchangedBut arm s) (by decide) hs)

end Queues

/-! ### Every command -/

section Exec
variable {c : Instr} {s t : State}

theorem registrySound_frameStable : FrameStable RegistrySound :=
  registrySound_readsOnly.frameStable (by decide) (by simp)

theorem registrySound_exec_event (h : exec c s = .next t) (hr : requestOf c = none) (hs : RegistrySound s) :
    RegistrySound t := by
  have judged {u : State} (trigger : Trigger) (hu : RegistrySound u) : RegistrySound (conclude s trigger u) :=
    registrySound_frameStable.judge s trigger u hu
  cases c <;> cases hr
  case resetInputAsserted =>
    exact exec_resetInputAsserted_keeps (registrySound_readsOnly.deviceReset (by decide) reset_registrySound) h hs
  case presenceSettleExpiry i =>
    simp only [exec, execPresenceSettleExpiry] at h
    split at h <;> cases h
    · exact hs.expireSettle i
    · exact hs
  case changeTimerExpiry arm =>
    simp only [exec, execChangeTimerExpiry] at h
    split at h <;> cases h
    · exact judged _ (hs.expireChange arm)
    · exact hs
  all_goals exact registrySound_readsOnly.exec h (by simp) (of_decide_eq_true rfl) hs

theorem registrySound_exec_request {r : Request} (h : exec c s = .next t) (hr : requestOf c = some r)
    (hs : RegistrySound s) : RegistrySound t := by
  have stable := registrySound_frameStable
  have ofArm {access : Access} {act : Arm → State → Act} (hact : ∀ arm u, RegistrySound u → RegistrySound (act arm u).st) :
      RegistrySound (handleRequest access r.link (forLinkArm r.link act) s) :=
    stable.handleRequest (fun _ => FrameStable.forLinkArm hact) hs
  have untouched (apart : ∀ b ∈ [Block.entries, .limits], b ∉ requestBlocks c) : RegistrySound t :=
    registrySound_readsOnly.exec_request stable h hr apart hs
  cases c <;> cases hr
  case armReset => cases h; exact stable.handleControl (fun arm _ hu => hu.armReset arm) hs
  case touch => cases h; exact ofArm fun arm _ hu => hu.touchBy arm _
  case changeClose => cases h; exact ofArm fun arm _ hu => hu.changeCloseBy arm _
  case probeSet => cases h; exact stable.handleRequest (fun _ hu => hu.probeSet _) hs
  case probeRegister => cases h; exact stable.handleRequest (fun _ hu => hu.probeRegister _) hs
  case probeTipWrite => cases h; exact stable.handleRequest (fun _ hu => hu.probeTipWrite _) hs
  case probeTipClear => cases h; exact stable.handleRequest (fun _ hu => hu.probeTipClear _) hs
  case probeQualify => cases h; exact stable.handleRequest (fun _ hu => hu.probeQualify _) hs
  case probeReserve => cases h; exact stable.handleRequest (fun _ hu => hu.probeReserve _) hs
  case probeUnreserve => cases h; exact stable.handleRequest (fun _ hu => hu.probeUnreserve _) hs
  case probeRemove => cases h; exact stable.handleRequest (fun _ hu => hu.probeRemove _) hs
  case slotService => cases h; exact stable.handleRequest (fun _ hu => hu.slotService _) hs
  all_goals exact untouched (of_decide_eq_true rfl)

theorem registrySound_exec (c : Instr) (s t : State) (h : exec c s = .next t) (hs : RegistrySound s) : RegistrySound t := by
  cases hr : requestOf c with
  | none => exact registrySound_exec_event h hr hs
  | some r => exact registrySound_exec_request h hr hs

theorem queuesSound_frameStable : FrameStable QueuesSound :=
  queuesSound_readsOnly.frameStable (by decide) (by simp [ofArms])

theorem queuesSound_exec_event (h : exec c s = .next t) (hr : requestOf c = none) (hs : QueuesSound s) :
    QueuesSound t := by
  have judged {u : State} (trigger : Trigger) (hu : QueuesSound u) : QueuesSound (conclude s trigger u) :=
    queuesSound_frameStable.judge s trigger u hu
  cases c <;> cases hr
  case resetInputAsserted =>
    exact exec_resetInputAsserted_keeps (queuesSound_readsOnly.deviceReset (by decide) reset_queuesSound) h hs
  case changeTimerExpiry arm =>
    simp only [exec, execChangeTimerExpiry] at h
    split at h <;> cases h
    · exact judged _ (hs.expireChange arm)
    · exact hs
  case blankTimerExpiry arm =>
    simp only [exec, execBlankTimerExpiry] at h
    split at h <;> cases h
    · exact hs.retime none
    · exact hs
  all_goals exact queuesSound_readsOnly.exec h (by simp) (of_decide_eq_true rfl) hs

/-- A registry whose probes have at most five tips, and sound queues. -/
def tipsAndQueues (s : State) : Prop := RegistrySound s ∧ QueuesSound s

theorem tipsAndQueues_frameStable : FrameStable tipsAndQueues :=
  have registry := registrySound_frameStable
  have queues := queuesSound_frameStable
  { accept := fun l s h => ⟨registry.accept l s h.1, queues.accept l s h.2⟩
    judge := fun s0 t s h => ⟨registry.judge s0 t s h.1, queues.judge s0 t s h.2⟩
    answer := fun l reply s h => ⟨registry.answer l reply s h.1, queues.answer l reply s h.2⟩
    pass := fun l s h => ⟨registry.pass l s h.1, queues.pass l s h.2⟩ }

theorem touch_keeps {r : Request} (h : exec (.touch r) s = .next t) (hs : tipsAndQueues s) : QueuesSound t := by
  cases h
  have touched : tipsAndQueues (handleRequest .armLinks r.link (forLinkArm r.link fun arm => touchBy arm r) s) :=
    tipsAndQueues_frameStable.handleRequest
      (fun _ => FrameStable.forLinkArm fun arm u hu => 
        ⟨hu.1.touchBy arm r, hu.2.touchBy arm r fun e p hp => (hu.1.probes e p hp).tips⟩)
      hs
  exact touched.2

theorem queuesSound_exec_request {r : Request} (h : exec c s = .next t) (hr : requestOf c = some r)
    (hs : tipsAndQueues s) : QueuesSound t := by
  have stable := queuesSound_frameStable
  have untouched (apart : ∀ b ∈ .touchSettings :: ofArms .queue, b ∉ requestBlocks c) : QueuesSound t :=
    queuesSound_readsOnly.exec_request stable h hr apart hs.2
  cases c <;> cases hr
  case touch => exact touch_keeps h hs
  case armReset => cases h; exact stable.handleControl (fun arm _ hu => hu.armReset arm) hs.2
  case changeClose =>
    cases h
    exact stable.handleRequest (fun _ => FrameStable.forLinkArm fun arm _ hu => hu.changeCloseBy arm _) hs.2
  case touchSet => cases h; exact stable.handleRequest (fun _ hu => hu.touchSet _) hs.2
  case touchDrop => cases h; exact stable.handleRequest (fun _ hu => hu.touchDrop _) hs.2
  all_goals exact untouched (of_decide_eq_true rfl)

theorem tipsAndQueues_exec (c : Instr) (s t : State) (h : exec c s = .next t) (hs : tipsAndQueues s) :
    tipsAndQueues t := by
  refine ⟨registrySound_exec c s t h hs.1, ?_⟩
  cases hr : requestOf c with
  | none => exact queuesSound_exec_event h hr hs.2
  | some r => exact queuesSound_exec_request h hr hs

theorem tipsAndQueues_readsOnly :
    readsOnly ([.entries, .limits] ++ .touchSettings :: ofArms .queue) tipsAndQueues := fun s t h hs =>
  ⟨registrySound_readsOnly s t (fun b hb => h b (List.mem_append_left _ hb)) hs.1,
    queuesSound_readsOnly s t (fun b hb => h b (List.mem_append_right _ hb)) hs.2⟩

/-- Settles O56: every command keeps the records and the queues, and so does every step. -/
theorem everyStepKeepsProbesAndTouchesSound : Obligations.EveryStepKeepsProbesAndTouchesSound := by
  intro s t hs h
  exact step_keeps tipsAndQueues_readsOnly (by decide) tipsAndQueues_exec h hs

end Exec

end Sys2Proof.Machine
end

section
/-! PROOFS. The sensor records and the sequencer stay sound (R1, R6, R9, R12, R14 to R19). -/

namespace Sys2Proof.Machine

/-! ### The filter and the history -/

/-- A quotient rounded to nearest lies between 0 and its numerator. -/
theorem roundDiv_between (num : Int) {den : Int} (h : 1 ≤ den) :
    (0 ≤ num → 0 ≤ roundDiv num den ∧ roundDiv num den ≤ num) ∧
      (num < 0 → num ≤ roundDiv num den ∧ roundDiv num den ≤ 0) := by
  have quotient (a : Int) (ha : 0 ≤ a) : 0 ≤ (2 * a + den) / (2 * den) ∧ (2 * a + den) / (2 * den) ≤ a := by
    refine ⟨Int.ediv_nonneg (by omega) (by omega), Int.lt_add_one_iff.mp (Int.ediv_lt_of_lt_mul (by omega) ?_)⟩
    nlinarith
  constructor
  · intro hn
    rw [roundDiv, if_pos hn]
    exact quotient num hn
  · intro hn
    rw [roundDiv, if_neg (by omega)]
    have := quotient (-num) (by omega)
    omega

section Sensors
variable {x : Sensor}

/-- A filtered temperature stays within the range of its samples (R15). -/
theorem filterStep_between {t : Int} (low : minTemp ≤ x.tf) (high : x.tf ≤ maxTemp) (ht : minTemp ≤ t ∧ t ≤ maxTemp) :
    minTemp ≤ filterStep x t ∧ filterStep x t ≤ maxTemp := by
  have power : (1 : Int) ≤ 2 ^ x.n.toNat := one_le_pow₀ (by norm_num)
  obtain ⟨rising, falling⟩ := roundDiv_between (t - x.tf) power
  rw [filterStep]
  omega

/-- The ages of a history, newest last, at an ordinal (R14). -/
def fallingAges (ordinal : Word) (history : List Word) : Prop :=
  history.Pairwise fun e f => (ordinal - f).toNat < (ordinal - e).toNat

theorem agedHistory_recent {ordinal : Word} {history : List Word} (order : fallingAges ordinal history) :
    ∀ e ∈ agedHistory ordinal history, (ordinal - e).toNat < 64 := by
  induction history with
  | nil => intro e he; cases he
  | cons a rest ih =>
    obtain ⟨newer, order⟩ := List.pairwise_cons.mp order
    rw [agedHistory, List.dropWhile_cons]
    split
    · exact ih order
    · next young =>
      rw [decide_eq_true_eq, not_le] at young
      intro e he
      obtain rfl | he := List.mem_cons.mp he
      · exact young
      · exact (newer e he).trans young

theorem agedHistory_sublist (ordinal : Word) (history : List Word) : (agedHistory ordinal history).Sublist history :=
  List.dropWhile_sublist _

/-- Counting a conversion makes every entry of the history one older (R13, R14). -/
theorem age_next {ordinal e : Word} (h : (ordinal - e).toNat < 64) : (ordinal + 1 - e).toNat = (ordinal - e).toNat + 1 := by
  bv_omega

theorem fallingAges_next {ordinal : Word} {history : List Word} (recent : ∀ e ∈ history, (ordinal - e).toNat < 64)
    (order : fallingAges ordinal history) : fallingAges (ordinal + 1) history :=
  order.imp_of_mem fun he hf older => by rw [age_next (recent _ he), age_next (recent _ hf)]; omega

/-! ### A sample -/

/-- A record after a conversion is counted: every failure lies before the conversion (R13, R14). -/
structure SampleSound (x : Sensor) : Prop extends SensorSound x where
  past : ∀ e ∈ x.history, 0 < (x.ordinal - e).toNat

theorem recordSample_sound (h : SensorSound x) (code : Half) : SampleSound (recordSample code x) := by
  have sub := agedHistory_sublist (x.ordinal + 1) x.history
  have order := fallingAges_next h.recent h.order
  exact {
    off := h.off
    low := h.low
    high := h.high
    runs := h.runs
    history := sub.length_le.trans h.history
    locked := fun full => h.locked (le_antisymm h.history (full ▸ sub.length_le))
    recent := agedHistory_recent order
    order := order.sublist sub
    leftValid := h.leftValid
    past := fun e he => by
      have := age_next (h.recent e (sub.subset he))
      simp only [recordSample]
      omega }

/-- A sensor in a state of judgement that is not LOCKED_OUT has room in its history. -/
theorem SensorSound.room (h : SensorSound x) (unlocked : x.state ≠ .lockedOut) : x.history.length ≤ 5 := by
  have := h.history
  have := mt h.locked unlocked
  omega

/-- A sensor that enters FAILED, or LOCKED_OUT with its sixth failure (R16). -/
theorem enterFailed_sound (h : SampleSound x) (used : x.state ≠ .off) (unlocked : x.state ≠ .lockedOut) (run : Nat) :
    SensorSound (enterFailed { x with nonGoodRun := run }) := by
  have room := h.room unlocked
  have length : (x.history ++ [x.ordinal]).length = x.history.length + 1 := by simp
  have role : x.role ≠ .unused := mt h.off.mp used
  exact {
    off := by
      simp only [enterFailed]
      split <;> simp [role]
    low := h.low
    high := h.high
    runs := by simp [enterFailed]
    history := by simp only [enterFailed, length]; omega
    locked := fun full => by
      simp only [enterFailed, length] at full ⊢
      rw [if_pos (by omega)]
    recent := fun e he => by
      obtain old | new := List.mem_append.mp he
      · exact h.recent e old
      · rw [List.mem_singleton.mp new]; simp [enterFailed]
    order := by
      refine List.pairwise_append.mpr ⟨h.order, List.pairwise_singleton _ _, fun e he f hf => ?_⟩
      rw [List.mem_singleton.mp hf]
      simpa [enterFailed] using h.past e he
    leftValid := by
      simp only [enterFailed]
      split <;> simp }

theorem SensorSound.rerun (h : SensorSound x) {bad good : Nat} (runs : bad ≤ 8 ∧ good ≤ 8) :
    SensorSound { x with nonGoodRun := bad, goodRun := good } := by
  obtain ⟨off, low, high, -, history, locked, recent, order, leftValid⟩ := h
  exact ⟨off, low, high, runs, history, locked, recent, order, leftValid⟩

theorem countNonGood_sound (h : SampleSound x) (used : x.state ≠ .off) (unlocked : x.state ≠ .lockedOut) {d : Nat}
    (hd : d ≤ 8) (run : Nat) : SensorSound (countNonGood d run x) := by
  rw [countNonGood]
  split
  · exact enterFailed_sound h used unlocked run
  · exact h.toSensorSound.rerun ⟨by omega, h.runs.2⟩

/-- A sensor that is VALID after a GOOD sample (R15, R17). -/
theorem SensorSound.valid (h : SensorSound x) (used : x.state ≠ .off) (unlocked : x.state ≠ .lockedOut) {t : Int}
    (ht : minTemp ≤ t ∧ t ≤ maxTemp) {bad good : Nat} (runs : bad ≤ 8 ∧ good ≤ 8) :
    SensorSound { x with tf := t, goodRun := good, nonGoodRun := bad, leftValid := none, state := .valid } where
  off := by simpa using mt h.off.mp used
  low := ht.1
  high := ht.2
  runs := runs
  history := h.history
  locked full := absurd (h.locked full) unlocked
  recent := h.recent
  order := h.order
  leftValid _ := rfl

/-- A sensor that becomes SUSPECT (R15, R19). -/
theorem SampleSound.suspect (h : SampleSound x) (used : x.state ≠ .off) (unlocked : x.state ≠ .lockedOut) (now : Word) :
    SampleSound { x with state := .suspect, leftValid := some now } where
  off := by simpa using mt h.off.mp used
  low := h.low
  high := h.high
  runs := h.runs
  history := h.history
  locked full := absurd (h.locked full) unlocked
  recent := h.recent
  order := h.order
  leftValid no := by simp at no
  past := h.past

/-- The judgement of a recorded sample keeps the record sound (Table 1.7). -/
theorem judgeSample_sound (h : SampleSound x) {d : Nat} (hd : d ≤ 8) (now : Word) (good : Bool) {t : Int}
    (ht : good = true → minTemp ≤ t ∧ t ≤ maxTemp) : SensorSound (judgeSample d now good t x) := by
  have filtered (hg : good = true) := filterStep_between h.low h.high (ht hg)
  obtain ⟨bad, run⟩ := h.runs
  rw [judgeSample]
  cases hx : x.state with
  | off => exact h.toSensorSound
  | lockedOut => exact h.toSensorSound
  | waiting =>
    have none : x.leftValid = none := h.leftValid (by simp [hx])
    dsimp only
    split
    · next hg => simpa [none] using h.toSensorSound.valid (by simp [hx]) (by simp [hx]) (ht hg) (bad := 0) ⟨by simp, run⟩
    · exact countNonGood_sound h (by simp [hx]) (by simp [hx]) hd _
  | valid =>
    have none : x.leftValid = none := h.leftValid (by simp [hx])
    dsimp only
    split
    · next hg =>
      simpa [none, hx] using h.toSensorSound.valid (by simp [hx]) (by simp [hx]) (filtered hg) ⟨bad, run⟩
    · exact countNonGood_sound (h.suspect (by simp [hx]) (by simp [hx]) now) (by simp) (by simp) hd 1
  | suspect =>
    dsimp only
    split
    · next hg => exact h.toSensorSound.valid (by simp [hx]) (by simp [hx]) (filtered hg) ⟨by simp, run⟩
    · exact countNonGood_sound h (by simp [hx]) (by simp [hx]) hd _
  | failed =>
    dsimp only
    split
    · next hg =>
      split
      · exact h.toSensorSound.valid (by simp [hx]) (by simp [hx]) (ht hg) ⟨by simp, by simp⟩
      · simpa [hx] using h.toSensorSound.rerun (good := x.goodRun + 1) ⟨bad, by omega⟩
    · simpa [hx] using h.toSensorSound.rerun (good := 0) ⟨bad, by omega⟩

/-- A completed conversion keeps the record of its sensor sound (R13 to R18). -/
theorem completeSample_sound (h : SensorSound x) {d : Nat} (hd : d ≤ 8) (now : Word) (code : Half) :
    SensorSound (completeSample d now code x) := by
  change SensorSound (judgeSample d now (decide ((classify x.c0 x.k code).1 = .good)) (classify x.c0 x.k code).2
    (recordSample code x))
  refine judgeSample_sound (recordSample_sound h code) hd now _ fun good => ?_
  obtain ⟨same, low, high⟩ := (classify_rows x.c0 x.k code).2 (of_decide_eq_true good)
  rw [same]
  exact ⟨low, high⟩

theorem freshSensor_sound (role : Role) (c0 k : Half) (n : BitVec 3) : SensorSound (freshSensor role c0 k n) where
  off := by cases role <;> simp [freshSensor]
  low := by simp [freshSensor, Sensor.reset, minTemp]
  high := by simp [freshSensor, Sensor.reset, maxTemp]
  runs := by simp [freshSensor, Sensor.reset]
  history := by simp [freshSensor, Sensor.reset]
  locked := by simp [freshSensor, Sensor.reset]
  recent := by simp [freshSensor, Sensor.reset]
  order := by simp [freshSensor, Sensor.reset]
  leftValid _ := rfl

theorem SensorSound.unlocked (h : SensorSound x) (locked : x.state = .lockedOut) :
    SensorSound { x with state := .waiting, history := [], nonGoodRun := 0, goodRun := 0, leftValid := none } where
  off := by
    have role : x.role ≠ .unused := mt h.off.mp (by simp [locked])
    simp [role]
  low := h.low
  high := h.high
  runs := by simp
  history := by simp
  locked := by simp
  recent := by simp
  order := List.Pairwise.nil
  leftValid _ := rfl

theorem SensorSound.aged (h : SensorSound x) : SensorSound { x with leftValid := none } := by
  obtain ⟨off, low, high, runs, history, locked, recent, order, -⟩ := h
  exact ⟨off, low, high, runs, history, locked, recent, order, fun _ => rfl⟩

end Sensors

/-! ### The sequencer -/

section Sequencer
variable {s : State} {q : Sequencer}

/-- The first convertible entry lies in the list (R8). -/
theorem nextEntry_lt {list : List (Fin 16)} {k pos : Nat} {i : Fin 16} (h : nextEntry s list k = some (pos, i)) :
    pos < list.length := by
  obtain ⟨e, he, found⟩ := List.exists_of_findSome?_eq_some h
  split at found
  · cases found
    have := List.mem_zipIdx he
    simp only [List.length_drop] at this
    omega
  · cases found

theorem nextEntry_position {k pos : Nat} {i : Fin 16} (hs : SequencerSound q) (h : nextEntry s q.list k = some (pos, i)) :
    pos < 24 := (nextEntry_lt h).trans_le hs.list

/-- The sequencer in RUNNING with a conversion of the list started, or between rounds. -/
theorem startRound_sound (hs : SequencerSound q) (running : q.state = .running) : SequencerSound (startRound s q) := by
  have idle (r : Option Timer) : SequencerSound { q with expired := false, roundTimer := r } := by
    obtain ⟨list, position, stopped, single, stopping, -, pending⟩ := hs
    exact ⟨list, position, stopped, single, stopping, fun no => absurd running no, pending⟩
  simp only [startRound]
  split
  · exact idle _
  · next pos i found =>
    exact {
      list := hs.list
      position := nextEntry_position hs found
      stopped := fun no => by rw [running] at no; cases no
      single := fun no => by rw [running] at no; cases no
      stopping := fun no => by rw [running] at no; cases no
      timer := fun no => absurd running no
      pending := fun _ => rfl }

theorem stopSequencer_sound (hs : SequencerSound q) (idle : q.inFlight = none) : SequencerSound (stopSequencer q) where
  list := hs.list
  position := by simp [stopSequencer]
  stopped _ := ⟨idle, rfl⟩
  single no := by cases no
  stopping no := by cases no
  timer _ := ⟨rfl, rfl⟩
  pending := hs.pending

/-- The list goes on in RUNNING with nothing in flight and no single conversion pending (R8, R9, R12). -/
theorem resumeList_sound (hs : SequencerSound q) (running : q.state = .running) : SequencerSound (resumeList s q) := by
  have ended : SequencerSound { q with position := 0, inRound := false } := by
    obtain ⟨list, -, stopped, single, stopping, timer, pending⟩ := hs
    exact ⟨list, by simp, fun h => ⟨(stopped h).1, rfl⟩, fun h => ⟨(single h).1, (single h).2.1, rfl⟩, stopping, timer, pending⟩
  have between {p : Sequencer} (hp : SequencerSound p) (run : p.state = .running) : SequencerSound (betweenRounds s p) := by
    rw [betweenRounds]
    split
    · exact startRound_sound hp run
    · exact hp
  simp only [resumeList]
  split
  · split
    · next pos i found =>
      exact {
        list := hs.list
        position := nextEntry_position hs found
        stopped := fun no => by rw [running] at no; cases no
        single := fun no => by rw [running] at no; cases no
        stopping := fun no => by rw [running] at no; cases no
        timer := fun no => absurd running no
        pending := fun _ => rfl }
    · exact between ended running
  · exact between hs running

/-- The sequencer with the completed conversion taken out and a list conversion passed (R8). -/
theorem passed_sound (hs : SequencerSound q) (s : State) (kind : ConvKind) :
    let q1 := { q with inFlight := none }
    let q2 := if kind = .list then passEntry s q1 else q1
    q2.list.length ≤ 24 ∧ q2.position < 24 ∧ (q.inRound = false → q2.inRound = false) ∧ q2.state = q.state ∧
      q2.inFlight = none ∧ q2.pendingSingle = q.pendingSingle ∧ q2.roundTimer = q.roundTimer ∧ q2.expired = q.expired := by
  dsimp only
  split
  · rw [passEntry]
    split
    · next pos _ found =>
      exact ⟨hs.list, nextEntry_position hs found, id, rfl, rfl, rfl, rfl, rfl⟩
    · exact ⟨hs.list, by simp, fun _ => rfl, rfl, rfl, rfl, rfl, rfl⟩
  · exact ⟨hs.list, hs.position, id, rfl, rfl, rfl, rfl, rfl⟩

/-- The sequencer after the completion of the conversion in flight (R8, R9, R10, R12). -/
theorem afterCompletion_sound (hs : SequencerSound q) {c : Conversion} (flying : q.inFlight = some c) (s : State) :
    SequencerSound (afterCompletion s q c) := by
  have passed := passed_sound hs s c.kind
  simp only [afterCompletion]
  dsimp only at passed
  generalize (if c.kind = .list then passEntry s { q with inFlight := none } else { q with inFlight := none }) = q2
    at passed ⊢
  obtain ⟨list, position, unbegun, state, idle, pending, timer, expired⟩ := passed
  have unstopped : q2.state ≠ .stopped := fun stopped => by
    rw [state] at stopped
    rw [(hs.stopped stopped).1] at flying
    cases flying
  have untimed (no : q2.state ≠ .running) : q2.roundTimer = none ∧ q2.expired = false := by
    rw [timer, expired]
    exact hs.timer (state ▸ no)
  split
  · next i hi =>
    exact {
      list := list
      position := position
      stopped := fun no => absurd no unstopped
      single := fun single => by
        rw [pending, (hs.single (state.symm.trans single)).2.1] at hi
        cases hi
      stopping := fun _ => rfl
      timer := untimed
      pending := fun no => by cases no }
  · next single =>
    cases hq : q2.state with
    | running =>
      have running : SequencerSound q2 := {
        list := list
        position := position
        stopped := fun no => absurd no unstopped
        single := fun no => by rw [hq] at no; cases no
        stopping := fun no => by rw [hq] at no; cases no
        timer := untimed
        pending := fun no => by rw [single] at no; cases no }
      exact resumeList_sound running hq
    | stopping =>
      exact {
        list := list
        position := by simp [stopSequencer]
        stopped := fun _ => ⟨idle, rfl⟩
        single := fun no => by cases no
        stopping := fun no => by cases no
        timer := fun _ => ⟨rfl, rfl⟩
        pending := fun no => by simp only [stopSequencer, single] at no; cases no }
    | single =>
      exact {
        list := list
        position := position
        stopped := fun _ => ⟨idle, unbegun (hs.single (state.symm.trans hq)).2.2⟩
        single := fun no => by cases no
        stopping := fun no => by cases no
        timer := fun _ => untimed (by simp [hq])
        pending := fun no => by rw [single] at no; cases no }
    | stopped => exact absurd hq unstopped

/-- The round timer runs out in RUNNING alone (R9). -/
theorem expireRound_sound (hs : SequencerSound s.temp.seq) (due : s.temp.seq.roundTimer.isSome = true) :
    SequencerSound (expireRound s).temp.seq := by
  have running : s.temp.seq.state = .running := by
    by_contra no
    rw [(hs.timer no).1] at due
    cases due
  have expired (e : Bool) : SequencerSound { s.temp.seq with roundTimer := none, expired := e } := by
    obtain ⟨list, position, stopped, single, stopping, -, pending⟩ := hs
    exact ⟨list, position, stopped, single, stopping, fun no => absurd running no, pending⟩
  simp only [expireRound]
  split
  · exact expired true
  · exact startRound_sound (expired s.temp.seq.expired) running

/-! ### The requests -/

theorem seqListSet_sound (r : Request) (hs : SequencerSound s.temp.seq) : SequencerSound (seqListSet r s).st.temp.seq := by
  rw [seqListSet_eq]
  split; · exact hs
  split
  · exact hs
  · next fits =>
    simp only [not_or, not_lt] at fits
    obtain ⟨-, -, length, -⟩ := fits
    obtain ⟨-, position, stopped, single, stopping, timer, pending⟩ := hs
    refine ⟨?_, position, stopped, single, stopping, timer, pending⟩
    simp only [okay, State.setSeq_temp, List.length_append, List.length_take, List.length_map]
    omega

theorem seqStart_sound (r : Request) (hs : SequencerSound s.temp.seq) : SequencerSound (seqStart r s).st.temp.seq := by
  have started (period : Nat) (stopped : s.temp.seq.state = .stopped) :
      SequencerSound { s.temp.seq with state := .running, period := period, position := 0 } := {
    list := hs.list
    position := by simp
    stopped := fun no => by cases no
    single := fun no => by cases no
    stopping := fun no => by cases no
    timer := fun no => absurd rfl no
    pending := hs.pending }
  simp only [seqStart]
  split
  · exact hs
  · exact hs
  · exact hs
  · next stopped =>
    split; · exact hs
    split
    · exact hs
    · exact startRound_sound (started _ stopped) rfl

theorem seqStop_sound (hs : SequencerSound s.temp.seq) : SequencerSound (seqStop s).st.temp.seq := by
  simp only [seqStop]
  split
  · split
    · next idle => exact stopSequencer_sound hs (Option.isNone_iff_eq_none.mp idle)
    · next flying =>
      exact {
        list := hs.list
        position := hs.position
        stopped := fun no => by cases no
        single := fun no => by cases no
        stopping := fun _ => Option.isSome_iff_ne_none.mpr fun none => flying (Option.isNone_iff_eq_none.mpr none)
        timer := fun _ => ⟨rfl, rfl⟩
        pending := hs.pending }
  · exact hs

theorem convertOne_sound (r : Request) (hs : SequencerSound s.temp.seq) : SequencerSound (convertOne r s).st.temp.seq := by
  simp only [convertOne]
  split; · exact hs
  next i _ =>
  split; · exact hs
  split
  · next stopped =>
    obtain ⟨idle, unbegun⟩ := hs.stopped stopped
    have none : s.temp.seq.pendingSingle = none := by
      by_contra some
      have := hs.pending (Option.isSome_iff_ne_none.mpr some)
      rw [idle] at this
      cases this
    exact {
      list := hs.list
      position := hs.position
      stopped := fun no => by cases no
      single := fun _ => ⟨rfl, none, unbegun⟩
      stopping := fun no => by cases no
      timer := fun _ => hs.timer (by simp [stopped])
      pending := fun _ => rfl }
  · next running =>
    have busy (f : Option Conversion) (p : Option (Fin 16)) (h : p.isSome = true → f.isSome = true) :
        SequencerSound { s.temp.seq with inFlight := f, pendingSingle := p } := {
      list := hs.list
      position := hs.position
      stopped := fun no => by rw [running] at no; cases no
      single := fun no => by rw [running] at no; cases no
      stopping := fun no => by rw [running] at no; cases no
      timer := fun no => absurd running no
      pending := h }
    split
    · exact busy _ _ fun _ => rfl
    split
    · next flying _ => exact busy _ _ fun _ => by simpa [Option.isSome_iff_ne_none] using flying
    · exact hs
  · exact hs
  · exact hs

end Sequencer

/-! ### Every command -/

section Exec
variable {c : Instr} {s t : State}

theorem sensorsSound_readsOnly : readsOnly [.sensors, .tempSettings] SensorsSound := by
  intro s t h hs
  have sensors : t.temp.sensors = s.temp.sensors := h .sensors (by simp)
  obtain ⟨hold, spread, deglitch⟩ := h .tempSettings (by simp)
  rw [SensorsSound, sensors, hold, spread, deglitch]
  exact hs

theorem SensorsSound.set (hs : SensorsSound s) (i : Fin 16) {x : Sensor} (hx : SensorSound x) :
    SensorsSound (s.setSensor i x) := by
  refine ⟨fun j => ?_, hs.2⟩
  rw [State.setSensor_temp, vget_vput]
  split
  · exact hx
  · exact hs.1 j

theorem SensorsSound.congr (hs : SensorsSound s) (h : t.temp = s.temp) : SensorsSound t := by
  rw [SensorsSound, h]; exact hs

theorem SensorsSound.sensorSet (hs : SensorsSound s) (r : Request) : SensorsSound (sensorSet r s).st := by
  simp only [Machine.sensorSet]
  split; · exact hs
  split; · exact hs
  split; · exact hs
  split; · exact hs
  split; · exact hs
  split
  · exact hs
  · split
    · exact (hs.set _ (freshSensor_sound _ _ _ _)).congr rfl
    · exact hs.set _ (freshSensor_sound _ _ _ _)

theorem SensorsSound.sensorUnlock (hs : SensorsSound s) (r : Request) : SensorsSound (sensorUnlock r s).st := by
  simp only [Machine.sensorUnlock]
  split; · exact hs
  next i _ =>
  split
  · exact hs
  · next locked => exact (hs.set i ((hs.1 i).unlocked (not_not.mp locked))).congr rfl

theorem SensorsSound.tempSet (hs : SensorsSound s) (r : Request) : SensorsSound (tempSet r s).st := by
  rw [Machine.tempSet]
  split
  · exact hs
  · next valid => exact ⟨hs.1, by simp only [okay]; omega⟩

theorem SensorsSound.complete (hs : SensorsSound s) (code : Half) (v : Conversion) :
    SensorsSound (completeConversion code v s) := by
  have sample := completeSample_sound (hs.1 v.sensor) hs.2.2.2.2 s.cellTime code
  refine ⟨fun i => ?_, ?_⟩
  · rw [vget_completeConversion]
    split
    · exact sample
    · exact hs.1 i
  · obtain ⟨hold, spread, deglitch⟩ := completeConversion_unchangedBut code v s .tempSettings (by simp)
    rw [hold, spread, deglitch]
    exact hs.2

theorem sensorsSound_frameStable : FrameStable SensorsSound :=
  sensorsSound_readsOnly.frameStable (by decide) (by simp)

theorem sensorsSound_exec_event (h : exec c s = .next t) (hr : requestOf c = none) (hs : SensorsSound s) :
    SensorsSound t := by
  cases c <;> cases hr
  case resetInputAsserted =>
    exact exec_resetInputAsserted_keeps (sensorsSound_readsOnly.deviceReset (by decide) reset_sensorsSound) h hs
  case conversionCompletion code =>
    simp only [exec, execConversionCompletion] at h
    split at h
    · cases h; exact hs
    · split at h <;> cases h
      · exact hs.complete code _
      · exact hs
  case leftValidTimeExpiry i =>
    simp only [exec, execLeftValidTimeExpiry] at h
    split at h <;> cases h
    · exact hs.set i (hs.1 i).aged
    · exact hs
  all_goals exact sensorsSound_readsOnly.exec h (by simp) (of_decide_eq_true rfl) hs

theorem sensorsSound_exec_request {r : Request} (h : exec c s = .next t) (hr : requestOf c = some r)
    (hs : SensorsSound s) : SensorsSound t := by
  have stable := sensorsSound_frameStable
  have untouched (apart : ∀ b ∈ [Block.sensors, .tempSettings], b ∉ requestBlocks c) : SensorsSound t :=
    sensorsSound_readsOnly.exec_request stable h hr apart hs
  cases c <;> cases hr
  case sensorSet => cases h; exact stable.handleRequest (fun _ hu => hu.sensorSet _) hs
  case sensorUnlock => cases h; exact stable.handleRequest (fun _ hu => hu.sensorUnlock _) hs
  case tempSet => cases h; exact stable.handleRequest (fun _ hu => hu.tempSet _) hs
  all_goals exact untouched (of_decide_eq_true rfl)

theorem sensorsSound_exec (c : Instr) (s t : State) (h : exec c s = .next t) (hs : SensorsSound s) : SensorsSound t := by
  cases hr : requestOf c with
  | none => exact sensorsSound_exec_event h hr hs
  | some r => exact sensorsSound_exec_request h hr hs

/-- The sequencer of a state is sound. -/
def SeqSound (s : State) : Prop := SequencerSound s.temp.seq

theorem seqSound_readsOnly : readsOnly [.sequencer] SeqSound := by
  intro s t h hs
  have seq : t.temp.seq = s.temp.seq := h .sequencer (by simp)
  rw [SeqSound, seq]
  exact hs

theorem seqSound_frameStable : FrameStable SeqSound := seqSound_readsOnly.frameStable (by decide) (by simp)

theorem SeqSound.complete (hs : SeqSound s) (code : Half) {v : Conversion} (flying : s.temp.seq.inFlight = some v) :
    SeqSound (completeConversion code v s) := by
  have seq (u : State) (hu : u.temp.seq = s.temp.seq) : SequencerSound (afterCompletion u u.temp.seq v) := by
    rw [hu]; exact afterCompletion_sound hs flying u
  simp only [SeqSound, completeConversion, State.setSeq_temp]
  split <;> exact seq _ rfl

theorem due_isSome {timer : Option Timer} (h : s.due timer = true) : timer.isSome = true := by
  cases timer with
  | none => cases h
  | some _ => rfl

theorem seqSound_exec_event (h : exec c s = .next t) (hr : requestOf c = none) (hs : SeqSound s) : SeqSound t := by
  cases c <;> cases hr
  case resetInputAsserted =>
    exact exec_resetInputAsserted_keeps (seqSound_readsOnly.deviceReset (by decide) reset_sequencerSound) h hs
  case conversionCompletion code =>
    simp only [exec, execConversionCompletion] at h
    split at h
    · cases h; exact hs
    · next v flying =>
      split at h <;> cases h
      · exact hs.complete code flying
      · exact hs
  case roundTimerExpiry =>
    simp only [exec, execRoundTimerExpiry] at h
    split at h <;> cases h
    · next due => exact expireRound_sound hs (due_isSome due)
    · exact hs
  all_goals exact seqSound_readsOnly.exec h (by simp) (of_decide_eq_true rfl) hs

theorem seqSound_exec_request {r : Request} (h : exec c s = .next t) (hr : requestOf c = some r) (hs : SeqSound s) :
    SeqSound t := by
  have stable := seqSound_frameStable
  have untouched (apart : ∀ b ∈ [Block.sequencer], b ∉ requestBlocks c) : SeqSound t :=
    seqSound_readsOnly.exec_request stable h hr apart hs
  cases c <;> cases hr
  case seqListSet => cases h; exact stable.handleRequest (fun _ => seqListSet_sound _) hs
  case seqStart => cases h; exact stable.handleRequest (fun _ => seqStart_sound _) hs
  case seqStop => cases h; exact stable.handleRequest (fun _ => seqStop_sound) hs
  case convertOne => cases h; exact stable.handleRequest (fun _ => convertOne_sound _) hs
  all_goals exact untouched (of_decide_eq_true rfl)

theorem seqSound_exec (c : Instr) (s t : State) (h : exec c s = .next t) (hs : SeqSound s) : SeqSound t := by
  cases hr : requestOf c with
  | none => exact seqSound_exec_event h hr hs
  | some r => exact seqSound_exec_request h hr hs

end Exec

end Sys2Proof.Machine
end

section
/-! PROOFS. The model store stays sound: STAGING within its ranges, and ACTIVE an image that passes its tests (R24,
R25). -/

namespace Sys2Proof.Machine

/-! ### The words of an image -/

theorem imageWord_writeWord (im : Image) (n i : Nat) (w : Word) :
    imageWord (writeWord im n w) i = if i = n ∧ n < 230 then w else imageWord im i := by
  by_cases hi : i < 230
  · have word (im : Image) : imageWord im i = vget im ⟨i, hi⟩ := by simp [imageWord, vget, hi]
    rw [word, word, vget_writeWord]
    congr 1
    exact propext ⟨fun e => ⟨e, by simp only at e; omega⟩, And.left⟩
  · have word (im : Image) : imageWord im i = 0 := by
      rw [imageWord, List.getD_eq_default]
      simpa using hi
    rw [word, word, if_neg (by omega)]

theorem wordInRange_coefficient {w : Word} : wordInRange 1 w = true ↔ w.toNat ≤ 30000 := by simp [wordInRange]

/-- A word within its range leaves an image within its ranges (R28). -/
theorem WordsSound.write {im : Image} (h : WordsSound im) {n : Nat} {w : Word} (fits : wordInRange n w = true) :
    WordsSound (writeWord im n w) := by
  obtain ⟨workpiece, scales⟩ := h
  refine ⟨?_, fun j => ⟨?_, fun i => ?_⟩⟩
  · rw [workpieceAlpha, imageWord_writeWord]
    split
    · next here =>
      rw [← here.1, wordInRange_coefficient] at fits
      omega
    · exact workpiece
  · rw [scaleAlpha, imageWord_writeWord]
    split
    · next here =>
      rw [← here.1] at fits
      have range := (wordInRange_scaleIndex j 0 w).mp fits
      simp only [fieldInRange, Fin.coe_ofNat_eq_mod] at range
      omega
    · exact (scales j).1
  · rw [nodeAt, imageWord_writeWord]
    split
    · next here =>
      rw [← here.1] at fits
      have range := (wordInRange_scaleIndex j ⟨5 + i.val, by omega⟩ w).mp fits
      simp only [fieldInRange] at range
      omega
    · exact (scales j).2 i

theorem wordsSound_zero : WordsSound Image.zero := by
  have word (i : Nat) : imageWord Image.zero i = 0 := by
    rw [imageWord, Image.zero, Vector.toList_replicate, List.getD_eq_getElem?_getD, List.getElem?_replicate]
    split <;> rfl
  refine ⟨?_, fun j => ⟨?_, fun i => ?_⟩⟩ <;> simp [workpieceAlpha, scaleAlpha, nodeAt, word]

/-! ### ACTIVE and the sensors it names -/

section Exec
variable {c : Instr} {s t : State}

theorem firstFailing_none {test : Fin 6 → Bool} (h : firstFailing test = none) (j : Fin 6) : test j = true := by
  have none_fails := List.find?_eq_none.mp h j (List.mem_finRange j)
  simpa using none_fails

theorem activeNames_iff {im : Image} (h : s.model.active = some im) {i : Fin 16} :
    activeNames s i = true ↔ ∃ j : Fin 6, primaryOf im j = i.val ∨ secondaryOf im j = i.val := by
  simp [activeNames, h]

/-- The model store stays sound while its images stay and every sensor that ACTIVE names keeps role SCALE (R25). -/
theorem ModelSound.of_roles (hs : ModelSound s) (staging : t.model.staging = s.model.staging)
    (active : t.model.active = s.model.active)
    (roles : ∀ i : Fin 16, activeNames s i = true → (vget s.temp.sensors i).role = .scale →
      (vget t.temp.sensors i).role = .scale) : ModelSound t := by
  obtain ⟨words, image⟩ := hs
  refine ⟨staging ▸ words, fun im him => ?_⟩
  rw [active] at him
  obtain ⟨imageWords, tests⟩ := image im him
  refine ⟨imageWords, fun j => ?_⟩
  obtain ⟨nodes, span, assign⟩ := tests j
  have kept {n : Nat} (named : primaryOf im j = n ∨ secondaryOf im j = n) (scale : isScale s n = true) :
      isScale t n = true := by
    obtain ⟨i, rfl, hi⟩ := isScale_iff.mp scale
    exact isScale_iff.mpr ⟨i, rfl, roles i ((activeNames_iff him).mpr ⟨j, named⟩) hi⟩
  obtain ⟨primary, secondary⟩ := assignPass_iff.mp assign
  exact ⟨nodes, span, assignPass_iff.mpr ⟨kept (.inl rfl) primary, secondary.imp_right (kept (.inr rfl))⟩⟩

theorem ModelSound.congr (hs : ModelSound s) (model : t.model = s.model) (sensors : t.temp.sensors = s.temp.sensors) :
    ModelSound t :=
  hs.of_roles (congrArg (·.staging) model) (congrArg (·.active) model) fun _ _ hi => sensors ▸ hi

theorem ModelSound.setStaging (hs : ModelSound s) {im : Image} (h : WordsSound im) : ModelSound (s.setStaging im) :=
  ⟨h, hs.2⟩

theorem modelSound_readsOnly : readsOnly [.model, .sensors] ModelSound := fun _ _ h hs =>
  hs.congr (h .model (by simp)) (h .sensors (by simp))

theorem modelSound_frameStable : FrameStable ModelSound := modelSound_readsOnly.frameStable (by decide) (by simp)

/-! ### The requests and events -/

theorem ModelSound.modelLoad (hs : ModelSound s) (r : Request) : ModelSound (modelLoad r s).st := by
  simp only [Machine.modelLoad]
  split; · exact hs
  split; · exact hs
  split
  · split
    · next fits => exact hs.setStaging (hs.1.write fits)
    · exact hs
  · split
    · split
      · next fits => exact hs.setStaging ((hs.1.write fits.1).write fits.2)
      · exact hs
    · exact hs

theorem ModelSound.modelRevert (hs : ModelSound s) : ModelSound (modelRevert s).st := by
  rw [Machine.modelRevert]
  split
  · exact hs
  · cases active : s.model.active with
    | none => exact hs.setStaging wordsSound_zero
    | some im => exact hs.setStaging (hs.2 im active).1

theorem ModelSound.modelCheck (hs : ModelSound s) (r : Request) : ModelSound (modelCheck r s).st := by
  rw [Machine.modelCheck]
  split
  · exact hs
  · exact hs.of_roles rfl rfl fun _ _ hi => hi

/-- A record that says PASSED names an image that passed the three tests of each scale (R32 to R36). -/
theorem checkStaging_passed {expected : Word} (h : (checkStaging s expected).result = .passed) (j : Fin 6) :
    nodesPass s.model.staging j = true ∧ spanPass s.model.staging j = true ∧
      assignPass s s.model.staging j = true := by
  simp only [checkStaging] at h
  split at h; · cases h
  next nodes =>
  split at h; · cases h
  next span =>
  split at h; · cases h
  next assign => exact ⟨firstFailing_none nodes j, firstFailing_none span j, firstFailing_none assign j⟩

theorem ModelSound.completeCheck (hs : ModelSound s) (c : RunningCheck) : ModelSound (completeCheck c s) := by
  by_cases passed : (checkStaging s c.expected).result = .passed
  · rw [completeCheck_of_passed rfl passed]
    refine ⟨hs.1, fun im him => ?_⟩
    cases him
    exact ⟨hs.1, checkStaging_passed passed⟩
  · rw [completeCheck_of_failed rfl passed]
    exact hs.of_roles rfl rfl fun _ _ hi => hi

/-- A sensor record replaced by one of the same role. -/
theorem ModelSound.setSensor (hs : ModelSound s) {i : Fin 16} {x : Sensor}
    (role : activeNames s i = true → (vget s.temp.sensors i).role = .scale → x.role = .scale) :
    ModelSound (s.setSensor i x) := by
  refine hs.of_roles rfl rfl fun k named scale => ?_
  rw [State.setSensor_temp, vget_vput]
  split
  · next here => exact role (here ▸ named) (here ▸ scale)
  · exact scale

/-- SENSOR_SET keeps the role of a sensor that ACTIVE names (R3, check 5). -/
theorem ModelSound.sensorSet (hs : ModelSound s) (r : Request) : ModelSound (sensorSet r s).st := by
  simp only [Machine.sensorSet]
  split; · exact hs
  split; · exact hs
  split; · exact hs
  split; · exact hs
  split; · exact hs
  split; · exact hs
  next i _ _ _ role _ _ _ unnamed =>
  have fresh (c0 k : Half) (n : BitVec 3) : ModelSound (s.setSensor i (freshSensor role c0 k n)) :=
    hs.setSensor fun named _ => not_not.mp fun other => unnamed ⟨named, other⟩
  split
  · exact (fresh _ _ _).congr rfl rfl
  · exact fresh _ _ _

theorem ModelSound.sensorUnlock (hs : ModelSound s) (r : Request) : ModelSound (sensorUnlock r s).st := by
  simp only [Machine.sensorUnlock]
  split; · exact hs
  next i _ =>
  split
  · exact hs
  · let unlocked : Sensor :=
      { vget s.temp.sensors i with state := .waiting, nonGoodRun := 0, goodRun := 0, history := [], leftValid := none }
    exact ModelSound.congr (s := s.setSensor i unlocked) (hs.setSensor fun _ scale => scale) rfl rfl

theorem completeSample_role (d : Nat) (now : Word) (code : Half) (x : Sensor) :
    (completeSample d now code x).role = x.role := by
  rw [completeSample_eq]
  have failed (y : Sensor) (l : Option Word) : (failedRecord y l).role = y.role := rfl
  unfold judgedRecord
  cases x.state <;> grind [recordSample]

theorem ModelSound.complete (hs : ModelSound s) (code : Half) (v : Conversion) :
    ModelSound (completeConversion code v s) := by
  have model : (completeConversion code v s).model = s.model :=
    completeConversion_unchangedBut code v s .model (by simp)
  refine hs.of_roles (congrArg (·.staging) model) (congrArg (·.active) model) fun i _ scale => ?_
  rw [vget_completeConversion]
  split
  · next here => rw [completeSample_role, ← here, scale]
  · exact scale

/-! ### Every command -/

theorem modelSound_exec_event (h : exec c s = .next t) (hr : requestOf c = none) (hs : ModelSound s) :
    ModelSound t := by
  cases c <;> cases hr
  case resetInputAsserted =>
    exact exec_resetInputAsserted_keeps (modelSound_readsOnly.deviceReset (by decide) reset_modelSound) h hs
  case conversionCompletion code =>
    simp only [exec, execConversionCompletion] at h
    split at h
    · cases h; exact hs
    · split at h <;> cases h
      · exact hs.complete code _
      · exact hs
  case leftValidTimeExpiry i =>
    simp only [exec, execLeftValidTimeExpiry] at h
    split at h <;> cases h
    · exact hs.setSensor fun _ scale => scale
    · exact hs
  case modelCheckCompletion =>
    simp only [exec, execModelCheckCompletion] at h
    split at h
    · cases h; exact hs
    · split at h <;> cases h
      · exact hs.completeCheck _
      · exact hs
  all_goals exact modelSound_readsOnly.exec h (by simp) (of_decide_eq_true rfl) hs

theorem modelSound_exec_request {r : Request} (h : exec c s = .next t) (hr : requestOf c = some r)
    (hs : ModelSound s) : ModelSound t := by
  have stable := modelSound_frameStable
  have untouched (apart : ∀ b ∈ [Block.model, .sensors], b ∉ requestBlocks c) : ModelSound t :=
    modelSound_readsOnly.exec_request stable h hr apart hs
  cases c <;> cases hr
  case sensorSet => cases h; exact stable.handleRequest (fun _ hu => hu.sensorSet _) hs
  case sensorUnlock => cases h; exact stable.handleRequest (fun _ hu => hu.sensorUnlock _) hs
  case modelLoad => cases h; exact stable.handleRequest (fun _ hu => hu.modelLoad _) hs
  case modelRevert => cases h; exact stable.handleRequest (fun _ hu => hu.modelRevert) hs
  case modelCheck => cases h; exact stable.handleRequest (fun _ hu => hu.modelCheck _) hs
  all_goals exact untouched (of_decide_eq_true rfl)

theorem modelSound_exec (c : Instr) (s t : State) (h : exec c s = .next t) (hs : ModelSound s) : ModelSound t := by
  cases hr : requestOf c with
  | none => exact modelSound_exec_event h hr hs
  | some r => exact modelSound_exec_request h hr hs

end Exec

/-- Settles O59: a completion keeps its sensor within the filter's bounds and its history ordered, the sequencer has at
most one conversion in flight, and ACTIVE changes only to an image that has passed its tests. -/
theorem everyStepKeepsTemperatureAndModelSound : Obligations.EveryStepKeepsTemperatureAndModelSound := by
  refine ⟨fun s t ⟨sensors, seq⟩ h => ⟨?_, ?_⟩, fun s t model h => ?_⟩
  · exact step_keeps sensorsSound_readsOnly (by decide) sensorsSound_exec h sensors
  · exact step_keeps seqSound_readsOnly (by decide) seqSound_exec h seq
  · exact step_keeps modelSound_readsOnly (by decide) modelSound_exec h model

end Sys2Proof.Machine
end

section
/-! PROOFS. Slots and probe locations agree: what each operation of the rack keeps of it (R104, R118, R121). -/

namespace Sys2Proof.Machine

/-! ### What the rack's soundness reads -/

/-- Slots, probe places, changes and change time-out are those of another state, whatever became of the levels, timers
and other fields. -/
structure RackKept (s t : State) : Prop where
  slot : ∀ i : Fin 12, (slotAt t i).state = (slotAt s i).state ∧ (slotAt t i).probe = (slotAt s i).probe ∧
    (slotAt t i).lock = (slotAt s i).lock
  location : ∀ e : Fin 14, (entryAt t e).map Probe.location = (entryAt s e).map Probe.location
  home : ∀ e : Fin 14, (entryAt t e).map Probe.home = (entryAt s e).map Probe.home
  changes : t.rack.changes = s.rack.changes
  timeout : t.rack.changeTimeout = s.rack.changeTimeout

section Kept
variable {s t : State}

theorem RackKept.onHead (h : RackKept s t) (arm : Arm) (e : Fin 14) : onHead t arm e ↔ onHead s arm e := by
  rw [Machine.onHead, Machine.onHead, h.location]

theorem RackSound.of_kept (hs : RackSound s) (h : RackKept s t) : RackSound t where
  lock i := by rw [(h.slot i).1, (h.slot i).2.2]; exact hs.lock i
  held i e := by rw [(h.slot i).2.1, h.location]; exact hs.held i e
  home i e := by rw [(h.slot i).2.1, h.home]; exact hs.home i e
  empty i := by rw [(h.slot i).1, (h.slot i).2.1]; exact hs.empty i
  stored i := by rw [(h.slot i).1, (h.slot i).2.1]; exact hs.stored i
  released i := by rw [(h.slot i).1, releasedFor, releasedFor, h.changes]; exact hs.released i
  deposit arm := by
    rw [h.changes]
    intro phase
    obtain ⟨i, e, put, none, head, home⟩ := hs.deposit arm phase
    exact ⟨i, e, put, (h.slot i).2.1.trans none, (h.onHead arm e).mpr head, (h.home e).trans home⟩
  pick arm := by
    rw [h.changes]
    intro phase
    obtain ⟨i, take, some, free⟩ := hs.pick arm phase
    exact ⟨i, take, (h.slot i).2.1 ▸ some, fun e head => free e ((h.onHead arm e).mp head)⟩
  timeout := by rw [h.timeout]; exact hs.timeout
  oneHead arm e f he hf := hs.oneHead arm e f ((h.onHead arm e).mp he) ((h.onHead arm f).mp hf)

theorem RackKept.of_entries (slots : t.rack = s.rack)
    (location : ∀ e : Fin 14, (entryAt t e).map Probe.location = (entryAt s e).map Probe.location)
    (home : ∀ e : Fin 14, (entryAt t e).map Probe.home = (entryAt s e).map Probe.home) : RackKept s t where
  slot i := by rw [slotAt, slots]; exact ⟨rfl, rfl, rfl⟩
  location := location
  home := home
  changes := by rw [slots]
  timeout := by rw [slots]

theorem RackKept.congr (rack : t.rack = s.rack) (entries : t.registry.entries = s.registry.entries) : RackKept s t :=
  have entry (e : Fin 14) : entryAt t e = entryAt s e := by rw [entryAt, entries, entryAt]
  .of_entries rack (fun e => by rw [entry]) fun e => by rw [entry]

end Kept

/-! ### Slots and places -/

/-- Slots and the places of probes agree: the part of the rack's soundness that no change speaks of. -/
structure SlotsSound (s : State) : Prop where
  lock : ∀ i : Fin 12, (slotAt s i).lock = decide ((slotAt s i).state ≠ .released)
  held : ∀ (i : Fin 12) (e : Fin 14),
    (slotAt s i).probe = some e ↔ (entryAt s e).map Probe.location = some (.slot i)
  home : ∀ (i : Fin 12) (e : Fin 14), (slotAt s i).probe = some e → (entryAt s e).map Probe.home = some i
  empty : ∀ i : Fin 12, (slotAt s i).state = .vacant ∨ (slotAt s i).state = .unclaimed → (slotAt s i).probe = none
  stored : ∀ i : Fin 12, (slotAt s i).state = .stored → (slotAt s i).probe.isSome = true
  oneHead : ∀ (arm : Arm) (e f : Fin 14), onHead s arm e → onHead s arm f → e = f

/-- Slots and heads are as the open changes want them: the part of the rack's soundness that speaks of changes. -/
structure ReleasesSound (s : State) : Prop where
  released : ∀ i : Fin 12, (slotAt s i).state = .released ↔ releasedFor s .a i ∨ releasedFor s .b i
  deposit : ∀ arm : Arm, (s.rack.changes.get arm).phase = .deposit →
    ∃ (h : Fin 12) (e : Fin 14), (s.rack.changes.get arm).putSlot = some h ∧ (slotAt s h).probe = none ∧
      onHead s arm e ∧ (entryAt s e).map Probe.home = some h
  pick : ∀ arm : Arm, (s.rack.changes.get arm).phase = .pick →
    ∃ t : Fin 12, (s.rack.changes.get arm).takeSlot = some t ∧ (slotAt s t).probe.isSome = true ∧
      ∀ e : Fin 14, ¬ onHead s arm e

theorem rackSound_iff {s : State} : RackSound s ↔
    SlotsSound s ∧ ReleasesSound s ∧ 1 ≤ s.rack.changeTimeout ∧ s.rack.changeTimeout ≤ 120 :=
  ⟨fun h => ⟨⟨h.lock, h.held, h.home, h.empty, h.stored, h.oneHead⟩, ⟨h.released, h.deposit, h.pick⟩, h.timeout⟩,
    fun ⟨h, r, t⟩ => ⟨h.lock, h.held, h.home, h.empty, h.stored, r.released, r.deposit, r.pick, t, h.oneHead⟩⟩

section Slots
variable {s t : State} {i : Fin 12} {st : SlotState} {e : Fin 14}

theorem SlotsSound.congr (hs : SlotsSound s) (slots : t.rack.slots = s.rack.slots)
    (entries : t.registry.entries = s.registry.entries) : SlotsSound t := by
  have slot : slotAt t = slotAt s := by funext i; rw [slotAt, slots, slotAt]
  have entry : entryAt t = entryAt s := by funext e; rw [entryAt, entries, entryAt]
  obtain ⟨lock, held, home, empty, stored, oneHead⟩ := hs
  simp only [onHead] at oneHead
  constructor <;> simp only [onHead, slot, entry] <;> assumption

@[simp] theorem entryAt_enterSlot (i : Fin 12) (st : SlotState) (probe : Option (Fin 14)) (s : State) (e : Fin 14) :
    entryAt (enterSlot i st probe s) e = entryAt s e := rfl

@[simp] theorem slotAt_setEntry (s : State) (e : Fin 14) (p : Option Probe) (i : Fin 12) :
    slotAt (s.setEntry e p) i = slotAt s i := rfl

/-- A probe is in at most one slot. -/
theorem SlotsSound.slot_unique (hs : SlotsSound s) {j : Fin 12} (hi : (slotAt s i).probe = some e)
    (hj : (slotAt s j).probe = some e) : i = j := by
  rw [hs.held] at hi hj
  rw [hi, Option.some_inj, Location.slot.injEq] at hj
  exact hj

/-- A slot takes another state with the probe it holds (R118). -/
theorem SlotsSound.enter (hs : SlotsSound s) (i : Fin 12) {probe : Option (Fin 14)} (same : (slotAt s i).probe = probe)
    (empty : st = .vacant ∨ st = .unclaimed → probe = none) (stored : st = .stored → probe.isSome = true) :
    SlotsSound (enterSlot i st probe s) := by
  subst same
  have probe (j : Fin 12) : (slotAt (enterSlot i st (slotAt s i).probe s) j).probe = (slotAt s j).probe := by
    rw [slotAt_enterSlot]; split
    · next here => rw [here]
    · rfl
  constructor
  · intro j
    rw [slotAt_enterSlot]; split
    · rfl
    · exact hs.lock j
  · intro j f; rw [probe]; exact hs.held j f
  · intro j f; rw [probe]; exact hs.home j f
  · intro j; rw [probe, slotAt_enterSlot]; split
    · next here => rw [here]; exact empty
    · exact hs.empty j
  · intro j; rw [probe, slotAt_enterSlot]; split
    · next here => rw [here]; exact stored
    · exact hs.stored j
  · exact hs.oneHead

/-- A record in a slot: one that was in no slot comes to an empty one, its home slot (R104). -/
theorem SlotsSound.put (hs : SlotsSound s) {q : Probe} (location : q.location = .slot i) (home : q.home = i)
    (outside : ∀ j : Fin 12, (slotAt s j).probe ≠ some e) (free : (slotAt s i).probe = none)
    (full : st ≠ .vacant ∧ st ≠ .unclaimed) : SlotsSound (enterSlot i st (some e) (s.setEntry e (some q))) := by
  constructor
  · intro j
    simp only [slotAt_enterSlot, slotAt_setEntry]; split
    · rfl
    · exact hs.lock j
  · intro j f
    simp only [slotAt_enterSlot, slotAt_setEntry, entryAt_enterSlot, entryAt_setEntry]
    have held := hs.held j f
    by_cases hf : f = e
    · subst hf
      by_cases hj : j = i
      · simp [hj, location]
      · simp [hj, location, outside j, Ne.symm hj]
    · by_cases hj : j = i
      · subst hj
        have other : (entryAt s f).map Probe.location ≠ some (.slot j) := fun there => by
          rw [held.mpr there] at free; cases free
        simp [hf, Ne.symm hf, other]
      · simp only [if_neg hj, if_neg hf]; exact held
  · intro j f
    simp only [slotAt_enterSlot, slotAt_setEntry, entryAt_enterSlot, entryAt_setEntry]
    split
    · next hj => rintro ⟨⟩; rw [if_pos rfl, Option.map_some, home, hj]
    · intro held
      have other : f ≠ e := fun same => outside j (same ▸ held)
      rw [if_neg other]
      exact hs.home j f held
  · intro j
    simp only [slotAt_enterSlot, slotAt_setEntry]; split
    · exact fun no => absurd no (not_or.mpr full)
    · exact hs.empty j
  · intro j
    simp only [slotAt_enterSlot, slotAt_setEntry]; split
    · exact fun _ => rfl
    · exact hs.stored j
  · intro arm f g
    simp only [onHead, entryAt_enterSlot, entryAt_setEntry]
    split
    · simp [location]
    · split
      · simp [location]
      · exact hs.oneHead arm f g

/-- The record of a probe is replaced by one outside the slots, or by none: the head it may come to is free. -/
def comesOut (s : State) (e : Fin 14) (q : Option Probe) : Prop :=
  (∀ j : Fin 12, q.map Probe.location ≠ some (.slot j)) ∧
    ∀ arm : Arm, q.map Probe.location = some (.head arm) → ∀ f : Fin 14, f ≠ e → ¬ onHead s arm f

theorem SlotsSound.oneHead_setEntry (hs : SlotsSound s) {q : Option Probe} (out : comesOut s e q) {arm : Arm}
    {f g : Fin 14} (hf : onHead (s.setEntry e q) arm f) (hg : onHead (s.setEntry e q) arm g) : f = g := by
  simp only [onHead, entryAt_setEntry] at hf hg
  split at hf
  · next here =>
    split at hg
    · next there => rw [here, there]
    · next there => exact absurd hg (out.2 arm hf g there)
  · next here =>
    split at hg
    · exact absurd hf (out.2 arm hg f here)
    · exact hs.oneHead arm f g hf hg

/-- A record replaced that was in no slot and comes to none. -/
theorem SlotsSound.replaceOutside (hs : SlotsSound s) {q : Option Probe} (out : comesOut s e q)
    (outside : ∀ j : Fin 12, (slotAt s j).probe ≠ some e) : SlotsSound (s.setEntry e q) := by
  refine ⟨hs.lock, fun j f => ?_, fun j f held => ?_, hs.empty, hs.stored, fun arm f g => hs.oneHead_setEntry out⟩
  · rw [slotAt_setEntry, entryAt_setEntry]
    split
    · next here => exact iff_of_false (here ▸ outside j) (out.1 j)
    · exact hs.held j f
  · have other : f ≠ e := fun same => outside j (same ▸ held)
    rw [entryAt_setEntry, if_neg other]
    exact hs.home j f held

/-- A slot gives its probe up: the record leaves the slots, and the slot is empty (R104). -/
theorem SlotsSound.takeOut (hs : SlotsSound s) {q : Option Probe} (out : comesOut s e q)
    (held : (slotAt s i).probe = some e) (unstored : st ≠ .stored) :
    SlotsSound (enterSlot i st none (s.setEntry e q)) := by
  constructor
  · intro j
    simp only [slotAt_enterSlot, slotAt_setEntry]; split
    · rfl
    · exact hs.lock j
  · intro j f
    simp only [slotAt_enterSlot, slotAt_setEntry, entryAt_enterSlot, entryAt_setEntry]
    by_cases hf : f = e
    · subst hf
      rw [if_pos rfl]
      refine iff_of_false ?_ (out.1 j)
      split
      · nofun
      · next hj => exact fun there => hj (hs.slot_unique there held)
    · rw [if_neg hf, ← hs.held]
      split
      · next hj =>
        subst hj
        rw [held]
        exact iff_of_false nofun fun same => hf (Option.some.inj same).symm
      · exact Iff.rfl
  · intro j f
    simp only [slotAt_enterSlot, slotAt_setEntry, entryAt_enterSlot, entryAt_setEntry]
    split
    · nofun
    · next hj =>
      intro there
      have other : f ≠ e := fun same => hj (hs.slot_unique (same ▸ there) held)
      rw [if_neg other]
      exact hs.home j f there
  · intro j
    simp only [slotAt_enterSlot, slotAt_setEntry]; split
    · exact fun _ => rfl
    · exact hs.empty j
  · intro j
    simp only [slotAt_enterSlot, slotAt_setEntry]; split
    · exact fun no => absurd no unstored
    · exact hs.stored j
  · exact fun arm f g => hs.oneHead_setEntry out

/-- A slot that gives up what it holds, if anything, to a head without a probe or to no place. -/
theorem SlotsSound.vacate (hs : SlotsSound s) {loc : Location} (i : Fin 12) (nowhere : ∀ j, loc ≠ .slot j)
    (free : ∀ arm, loc = .head arm → ∀ e, ¬ onHead s arm e) (unstored : st ≠ .stored) :
    SlotsSound (enterSlot i st none (locateAny (slotAt s i).probe loc s)) := by
  cases held : (slotAt s i).probe with
  | none => exact hs.enter i held (fun _ => rfl) fun no => absurd no unstored
  | some e =>
    refine hs.takeOut ⟨fun j there => ?_, fun arm there => ?_⟩ held unstored
    · cases hp : entryAt s e <;> rw [hp] at there <;> cases there
      exact nowhere j rfl
    · cases hp : entryAt s e <;> rw [hp] at there <;> cases there
      exact fun f _ => free arm rfl f

end Slots

end Sys2Proof.Machine
end

section
/-! PROOFS. The open change and the slot it has released: what each operation of a change keeps (R118, R119, R123). -/

namespace Sys2Proof.Machine

/-! ### Which slots are released -/

/-- The arm's change has no slot released: it is closed or in FINISH. -/
def unreleasing (s : State) (arm : Arm) : Prop :=
  (s.rack.changes.get arm).phase = .idle ∨ (s.rack.changes.get arm).phase = .finish

section Releases
variable {s t : State} {arm : Arm} {i h : Fin 12} {e : Fin 14}

theorem unreleasing.not_releasedFor (hq : unreleasing s arm) (i : Fin 12) : ¬ releasedFor s arm i := by
  rintro (⟨phase, -⟩ | ⟨phase, -⟩) <;> rcases hq with hq | hq <;> rw [phase] at hq <;> cases hq

theorem released_iff (hs : ReleasesSound s) (other : unreleasing s (otherArm arm)) (i : Fin 12) :
    (slotAt s i).state = .released ↔ releasedFor s arm i := by
  have no := other.not_releasedFor i
  rw [hs.released]
  cases arm
  · exact or_iff_left no
  · exact or_iff_right no

theorem releasedFor_deposit (phase : (s.rack.changes.get arm).phase = .deposit)
    (put : (s.rack.changes.get arm).putSlot = some h) : releasedFor s arm i ↔ i = h := by
  simp [releasedFor, phase, put, eq_comm]

theorem releasedFor_pick (phase : (s.rack.changes.get arm).phase = .pick)
    (take : (s.rack.changes.get arm).takeSlot = some h) : releasedFor s arm i ↔ i = h := by
  simp [releasedFor, phase, take, eq_comm]

/-- No slot is released without a change in DEPOSIT or PICK. -/
theorem not_released (hs : ReleasesSound s) (own : unreleasing s arm) (other : unreleasing s (otherArm arm)) (i : Fin 12) :
    (slotAt s i).state ≠ .released := fun released =>
  own.not_releasedFor i ((released_iff hs other i).mp released)

theorem forall_arms {p : Arm → Prop} (arm : Arm) (own : p arm) (other : p (otherArm arm)) (k : Arm) : p k := by
  by_cases hk : k = arm
  · exact hk ▸ own
  · exact eq_other_of_ne hk ▸ other

theorem exists_released_iff (arm : Arm) (i : Fin 12) :
    (releasedFor s .a i ∨ releasedFor s .b i) ↔ releasedFor s arm i ∨ releasedFor s (otherArm arm) i := by
  cases arm
  · exact Iff.rfl
  · exact or_comm

/-! ### Building the releases anew -/

theorem unreleasing.absurd_deposit (hq : unreleasing s arm) {p : Prop}
    (phase : (s.rack.changes.get arm).phase = .deposit) : p := by
  rcases hq with hq | hq <;> rw [phase] at hq <;> cases hq

theorem unreleasing.absurd_pick (hq : unreleasing s arm) {p : Prop} (phase : (s.rack.changes.get arm).phase = .pick) : p := by
  rcases hq with hq | hq <;> rw [phase] at hq <;> cases hq

theorem releasesSound_of_unreleasing (own : unreleasing s arm) (other : unreleasing s (otherArm arm))
    (locked : ∀ i : Fin 12, (slotAt s i).state ≠ .released) : ReleasesSound s where
  released i := iff_of_false (locked i) <| by
    rw [exists_released_iff arm]; exact not_or.mpr ⟨own.not_releasedFor i, other.not_releasedFor i⟩
  deposit := forall_arms arm own.absurd_deposit other.absurd_deposit
  pick := forall_arms arm own.absurd_pick other.absurd_pick

theorem releasesSound_of_deposit (phase : (s.rack.changes.get arm).phase = .deposit)
    (put : (s.rack.changes.get arm).putSlot = some h) (other : unreleasing s (otherArm arm))
    (released : ∀ i : Fin 12, (slotAt s i).state = .released ↔ i = h) (empty : (slotAt s h).probe = none)
    (head : onHead s arm e) (home : (entryAt s e).map Probe.home = some h) : ReleasesSound s where
  released i := by
    rw [exists_released_iff arm, or_iff_left (other.not_releasedFor i), releasedFor_deposit phase put]; exact released i
  deposit := forall_arms arm (fun _ => ⟨h, e, put, empty, head, home⟩) other.absurd_deposit
  pick := forall_arms arm (fun pick => by rw [phase] at pick; cases pick) other.absurd_pick

theorem releasesSound_of_pick (phase : (s.rack.changes.get arm).phase = .pick)
    (take : (s.rack.changes.get arm).takeSlot = some h) (other : unreleasing s (otherArm arm))
    (released : ∀ i : Fin 12, (slotAt s i).state = .released ↔ i = h) (full : (slotAt s h).probe.isSome = true)
    (free : ∀ e : Fin 14, ¬ onHead s arm e) : ReleasesSound s where
  released i := by
    rw [exists_released_iff arm, or_iff_left (other.not_releasedFor i), releasedFor_pick phase take]; exact released i
  deposit := forall_arms arm (fun deposit => by rw [phase] at deposit; cases deposit) other.absurd_deposit
  pick := forall_arms arm (fun _ => ⟨h, take, full, free⟩) other.absurd_pick

/-- What happens to slots that are not RELEASED and to probes off the heads touches no release. -/
theorem ReleasesSound.elsewhere (hs : ReleasesSound s) (changes : t.rack.changes = s.rack.changes)
    (slot : ∀ j : Fin 12, slotAt t j = slotAt s j ∨
      (slotAt s j).state ≠ .released ∧ (slotAt t j).state ≠ .released)
    (head : ∀ (arm : Arm) (e : Fin 14), onHead t arm e ↔ onHead s arm e)
    (home : ∀ (arm : Arm) (e : Fin 14), onHead s arm e → (entryAt t e).map Probe.home = (entryAt s e).map Probe.home) :
    ReleasesSound t := by
  have unmoved {j : Fin 12} (released : (slotAt s j).state = .released) : slotAt t j = slotAt s j :=
    (slot j).resolve_right fun moved => moved.1 released
  have releases {arm : Arm} {j : Fin 12} (h : releasedFor s arm j) : slotAt t j = slotAt s j :=
    unmoved <| (hs.released j).mpr <| (exists_released_iff arm j).mpr (.inl h)
  constructor
  · intro j
    simp only [releasedFor, changes]
    rw [← releasedFor, ← releasedFor, ← hs.released]
    obtain same | ⟨before, after⟩ := slot j
    · rw [same]
    · exact iff_of_false after before
  · intro arm phase
    rw [changes] at phase ⊢
    obtain ⟨i, e, put, none, heads, homes⟩ := hs.deposit arm phase
    exact ⟨i, e, put, by rw [releases (.inl ⟨phase, put⟩)]; exact none, (head arm e).mpr heads,
      (home arm e heads).trans homes⟩
  · intro arm phase
    rw [changes] at phase ⊢
    obtain ⟨i, take, some, free⟩ := hs.pick arm phase
    exact ⟨i, take, by rw [releases (.inr ⟨phase, take⟩)]; exact some, fun e heads => free e ((head arm e).mp heads)⟩

end Releases

/-! ### Open changes -/

section Changes
variable {s t u : State} {arm : Arm}

theorem changesSound_iff : ChangesSound s ↔ ∀ arm, ChangeSound s arm :=
  ⟨fun h => all_arms h.1 h.2, fun h => ⟨h .a, h .b⟩⟩

theorem ChangesSound.of_arm (hs : ChangesSound s) (arm : Arm) : ChangeSound s arm := changesSound_iff.mp hs arm

/-- An arm holds the RACK zone (R123). -/
def holdsRack (s : State) (arm : Arm) : Prop :=
  ∃ z : Fin 16, (zoneAt s z).defined = true ∧ (zoneAt s z).kind = .rack ∧ (zoneAt s z).holder = some arm

theorem holdsRack_of_table (table : t.zones.table = s.zones.table) (h : holdsRack s arm) : holdsRack t arm := by
  simp only [holdsRack, zoneAt, table] at h ⊢; exact h

/-- There is one RACK zone, and one arm holds it (R61, R123). -/
theorem TableSound.one_holdsRack (hs : TableSound s) (own : holdsRack s arm) : ¬ holdsRack s (otherArm arm) := by
  obtain ⟨z, dz, kz, hz⟩ := own
  rintro ⟨w, dw, kw, hw⟩
  rw [hs.rack z w dz dw kz kw, hw, Option.some_inj] at hz
  exact otherArm_ne arm hz

/-- While the arm holds the RACK zone, the other has no change open (R123). -/
theorem ChangesSound.other_idle (hs : ChangesSound s) (table : TableSound s) (own : holdsRack s arm) :
    (s.rack.changes.get (otherArm arm)).phase = .idle :=
  by_contra fun opened => table.one_holdsRack own ((hs.of_arm (otherArm arm)).zone opened)

/-- A context that a change may stand in: closed, or open with its timer running. -/
structure ContextSound (c : ChangeContext) : Prop where
  closed : c.phase = .idle → c = closedContext c.outcome
  timer : c.phase ≠ .idle → c.timer.isSome = true
  distinct : ∀ i : Fin 12, c.putSlot = some i → c.takeSlot ≠ some i

theorem changeSound_iff : ChangeSound s arm ↔
    ContextSound (s.rack.changes.get arm) ∧ ((s.rack.changes.get arm).phase ≠ .idle → holdsRack s arm) :=
  ⟨fun h => ⟨⟨h.closed, h.timer, h.distinct⟩, h.zone⟩, fun ⟨h, zone⟩ => ⟨h.closed, h.timer, h.distinct, zone⟩⟩

theorem contextSound_closed (outcome : ChangeOutcome) : ContextSound (closedContext outcome) where
  closed _ := rfl
  timer no := absurd rfl no
  distinct _ := nofun

theorem ChangesSound.congr (hs : ChangesSound s) (changes : t.rack.changes = s.rack.changes)
    (table : t.zones.table = s.zones.table) : ChangesSound t := by
  refine changesSound_iff.mpr fun arm => ?_
  obtain ⟨context, zone⟩ := changeSound_iff.mp (hs.of_arm arm)
  rw [changeSound_iff, changes]
  exact ⟨context, fun opened => holdsRack_of_table table (zone opened)⟩

theorem ChangesSound.write (hs : ChangesSound s) {c : ChangeContext} (changes : t.rack.changes = s.rack.changes.set arm c)
    (table : t.zones.table = s.zones.table) (context : ContextSound c) (zone : c.phase ≠ .idle → holdsRack s arm) :
    ChangesSound t := by
  refine changesSound_iff.mpr (forall_arms arm ?_ ?_) <;> rw [changeSound_iff, changes]
  · rw [PerArm.get_set_same]
    exact ⟨context, fun opened => holdsRack_of_table table (zone opened)⟩
  · rw [PerArm.get_set_other _ (otherArm_ne arm)]
    obtain ⟨context, zone⟩ := changeSound_iff.mp (hs.of_arm (otherArm arm))
    exact ⟨context, fun opened => holdsRack_of_table table (zone opened)⟩

/-! ### The rack with its zone -/

/-- The rack and its changes are sound, in a sound zone table. -/
def RackOk (s : State) : Prop := RackSound s ∧ ChangesSound s ∧ TableSound s

theorem TableSound.congr (hs : TableSound s) (table : t.zones.table = s.zones.table) : TableSound t := by
  have zone : zoneAt t = zoneAt s := by funext z; rw [zoneAt, table, zoneAt]
  obtain ⟨bounds, undefined, disjoint, rack⟩ := hs
  constructor <;> rw [zone] <;> assumption

theorem RackOk.of_parts (hs : RackOk s) (table : t.zones.table = s.zones.table)
    (timeout : t.rack.changeTimeout = s.rack.changeTimeout) (slots : SlotsSound t) (releases : ReleasesSound t)
    (changes : ChangesSound t) : RackOk t :=
  ⟨rackSound_iff.mpr ⟨slots, releases, timeout ▸ hs.1.timeout⟩, changes, hs.2.2.congr table⟩

theorem RackOk.of_kept (hs : RackOk s) (kept : RackKept s t) (table : t.zones.table = s.zones.table) : RackOk t :=
  ⟨hs.1.of_kept kept, hs.2.1.congr kept.changes table, hs.2.2.congr table⟩

theorem RackOk.congr (hs : RackOk s) (rack : t.rack = s.rack) (entries : t.registry.entries = s.registry.entries)
    (table : t.zones.table = s.zones.table) : RackOk t := hs.of_kept (.congr rack entries) table

theorem RackOk.slots (hs : RackOk s) : SlotsSound s := (rackSound_iff.mp hs.1).1

theorem RackOk.releases (hs : RackOk s) : ReleasesSound s := (rackSound_iff.mp hs.1).2.1

theorem RackOk.context (hs : RackOk s) (arm : Arm) : ContextSound (s.rack.changes.get arm) :=
  (changeSound_iff.mp (hs.2.1.of_arm arm)).1

theorem RackOk.holdsRack (hs : RackOk s) (opened : (s.rack.changes.get arm).phase ≠ .idle) : holdsRack s arm :=
  (changeSound_iff.mp (hs.2.1.of_arm arm)).2 opened

theorem RackOk.other_unreleasing (hs : RackOk s) (opened : (s.rack.changes.get arm).phase ≠ .idle) :
    unreleasing s (otherArm arm) :=
  .inl (hs.2.1.other_idle hs.2.2 (hs.holdsRack opened))

/-! ### Closing a change -/

/-- The slot that an open change had released is settled otherwise, so that the change can be closed. -/
structure Resolved (s u : State) : Prop where
  slots : SlotsSound u
  locked : ∀ i : Fin 12, (slotAt u i).state ≠ .released
  changes : u.rack.changes = s.rack.changes
  timeout : u.rack.changeTimeout = s.rack.changeTimeout
  table : u.zones.table = s.zones.table

theorem SlotsSound.of_kept (hs : SlotsSound s) (h : RackKept s t) : SlotsSound t where
  lock i := by rw [(h.slot i).1, (h.slot i).2.2]; exact hs.lock i
  held i e := by rw [(h.slot i).2.1, h.location]; exact hs.held i e
  home i e := by rw [(h.slot i).2.1, h.home]; exact hs.home i e
  empty i := by rw [(h.slot i).1, (h.slot i).2.1]; exact hs.empty i
  stored i := by rw [(h.slot i).1, (h.slot i).2.1]; exact hs.stored i
  oneHead arm e f he hf := hs.oneHead arm e f ((h.onHead arm e).mp he) ((h.onHead arm f).mp hf)

theorem Resolved.kept (hu : Resolved s u) (h : RackKept u t) (table : t.zones.table = u.zones.table) : Resolved s t where
  slots := hu.slots.of_kept h
  locked i := (h.slot i).1 ▸ hu.locked i
  changes := h.changes.trans hu.changes
  timeout := h.timeout.trans hu.timeout
  table := table.trans hu.table

/-- A change whose slot is settled closes (R123). -/
theorem RackOk.close (hs : RackOk s) (opened : (s.rack.changes.get arm).phase ≠ .idle) (hu : Resolved s u)
    (outcome : ChangeOutcome) : RackOk (closeChange arm outcome u) := by
  have changes : (closeChange arm outcome u).rack.changes = s.rack.changes.set arm (closedContext outcome) := by
    rw [changes_closeChange, hu.changes]
  refine hs.of_parts hu.table hu.timeout (hu.slots.congr rfl rfl) ?_ ?_
  · refine releasesSound_of_unreleasing (arm := arm) (.inl ?_) ?_ hu.locked
    · rw [changes, PerArm.get_set_same]; rfl
    · rw [unreleasing, changes, PerArm.get_set_other _ (otherArm_ne arm)]
      exact hs.other_unreleasing opened
  · exact hs.2.1.write changes hu.table (contextSound_closed outcome) fun no => absurd rfl no

theorem RackOk.resolved_of_finish (hs : RackOk s) (finish : (s.rack.changes.get arm).phase = .finish) : Resolved s s where
  slots := hs.slots
  locked := not_released hs.releases (.inr finish) (hs.other_unreleasing (by rw [finish]; nofun))
  changes := rfl
  timeout := rfl
  table := rfl

/-- The released slot of a change takes another state with the probe it holds. -/
theorem RackOk.resolved_of_enter (hs : RackOk s) (opened : (s.rack.changes.get arm).phase ≠ .idle) {i : Fin 12}
    (released : ∀ j : Fin 12, releasedFor s arm j → j = i) {st : SlotState} {probe : Option (Fin 14)}
    (slots : SlotsSound (enterSlot i st probe s)) (locked : st ≠ .released) : Resolved s (enterSlot i st probe s) where
  slots := slots
  locked j := by
    rw [slotAt_enterSlot]
    split
    · exact locked
    · next other => exact fun no => other (released j ((released_iff hs.releases (hs.other_unreleasing opened) j).mp no))
  changes := rfl
  timeout := rfl
  table := rfl

end Changes

end Sys2Proof.Machine
end

section
/-! PROOFS. Each operation of the rack keeps slots, locks, changes and probe places in agreement (R118 to R136). -/

namespace Sys2Proof.Machine

section Ops
variable {s t u : State} {arm : Arm} {i h : Fin 12} {e : Fin 14} {p : Probe}

/-! ### Reading the invariant -/

theorem rackOk_readsOnly :
    readsOnly ([.slots, .entries, .changeTimeout, .zoneTable] ++ ofArms .change) RackOk := by
  intro s t same hs
  have slots : t.rack.slots = s.rack.slots := same .slots (by simp)
  have entries : t.registry.entries = s.registry.entries := same .entries (by simp)
  have entry (e : Fin 14) : entryAt t e = entryAt s e := by rw [entryAt, entries, entryAt]
  refine hs.of_kept ?_ (same .zoneTable (by simp))
  exact {
    slot := fun i => by rw [slotAt, slots]; exact ⟨rfl, rfl, rfl⟩
    location := fun e => by rw [entry]
    home := fun e => by rw [entry]
    changes := PerArm.ext_get fun arm => same (.change arm) (by simp [mem_ofArms])
    timeout := same .changeTimeout (by simp) }

theorem rackOk_frameStable : FrameStable RackOk := rackOk_readsOnly.frameStable (by decide) (by simp [ofArms])

/-- The head probe is the probe on the head (R104). -/
theorem onHead_headProbe (h : headProbe s arm = some e) : onHead s arm e := by
  obtain ⟨k, hk, at_⟩ := (findProbe_some h).1
  simpa [onHead, hk] using at_

theorem not_onHead_of_none (h : headProbe s arm = none) (e : Fin 14) : ¬ onHead s arm e := by
  intro head
  cases hp : entryAt s e with
  | none => rw [onHead, hp] at head; cases head
  | some p =>
    have other := findProbe_none h e p hp
    rw [onHead, hp] at head
    simp [Option.some.inj head] at other

theorem headProbe_of_onHead (hs : SlotsSound s) (head : onHead s arm e) : headProbe s arm = some e := by
  cases found : headProbe s arm with
  | none => exact absurd head (not_onHead_of_none found e)
  | some f => rw [hs.oneHead arm f e (onHead_headProbe found) head]

theorem not_held_of_onHead (hs : SlotsSound s) (head : onHead s arm e) (i : Fin 12) : (slotAt s i).probe ≠ some e := by
  intro held
  rw [hs.held, head] at held
  cases held

theorem headRecord_some (h : headRecord s arm = some p) :
    ∃ e, headProbe s arm = some e ∧ entryAt s e = some p := by
  rw [headRecord, Option.bind_eq_some_iff] at h
  exact h

/-! ### Records rewritten in place -/

theorem RackKept.setEntry {q : Probe} (hp : entryAt s e = some p) (location : q.location = p.location)
    (home : q.home = p.home) : RackKept s (s.setEntry e (some q)) := by
  refine .of_entries rfl (fun f => ?_) fun f => ?_ <;> rw [entryAt_setEntry] <;> split
  · next here => rw [here, hp, Option.map_some, Option.map_some, location]
  · rfl
  · next here => rw [here, hp, Option.map_some, Option.map_some, home]
  · rfl

theorem RackKept.trans (h1 : RackKept s t) (h2 : RackKept t u) : RackKept s u where
  slot i := by
    obtain ⟨state, probe, lock⟩ := h1.slot i
    obtain ⟨state', probe', lock'⟩ := h2.slot i
    exact ⟨state'.trans state, probe'.trans probe, lock'.trans lock⟩
  location e := (h2.location e).trans (h1.location e)
  home e := (h2.home e).trans (h1.home e)
  changes := h2.changes.trans h1.changes
  timeout := h2.timeout.trans h1.timeout

theorem RackKept.refl (s : State) : RackKept s s := .congr rfl rfl

theorem RackKept.modProbe {f : Probe → Probe} (e : Fin 14)
    (place : ∀ p, (f p).location = p.location ∧ (f p).home = p.home) : RackKept s (s.modProbe e f) := by
  refine .of_entries rfl (fun g => ?_) fun g => ?_ <;> rw [entryAt_modProbe] <;> split
  · next here => rw [here]; cases entryAt s e <;> simp [place]
  · rfl
  · next here => rw [here]; cases entryAt s e <;> simp [place]
  · rfl

theorem RackKept.raiseProbe (h : RackKept s t) (e : Fin 14) : RackKept s (raiseProbe e t) := h.trans (.congr rfl rfl)

theorem mountCheck_rackKept (e : Fin 14) (s : State) : RackKept s (mountCheck e s) := by
  cases hp : entryAt s e with
  | none => rw [mountCheck, hp]; exact .refl s
  | some p =>
    rw [mountCheck_spec hp]
    split
    · exact (RackKept.setEntry (q := { p with qual := .due }) hp rfl rfl).raiseProbe e
    · exact .refl s

theorem countUse_rackKept (e : Fin 14) (s : State) : RackKept s (countUse e s) := by
  cases hp : entryAt s e with
  | none => rw [countUse, hp]; exact .refl s
  | some p =>
    rw [countUse_spec hp]
    split
    · exact (RackKept.setEntry (q := { p with useCount := min 65535 (p.useCount + 1), qual := .due }) hp rfl rfl).raiseProbe e
    · exact .setEntry hp rfl rfl

theorem mountTake_rackKept (arm : Arm) (s : State) : RackKept s (mountTake arm s) := by
  rw [mountTake]
  split
  · exact .refl s
  · refine RackKept.trans ?_ (mountCheck_rackKept _ _)
    exact .modProbe _ fun _ => ⟨rfl, rfl⟩

theorem mountTake_table (arm : Arm) (s : State) : (mountTake arm s).zones.table = s.zones.table :=
  mountTake_unchangedBut arm s .zoneTable (by decide)

/-! ### Presence (R121, R127, R128) -/

theorem RackOk.modSlot (hs : RackOk s) (i : Fin 12) {f : Slot → Slot}
    (same : ∀ x, (f x).state = x.state ∧ (f x).probe = x.probe ∧ (f x).lock = x.lock) : RackOk (s.modSlot i f) := by
  refine hs.of_kept ⟨fun j => ?_, fun _ => rfl, fun _ => rfl, rfl, rfl⟩ rfl
  rw [slotAt_modSlot]
  split
  · next here => rw [here]; exact same _
  · exact ⟨rfl, rfl, rfl⟩

/-- A slot that is not RELEASED takes another state than RELEASED, and no probe comes to a head or leaves one. -/
theorem RackOk.settle {t : State} (hs : RackOk s) (rack : t.rack = s.rack) (table : t.zones.table = s.zones.table)
    {st : SlotState} {probe : Option (Fin 14)} (locked : (slotAt s i).state ≠ .released) (st_locked : st ≠ .released)
    (head : ∀ (arm : Arm) (e : Fin 14), onHead t arm e ↔ onHead s arm e)
    (home : ∀ (arm : Arm) (e : Fin 14), onHead s arm e → (entryAt t e).map Probe.home = (entryAt s e).map Probe.home)
    (slots : SlotsSound (enterSlot i st probe t)) : RackOk (enterSlot i st probe t) := by
  have changes : (enterSlot i st probe t).rack.changes = s.rack.changes :=
    (rfl : _ = t.rack.changes).trans (by rw [rack])
  refine hs.of_parts table ((rfl : _ = t.rack.changeTimeout).trans (by rw [rack])) slots ?_ ?_
  · refine hs.releases.elsewhere changes (fun j => ?_) head home
    rw [slotAt_enterSlot]
    have same (k : Fin 12) : slotAt t k = slotAt s k := by rw [slotAt, rack, slotAt]
    split
    · next here => exact .inr ⟨here ▸ locked, st_locked⟩
    · exact .inl (same j)
  · exact hs.2.1.congr changes table

/-- A record replaced that is on no head and comes to none. -/
theorem onHead_setEntry {q : Option Probe} (off : ∀ arm, ¬ onHead s arm e)
    (away : ∀ arm, q.map Probe.location ≠ some (.head arm)) (arm : Arm) (f : Fin 14) :
    onHead (s.setEntry e q) arm f ↔ onHead s arm f := by
  rw [onHead, entryAt_setEntry]
  split
  · next here => exact iff_of_false (away arm) (here ▸ off arm)
  · exact Iff.rfl

theorem home_setEntry {q : Option Probe} (off : ∀ arm, ¬ onHead s arm e) (arm : Arm) (f : Fin 14)
    (head : onHead s arm f) : (entryAt (s.setEntry e q) f).map Probe.home = (entryAt s f).map Probe.home := by
  rw [entryAt_setEntry, if_neg]
  rintro rfl
  exact off arm head

theorem not_onHead_of_held (hs : SlotsSound s) (held : (slotAt s i).probe = some e) (arm : Arm) : ¬ onHead s arm e :=
  fun head => not_held_of_onHead hs head i held

/-- A slot with a settled level gives up its probe as MISSING (R121, R136). -/
theorem RackOk.lose (hs : RackOk s) (i : Fin 12) {st : SlotState} (locked : (slotAt s i).state ≠ .released)
    (st_locked : st ≠ .released) (unstored : st ≠ .stored) :
    RackOk (enterSlot i st none (locateAny (slotAt s i).probe .missing s)) := by
  have slots := hs.slots.vacate i (loc := .missing) nofun nofun unstored
  cases held : (slotAt s i).probe with
  | none =>
    rw [held] at slots
    exact hs.settle rfl rfl locked st_locked (fun _ _ => Iff.rfl) (fun _ _ _ => rfl) slots
  | some e =>
    rw [held] at slots
    have off := not_onHead_of_held hs.slots held
    refine hs.settle (t := locateAny (some e) .missing s) rfl rfl locked st_locked
      (onHead_setEntry off fun arm => ?_) (home_setEntry off) slots
    cases entryAt s e <;> simp

theorem RackOk.enter (hs : RackOk s) (i : Fin 12) {st : SlotState} {probe : Option (Fin 14)}
    (locked : (slotAt s i).state ≠ .released) (st_locked : st ≠ .released) (same : (slotAt s i).probe = probe)
    (empty : st = .vacant ∨ st = .unclaimed → probe = none) (stored : st = .stored → probe.isSome = true) :
    RackOk (enterSlot i st probe s) :=
  hs.settle rfl rfl locked st_locked (fun _ _ => Iff.rfl) (fun _ _ _ => rfl) (hs.slots.enter i same empty stored)

theorem RackOk.unexpectedChange (hs : RackOk s) (i : Fin 12) : RackOk (unexpectedChange i s) := by
  have raised {u : State} (hu : RackOk u) : RackOk (raiseRack i u) := hu.congr rfl rfl rfl
  have empty (vacant : (slotAt s i).state = .vacant ∨ (slotAt s i).state = .unclaimed) : (slotAt s i).probe = none :=
    hs.1.empty i vacant
  refine raised ?_
  split
  · next state => exact hs.lose i (by rw [state]; nofun) nofun nofun
  · next state => exact hs.enter i (by rw [state]; nofun) nofun (empty (.inl state)) (fun _ => rfl) nofun
  · next state => exact hs.enter i (by rw [state]; nofun) nofun (empty (.inr state)) (fun _ => rfl) nofun
  · exact hs
  · exact hs

/-- What a deposit in progress knows: the probe on the head and its free home slot (R126). -/
theorem RackOk.depositing (hs : RackOk s) (phase : (s.rack.changes.get arm).phase = .deposit)
    (put : (s.rack.changes.get arm).putSlot = some h) : ∃ e p, headProbe s arm = some e ∧ onHead s arm e ∧
      entryAt s e = some p ∧ p.home = h ∧ (slotAt s h).probe = none := by
  obtain ⟨i, e, puts, free, head, home⟩ := hs.1.deposit arm phase
  rw [put, Option.some_inj] at puts
  subst puts
  obtain ⟨p, hp, home⟩ := Option.map_eq_some_iff.mp home
  exact ⟨e, p, headProbe_of_onHead hs.slots head, head, hp, home, free⟩

/-- The state after a deposit, before its change goes on: the head is free and no slot is released. -/
structure Deposited (arm : Arm) (h : Fin 12) (s u : State) : Prop where
  resolved : Resolved s u
  free : ∀ e, ¬ onHead u arm e
  put : (slotAt u h).state = .stored

theorem RackOk.deposited (hs : RackOk s) (phase : (s.rack.changes.get arm).phase = .deposit)
    (put : (s.rack.changes.get arm).putSlot = some h) :
    Deposited arm h s (enterSlot h .stored (headProbe s arm) (locateAny (headProbe s arm) (.slot h) s)) := by
  have opened : (s.rack.changes.get arm).phase ≠ .idle := by rw [phase]; nofun
  obtain ⟨e, p, found, head, hp, home, empty⟩ := hs.depositing phase put
  rw [found, locateAny, Option.elim_some, locate_eq_setEntry hp]
  have others (j : Fin 12) : (slotAt s j).state = .released ↔ j = h :=
    (released_iff hs.releases (hs.other_unreleasing opened) j).trans (releasedFor_deposit phase put)
  refine ⟨⟨?_, fun j => ?_, rfl, rfl, rfl⟩, fun f => ?_, by rw [slotAt_enterSlot, if_pos rfl]⟩
  · exact hs.slots.put rfl home (not_held_of_onHead hs.slots head) empty (by decide)
  · rw [slotAt_enterSlot]
    split
    · nofun
    · next other => exact fun no => other ((others j).mp no)
  · rw [onHead, entryAt_enterSlot, entryAt_setEntry]
    split
    · nofun
    · next other => exact fun there => other (hs.slots.oneHead arm f e there head)

theorem takeReady_some {c : ChangeContext} (ht : takeReady c s = some (i, e)) : c.takeSlot = some i ∧
    (slotAt s i).state = .stored ∧ (entryAt s e).map Probe.location = some (.slot i) := by
  rw [takeReady] at ht
  split at ht
  · next take _ =>
    split at ht
    · next ready => cases ht; exact ⟨take, ready⟩
    · cases ht
  · cases ht

/-- A context that goes on: it stays open with its timer, and its slots are those it had or none. -/
theorem ContextSound.goOn {c d : ChangeContext} (hc : ContextSound c) (opened : c.phase ≠ .idle) (on : d.phase ≠ .idle)
    (timer : d.timer = c.timer) (put : d.putSlot = c.putSlot) (take : d.takeSlot = c.takeSlot ∨ d.takeSlot = none) :
    ContextSound d where
  closed no := absurd no on
  timer _ := timer ▸ hc.timer opened
  distinct i puts := by
    obtain take | take := take <;> rw [take]
    · exact hc.distinct i (put ▸ puts)
    · nofun

/-- A change that goes to FINISH has no slot released (R127, R128). -/
theorem RackOk.finish (hs : RackOk s) (opened : (s.rack.changes.get arm).phase ≠ .idle) (hu : Resolved s u)
    {d : ChangeContext} (finish : d.phase = .finish) (context : ContextSound d) : RackOk (u.setChange arm d) := by
  have changes : (u.setChange arm d).rack.changes = s.rack.changes.set arm d := by rw [State.setChange_rack, hu.changes]
  refine hs.of_parts hu.table hu.timeout (hu.slots.congr rfl rfl) ?_ ?_
  · refine releasesSound_of_unreleasing (arm := arm) (.inr ?_) ?_ hu.locked
    · rw [changes, PerArm.get_set_same]; exact finish
    · rw [unreleasing, changes, PerArm.get_set_other _ (otherArm_ne arm)]
      exact hs.other_unreleasing opened
  · exact hs.2.1.write changes hu.table context fun _ => hs.holdsRack opened

/-- A change that goes to PICK releases the slot of the take probe (R126, R127). -/
theorem RackOk.pickFrom {d : ChangeContext} (hs : RackOk s) (rack : Machine.holdsRack s arm) (hu : Resolved s u)
    (held : (slotAt u i).probe = some e) (free : ∀ e, ¬ onHead u arm e) (phase : d.phase = .pick)
    (take : d.takeSlot = some i) (context : ContextSound d) :
    RackOk ((enterSlot i .released (some e) u).setChange arm d) := by
  have changes : ((enterSlot i .released (some e) u).setChange arm d).rack.changes = s.rack.changes.set arm d := by
    rw [State.setChange_rack, ← hu.changes]; rfl
  have context' : ((enterSlot i .released (some e) u).setChange arm d).rack.changes.get arm = d := by
    rw [changes, PerArm.get_set_same]
  have slot (j : Fin 12) : slotAt ((enterSlot i .released (some e) u).setChange arm d) j =
      slotAt (enterSlot i .released (some e) u) j := rfl
  have slots : SlotsSound (enterSlot i .released (some e) u) :=
    hu.slots.enter i held (fun no => by rcases no with no | no <;> cases no) nofun
  refine hs.of_parts hu.table hu.timeout (slots.congr rfl rfl) ?_ ?_
  · refine releasesSound_of_pick (arm := arm) (h := i) (by rw [context', phase]) (by rw [context', take]) ?_ (fun j => ?_) ?_
      free
    · rw [unreleasing, changes, PerArm.get_set_other _ (otherArm_ne arm)]
      exact .inl (hs.2.1.other_idle hs.2.2 rack)
    · rw [slot, slotAt_enterSlot]
      split
      · next here => exact iff_of_true rfl here
      · next other => exact iff_of_false (hu.locked j) other
    · rw [slot, slotAt_enterSlot, if_pos rfl]; rfl
  · exact hs.2.1.write changes hu.table context fun _ => rack

theorem RackOk.completeDeposit (hs : RackOk s) (phase : (s.rack.changes.get arm).phase = .deposit)
    (put : (s.rack.changes.get arm).putSlot = some h) : RackOk (completeDeposit arm h s) := by
  have raised {u : State} (hu : RackOk u) : RackOk (raiseChange arm u) := hu.congr rfl rfl rfl
  have opened : (s.rack.changes.get arm).phase ≠ .idle := by rw [phase]; nofun
  have done := hs.deposited phase put
  have context := hs.context arm
  rw [Machine.completeDeposit]
  refine raised ?_
  split
  · exact hs.finish opened done.resolved rfl (context.goOn opened nofun rfl rfl (.inl rfl))
  · split
    · next t take ready =>
      obtain ⟨takes, -, there⟩ := takeReady_some ready
      have held := (done.resolved.slots.held t take).mpr there
      exact hs.pickFrom (hs.holdsRack opened) done.resolved held done.free rfl takes
        (context.goOn opened nofun rfl rfl (.inl rfl))
    · exact hs.finish opened done.resolved rfl (context.goOn opened nofun rfl rfl (.inr rfl))

theorem RackOk.completePick (hs : RackOk s) (phase : (s.rack.changes.get arm).phase = .pick)
    (take : (s.rack.changes.get arm).takeSlot = some i) : RackOk (completePick arm i s) := by
  have raised {u : State} (hu : RackOk u) : RackOk (raiseChange arm u) := hu.congr rfl rfl rfl
  have opened : (s.rack.changes.get arm).phase ≠ .idle := by rw [phase]; nofun
  obtain ⟨j, takes, -, free⟩ := hs.1.pick arm phase
  have slots := hs.slots.vacate i (loc := .head arm) (st := .vacant) nofun (fun k hk => by cases hk; exact free) nofun
  have placed := locateAny_unchangedBut (slotAt s i).probe (.head arm) s
  have locked (j : Fin 12) : (slotAt (enterSlot i .vacant none (locateAny (slotAt s i).probe (.head arm) s)) j).state ≠
      .released := by
    rw [slotAt_enterSlot]
    split
    · nofun
    · next other =>
      have same : slotAt (locateAny (slotAt s i).probe (.head arm) s) j = slotAt s j :=
        congrArg (fun x => vget x j) (placed .slots (by decide))
      rw [same, ne_eq, released_iff hs.releases (hs.other_unreleasing opened), releasedFor_pick phase take]
      exact other
  have resolved : Resolved s (enterSlot i .vacant none (locateAny (slotAt s i).probe (.head arm) s)) :=
    ⟨slots, locked, PerArm.ext_get fun k => placed (.change k) (by simp), placed .changeTimeout (by decide),
      placed .zoneTable (by decide)⟩
  exact raised (hs.finish opened resolved rfl ((hs.context arm).goOn opened nofun rfl rfl (.inl rfl)))

theorem awaits_iff {seated : Bool} : awaits s i seated arm = true ↔
    (seated = true ∧ (s.rack.changes.get arm).phase = .deposit ∧ (s.rack.changes.get arm).putSlot = some i) ∨
    (seated = false ∧ (s.rack.changes.get arm).phase = .pick ∧ (s.rack.changes.get arm).takeSlot = some i) := by
  simp [awaits]

theorem RackOk.advanceChange (hs : RackOk s) {seated : Bool} (awaited : awaits s i seated arm = true) :
    RackOk (advanceChange arm i seated s) := by
  rw [Machine.advanceChange]
  obtain ⟨level, phase, slot⟩ | ⟨level, phase, slot⟩ := awaits_iff.mp awaited
  · rw [if_pos level]; exact hs.completeDeposit phase slot
  · rw [if_neg (by simp [level])]; exact hs.completePick phase slot

theorem RackOk.settledChange (hs : RackOk s) (i : Fin 12) (seated : Bool) : RackOk (settledChange i seated s) := by
  rw [Machine.settledChange]
  split
  · split
    · next awaited => exact hs.advanceChange awaited
    · split
      · next awaited => exact hs.advanceChange awaited
      · exact hs
  · exact hs.unexpectedChange i

theorem RackOk.expireSettle (hs : RackOk s) (i : Fin 12) : RackOk (expireSettle i s) := by
  have settled : RackOk (s.setSlot i { slotAt s i with settleTimer := none, settled := (slotAt s i).raw }) :=
    hs.modSlot i (f := fun x => { x with settleTimer := none, settled := x.raw }) fun _ => ⟨rfl, rfl, rfl⟩
  rw [Machine.expireSettle]
  split
  · exact settled
  · exact settled.settledChange i _

theorem RackOk.changeRaw (hs : RackOk s) (i : Fin 12) (level : Bool) : RackOk (changeRaw i level s) :=
  hs.modSlot i fun x => by split_ifs <;> exact ⟨rfl, rfl, rfl⟩

end Ops

end Sys2Proof.Machine
end

section
/-! PROOFS. The change protocol, the slot service and the registry keep the rack sound (R107 to R113, R125 to R136). -/

namespace Sys2Proof.Machine

section Protocol
variable {s t u : State} {arm : Arm} {i h : Fin 12} {e : Fin 14} {p : Probe}

/-! ### Ending a change (R129 to R133) -/

/-- The slot of a change is given another state with what it holds: nothing in DEPOSIT, the take probe in PICK. -/
theorem RackOk.resolve {f : State} (hs : RackOk s) (opened : (s.rack.changes.get arm).phase ≠ .idle)
    {put take : SlotState} (deposit : (s.rack.changes.get arm).phase = .deposit →
      ∀ h, (s.rack.changes.get arm).putSlot = some h → f = enterSlot h put none s ∧ put ≠ .released ∧ put ≠ .stored)
    (pick : (s.rack.changes.get arm).phase = .pick →
      ∀ t, (s.rack.changes.get arm).takeSlot = some t →
        f = enterSlot t take (slotAt s t).probe s ∧ take ≠ .released ∧ take ≠ .vacant ∧ take ≠ .unclaimed)
    (finish : (s.rack.changes.get arm).phase = .finish → f = s) : Resolved s f := by
  cases phase : (s.rack.changes.get arm).phase with
  | idle => exact absurd phase opened
  | finish => rw [finish phase]; exact hs.resolved_of_finish phase
  | deposit =>
    obtain ⟨h, e, puts, free, -, -⟩ := hs.1.deposit arm phase
    obtain ⟨eq, locked, unstored⟩ := deposit phase h puts
    rw [eq]
    exact hs.resolved_of_enter opened (fun j hj => (releasedFor_deposit phase puts).mp hj)
      (hs.slots.enter h free (fun _ => rfl) fun no => absurd no unstored) locked
  | pick =>
    obtain ⟨i, takes, full, -⟩ := hs.1.pick arm phase
    obtain ⟨eq, locked, vacant, unclaimed⟩ := pick phase i takes
    rw [eq]
    exact hs.resolved_of_enter opened (fun j hj => (releasedFor_pick phase takes).mp hj)
      (hs.slots.enter i rfl (fun no => absurd no (not_or.mpr ⟨vacant, unclaimed⟩)) fun _ => full) locked

theorem RackOk.giveBackSlot (hs : RackOk s) (opened : (s.rack.changes.get arm).phase ≠ .idle) :
    Resolved s (giveBackSlot (s.rack.changes.get arm) s) := by
  refine hs.resolve opened (put := .vacant) (take := .stored) (fun phase h puts => ?_) (fun phase t takes => ?_)
    fun phase => ?_ <;> rw [Machine.giveBackSlot, phase]
  · rw [puts]; exact ⟨rfl, nofun, nofun⟩
  · rw [takes]; exact ⟨rfl, nofun, nofun, nofun⟩

/-- The slot of an expired change without the attention that it raises. -/
def blockedSlot (c : ChangeContext) (s : State) : State :=
  match c.phase with
  | .deposit => c.putSlot.elim s fun h => enterSlot h .blocked none s
  | .pick => c.takeSlot.elim s fun t => enterSlot t .blocked (slotAt s t).probe s
  | _ => s

theorem blockSlot_rackKept (c : ChangeContext) (s : State) : RackKept (blockedSlot c s) (blockSlot c s) ∧
    (blockSlot c s).zones = (blockedSlot c s).zones := by
  cases phase : c.phase <;> simp only [blockSlot, blockedSlot, phase]
  case deposit => cases c.putSlot <;> exact ⟨.congr rfl rfl, rfl⟩
  case pick => cases c.takeSlot <;> exact ⟨.congr rfl rfl, rfl⟩
  all_goals exact ⟨.refl s, trivial⟩

theorem RackOk.blockSlot (hs : RackOk s) (opened : (s.rack.changes.get arm).phase ≠ .idle) :
    Resolved s (blockSlot (s.rack.changes.get arm) s) := by
  obtain ⟨kept, zones⟩ := blockSlot_rackKept (s.rack.changes.get arm) s
  refine Resolved.kept (u := blockedSlot (s.rack.changes.get arm) s) ?_ kept (congrArg _ zones)
  refine hs.resolve opened (put := .blocked) (take := .blocked) (fun phase h puts => ?_) (fun phase t takes => ?_)
    fun phase => ?_ <;> rw [blockedSlot, phase]
  · rw [puts]; exact ⟨rfl, nofun, nofun⟩
  · rw [takes]; exact ⟨rfl, nofun, nofun, nofun⟩

theorem Resolved.mounted (hu : Resolved s u) (arm : Arm) : Resolved s (mountTake arm u) :=
  hu.kept (mountTake_rackKept arm u) (mountTake_table arm u)

theorem RackOk.resetChange (hs : RackOk s) (arm : Arm) : RackOk (resetChange arm s) := by
  rw [Machine.resetChange]
  split
  · exact hs
  · next opened =>
    have given := hs.giveBackSlot opened
    refine hs.close opened ?_ .reset
    split
    · exact given.mounted arm
    · exact given

theorem RackOk.faulted (hs : RackOk s) : RackOk (reportChangeFault arm s) :=
  rackOk_readsOnly.kept (recordCause_unchangedBut arm .changeFault s) (by cases arm <;> decide) hs

theorem RackOk.expireChange (hs : RackOk s) (opened : (s.rack.changes.get arm).phase ≠ .idle) :
    RackOk (expireChange arm s) := by
  have raised {u : State} (hu : RackOk u) : RackOk (raiseChange arm (reportChangeFault arm u)) :=
    RackOk.congr (hu.faulted (arm := arm)) rfl rfl rfl
  have blocked := hs.blockSlot opened
  refine raised (hs.close opened ?_ .timedOut)
  split
  · exact (blocked.mounted arm).kept (.congr rfl rfl) rfl
  · exact blocked

theorem RackOk.changeAbortBy (hs : RackOk s) (arm : Arm) : RackOk (changeAbortBy arm s).st := by
  have raised {u : State} (hu : RackOk u) : RackOk (raiseChange arm u) := hu.congr rfl rfl rfl
  rw [Machine.changeAbortBy]
  split
  · next phase =>
    have opened : (s.rack.changes.get arm).phase ≠ .idle := by rcases phase with phase | phase <;> rw [phase] <;> nofun
    exact raised (hs.close opened (hs.giveBackSlot opened) .aborted)
  · exact hs

/-- A take probe that did not come to the head is MISSING (R130). -/
theorem Resolved.lost (hs : Resolved s s) (arm : Arm) : Resolved s (locateAny (headProbe s arm) .missing s) := by
  cases found : headProbe s arm with
  | none => exact hs
  | some e =>
    have head := onHead_headProbe found
    refine ⟨hs.slots.replaceOutside ⟨fun j => ?_, fun k there => ?_⟩ (not_held_of_onHead hs.slots head), hs.locked, rfl, rfl,
      rfl⟩
    · cases entryAt s e <;> simp
    · cases hp : entryAt s e <;> rw [hp] at there <;> cases there

theorem RackOk.changeCloseBy (hs : RackOk s) (arm : Arm) (r : Request) : RackOk (changeCloseBy arm r s).st := by
  have raised {u : State} (hu : RackOk u) : RackOk (raiseChange arm u) := hu.congr rfl rfl rfl
  simp only [Machine.changeCloseBy]
  split
  · exact hs
  next finish =>
  have finish : (s.rack.changes.get arm).phase = .finish := not_not.mp finish
  have opened : (s.rack.changes.get arm).phase ≠ .idle := by rw [finish]; nofun
  have closed := hs.resolved_of_finish finish
  split
  · exact hs
  split
  · refine raised ?_
    have close := hs.close opened closed .closed
    split
    · have mounted := close.of_kept (mountTake_rackKept arm _) (mountTake_table arm _)
      exact mounted.congr rfl rfl rfl
    · exact close
  · refine raised (RackOk.faulted (hs.close opened ?_ .wrongProbe))
    split
    · exact closed.lost arm
    · exact closed

/-! ### Opening a change (R126) -/

/-- The RACK zone that CHANGE_OPEN finds is the arm's. -/
theorem holdsRack_of_rackZone {z : Fin 16} (hz : rackZone s = some z) (held : (zoneAt s z).holder = some arm) :
    holdsRack s arm := by
  have found := List.find?_some hz
  rw [Bool.and_eq_true, decide_eq_true_eq] at found
  exact ⟨z, found.1, found.2, held⟩

theorem takeProbe_some {id : Nat} {t : Fin 12} (h : takeProbe s id = some (e, t, p)) :
    entryAt s e = some p ∧ p.location = .slot t ∧ (slotAt s t).state = .stored := by
  rw [takeProbe] at h
  split at h; · cases h
  split at h; · cases h
  next hp =>
  split at h
  · next hl =>
    split at h
    · next stored => cases h; exact ⟨hp, hl, stored⟩
    · cases h
  · cases h

/-- No slot is RELEASED while no change is open. -/
theorem RackOk.resolved_of_idle (hs : RackOk s) (idle : (s.rack.changes.get arm).phase = .idle)
    (other : unreleasing s (otherArm arm)) : Resolved s s where
  slots := hs.slots
  locked := not_released hs.releases (.inl idle) other
  changes := rfl
  timeout := rfl
  table := rfl

/-- A change opens in DEPOSIT: the home slot of the mounted probe is released empty (R126). -/
theorem RackOk.openDeposit (hs : RackOk s) (rack : Machine.holdsRack s arm) (idle : (s.rack.changes.get arm).phase = .idle)
    (head : headRecord s arm = some p) (vacant : (slotAt s p.home).state = .vacant) {d : ChangeContext}
    (phase : d.phase = .deposit) (put : d.putSlot = some p.home) (timer : d.timer.isSome = true)
    (take : ∀ j, d.takeSlot = some j → (slotAt s j).state = .stored) :
    RackOk ((enterSlot p.home .released none s).setChange arm d) := by
  have other : unreleasing s (otherArm arm) := .inl (hs.2.1.other_idle hs.2.2 rack)
  have locked := (hs.resolved_of_idle idle other).locked
  obtain ⟨e, found, hp⟩ := headRecord_some head
  have changes : ((enterSlot p.home .released none s).setChange arm d).rack.changes = s.rack.changes.set arm d := rfl
  have context : ((enterSlot p.home .released none s).setChange arm d).rack.changes.get arm = d := by
    rw [changes, PerArm.get_set_same]
  have slot (j : Fin 12) : slotAt ((enterSlot p.home .released none s).setChange arm d) j =
      slotAt (enterSlot p.home .released none s) j := rfl
  have empty := hs.1.empty p.home (.inl vacant)
  have slots : SlotsSound (enterSlot p.home .released none s) := hs.slots.enter p.home empty (fun _ => rfl) nofun
  refine hs.of_parts rfl rfl (slots.congr rfl rfl) ?_ ?_
  · refine releasesSound_of_deposit (arm := arm) (h := p.home) (e := e) (by rw [context, phase]) (by rw [context, put]) ?_
      (fun j => ?_) ?_ (onHead_headProbe found) ?_
    · rw [unreleasing, changes, PerArm.get_set_other _ (otherArm_ne arm)]; exact other
    · rw [slot, slotAt_enterSlot]
      split
      · next here => exact iff_of_true rfl here
      · next away => exact iff_of_false (locked j) away
    · rw [slot, slotAt_enterSlot, if_pos rfl]
    · exact congrArg (Option.map Probe.home) hp
  · refine hs.2.1.write changes rfl ⟨fun no => ?_, fun _ => timer, fun j puts takes => ?_⟩ fun _ => rack
    · rw [phase] at no; cases no
    · rw [put, Option.some_inj] at puts
      have stored := take j takes
      rw [← puts, vacant] at stored
      cases stored

theorem RackOk.openChange {take : Option (Fin 14 × Fin 12 × Probe)} {takeId : Half} (hs : RackOk s)
    (rack : Machine.holdsRack s arm) (idle : (s.rack.changes.get arm).phase = .idle)
    (vacant : ∀ q, headRecord s arm = some q → (slotAt s q.home).state = .vacant)
    (takes : ∀ e t p, take = some (e, t, p) →
      entryAt s e = some p ∧ p.location = .slot t ∧ (slotAt s t).state = .stored)
    (some_take : headRecord s arm = none → take.isSome = true) :
    RackOk (openChange arm (headRecord s arm) takeId take s) := by
  have raised {u : State} (hu : RackOk u) : RackOk (raiseChange arm u) := hu.congr rfl rfl rfl
  cases head : headRecord s arm with
  | some q =>
    refine raised (hs.openDeposit rack idle head (vacant q head) rfl rfl rfl fun j hj => ?_)
    obtain ⟨⟨e, t, p⟩, ht, rfl⟩ := Option.map_eq_some_iff.mp hj
    exact (takes e t p ht).2.2
  | none =>
    obtain ⟨⟨e, t, p⟩, ht⟩ := Option.isSome_iff_exists.mp (some_take head)
    obtain ⟨hp, hl, stored⟩ := takes e t p ht
    subst ht
    have unmounted : headProbe s arm = none := by
      cases found : headProbe s arm with
      | none => rfl
      | some f =>
        obtain ⟨⟨k, hk, -⟩, -⟩ := findProbe_some found
        rw [headRecord, found, Option.bind_some, hk] at head
        cases head
    have held := (hs.slots.held t e).mpr (by rw [hp, Option.map_some, hl])
    have closed := hs.resolved_of_idle idle (.inl (hs.2.1.other_idle hs.2.2 rack))
    refine raised (hs.pickFrom rack closed held (not_onHead_of_none unmounted) rfl rfl ?_)
    exact ⟨nofun, fun _ => rfl, fun _ => nofun⟩

theorem RackOk.changeOpenBy (hs : RackOk s) (arm : Arm) (r : Request) : RackOk (changeOpenBy arm r s).st := by
  simp only [Machine.changeOpenBy]
  split; · exact hs
  split; · exact hs
  next z hz =>
  split; · exact hs
  next held =>
  split; · exact hs
  next closed =>
  split; · exact hs
  split; · exact hs
  next wanted =>
  split; · exact hs
  have rack := holdsRack_of_rackZone hz (not_not.mp held)
  have idle : (s.rack.changes.get arm).phase = .idle := by simpa [changeOpen] using closed
  simp only [openChecked]
  split; · exact hs
  next found =>
  split; · exact hs
  split; · exact hs
  next home =>
  refine hs.openChange rack idle (fun q hq => ?_) (fun e t p ht => ?_) fun head => ?_
  · rw [hq] at home
    simpa using home
  · split at ht
    · cases ht
    · exact takeProbe_some ht
  · rw [head] at wanted
    have id : r.d0.toNat ≠ 0 := fun zero => wanted ⟨zero, rfl⟩
    rw [if_neg id]
    cases take : takeProbe s r.d0.toNat with
    | none => rw [take] at found; exact absurd ⟨id, rfl⟩ found
    | some _ => rfl

/-! ### Slot service and the registry (R107 to R113, R136) -/

theorem missingFrom_some (h : missingFrom s i = some e) : ∃ p, entryAt s e = some p ∧ p.location = .missing ∧ p.home = i := by
  obtain ⟨⟨p, hp, lost⟩, -⟩ := findProbe_some h
  exact ⟨p, hp, of_decide_eq_true lost⟩

theorem not_held_of_location (hs : SlotsSound s) {loc : Option Location} (at_ : (entryAt s e).map Probe.location = loc)
    (outside : ∀ j, loc ≠ some (.slot j)) (j : Fin 12) : (slotAt s j).probe ≠ some e := fun held =>
  outside j (at_.symm.trans ((hs.held j e).mp held))

/-- A record that was nowhere comes to a slot that holds none, its home slot (R107, R136). -/
theorem RackOk.place (hs : RackOk s) {q : Probe} {st : SlotState} (location : q.location = .slot i) (home : q.home = i)
    (nowhere : ∀ l, (entryAt s e).map Probe.location = some l → l = .missing) (locked : (slotAt s i).state ≠ .released)
    (free : (slotAt s i).probe = none) (full : st ≠ .vacant ∧ st ≠ .unclaimed) (st_locked : st ≠ .released) :
    RackOk (enterSlot i st (some e) (s.setEntry e (some q))) := by
  have off (arm : Arm) : ¬ onHead s arm e := fun head => nomatch nowhere _ head
  refine hs.settle (t := s.setEntry e (some q)) rfl rfl locked st_locked (onHead_setEntry off fun arm => ?_)
    (home_setEntry off) ?_
  · simp [location]
  · refine hs.slots.put location home (fun j held => ?_) free full
    cases nowhere _ ((hs.slots.held j e).mp held)

theorem RackOk.serviceSlot (hs : RackOk s) (i : Fin 12) (blocked : (slotAt s i).state = .blocked) :
    RackOk (serviceSlot i s) := by
  have locked : (slotAt s i).state ≠ .released := by rw [blocked]; nofun
  simp only [Machine.serviceSlot]
  split
  · split
    · next e held => exact hs.enter i locked nofun held (fun no => by rcases no with no | no <;> cases no) fun _ => rfl
    · next e free lost =>
      obtain ⟨p, hp, missing, home⟩ := missingFrom_some lost
      rw [locate_eq_setEntry hp]
      refine hs.place rfl home (fun l hl => ?_) locked free (by decide) nofun
      rw [hp, Option.map_some, missing] at hl
      exact (Option.some.inj hl).symm
    · next free _ => exact hs.enter i locked nofun free (fun _ => rfl) nofun
  · exact hs.lose i locked nofun nofun

theorem RackOk.slotService (hs : RackOk s) (r : Request) : RackOk (slotService r s).st := by
  simp only [Machine.slotService]
  split; · exact hs
  next i _ =>
  split
  · exact hs
  · next blocked => exact hs.serviceSlot i (not_not.mp blocked)

theorem RackOk.probeRegister (hs : RackOk s) (r : Request) : RackOk (probeRegister r s).st := by
  simp only [Machine.probeRegister]
  split; · exact hs
  next i _ =>
  split; · exact hs
  split; · exact hs
  split; · exact hs
  next unclaimed =>
  have unclaimed : (slotAt s i).state = .unclaimed := not_not.mp unclaimed
  split
  · exact hs
  · next e found =>
    have free : entryAt s e = none := Option.isNone_iff_eq_none.mp (by simpa using List.find?_some found)
    rw [okProbe_st]
    refine hs.place rfl rfl (fun l hl => ?_) (by rw [unclaimed]; nofun) (hs.1.empty i (.inr unclaimed)) (by decide) nofun
    rw [free] at hl
    cases hl

theorem RackOk.rewrite (hs : RackOk s) {q : Probe} (hp : entryAt s e = some p) (location : q.location = p.location)
    (home : q.home = p.home) : RackOk (s.setEntry e (some q)) :=
  hs.of_kept (.setEntry hp location home) rfl

theorem RackOk.probeTipWrite (hs : RackOk s) (r : Request) : RackOk (probeTipWrite r s).st := by
  simp only [Machine.probeTipWrite]
  split; · exact hs
  split
  · exact hs
  · next found =>
    split; · exact hs
    split
    · exact hs
    · rw [okProbe_st]; exact hs.rewrite (freeToChange_ok found) rfl rfl

theorem RackOk.probeTipClear (hs : RackOk s) (r : Request) : RackOk (probeTipClear r s).st := by
  simp only [Machine.probeTipClear]
  split
  · exact hs
  · next found => rw [okProbe_st]; exact hs.rewrite (freeToChange_ok found) rfl rfl

theorem RackOk.probeQualify (hs : RackOk s) (r : Request) : RackOk (probeQualify r s).st := by
  simp only [Machine.probeQualify]
  split
  · exact hs
  · next found =>
    split; · exact hs
    split
    · exact hs
    · rw [okProbe_st]; exact hs.rewrite (freeToChange_ok found) rfl rfl

theorem RackOk.modProbe (hs : RackOk s) {f : Probe → Probe} (e : Fin 14)
    (place : ∀ p, (f p).location = p.location ∧ (f p).home = p.home) : RackOk (s.modProbe e f) :=
  hs.of_kept (.modProbe e place) rfl

theorem RackOk.probeReserve (hs : RackOk s) (r : Request) : RackOk (probeReserve r s).st := by
  simp only [Machine.probeReserve]
  split; · exact hs
  split
  · exact hs
  · rw [okProbe_st]; exact hs.modProbe _ fun _ => ⟨rfl, rfl⟩

theorem RackOk.probeUnreserve (hs : RackOk s) (r : Request) : RackOk (probeUnreserve r s).st := by
  simp only [Machine.probeUnreserve]
  split
  · exact hs
  · rw [okProbe_st]; exact hs.modProbe _ fun _ => ⟨rfl, rfl⟩

/-- A probe that is in no slot and on no head is removed (R113). -/
theorem RackOk.removeOutside (hs : RackOk s) (nowhere : ∀ l, (entryAt s e).map Probe.location = some l → l = .missing) :
    RackOk (s.setEntry e none) := by
  have off (arm : Arm) : ¬ onHead s arm e := fun head => nomatch nowhere _ head
  refine hs.of_parts rfl rfl ?_ ?_ (hs.2.1.congr rfl rfl)
  · refine hs.slots.replaceOutside ⟨nofun, nofun⟩ fun j held => ?_
    cases nowhere _ ((hs.slots.held j e).mp held)
  · exact hs.releases.elsewhere rfl (fun _ => .inl rfl) (onHead_setEntry off nofun) (home_setEntry off)

theorem RackOk.probeRemove (hs : RackOk s) (r : Request) : RackOk (probeRemove r s).st := by
  simp only [Machine.probeRemove]
  split; · exact hs
  next e _ =>
  split
  · next i location =>
    have held := (hs.slots.held i e).mpr location
    split; · exact hs
    next kept =>
    have locked : (slotAt s i).state ≠ .released := fun no => kept (.inl no)
    have off := not_onHead_of_held hs.slots held
    split
    · exact hs.settle (t := s.setEntry e none) rfl rfl locked nofun (onHead_setEntry off nofun) (home_setEntry off)
        (hs.slots.takeOut ⟨nofun, nofun⟩ held nofun)
    · next unstored =>
      have empty : (slotAt s i).probe = none := by
        cases state : (slotAt s i).state with
        | vacant => exact hs.1.empty i (.inl state)
        | unclaimed => exact hs.1.empty i (.inr state)
        | stored => exact absurd state unstored
        | released => exact absurd state locked
        | blocked => exact absurd (.inr state) kept
      rw [empty] at held
      cases held
  · exact hs
  · next inSlot onHead =>
    refine hs.removeOutside fun l hl => ?_
    cases l with
    | slot j => exact absurd hl (inSlot j)
    | head arm => exact absurd hl (onHead arm)
    | missing => rfl

theorem RackOk.rackSet (hs : RackOk s) (r : Request) : RackOk (rackSet r s).st := by
  rw [Machine.rackSet]
  split
  · exact hs
  · next valid =>
    refine ⟨rackSound_iff.mpr ⟨hs.slots.congr rfl rfl, ?_, ?_⟩, hs.2.1.congr rfl rfl, hs.2.2.congr rfl⟩
    · exact hs.releases.elsewhere rfl (fun _ => .inl rfl) (fun _ _ => Iff.rfl) fun _ _ _ => rfl
    · change 1 ≤ r.d0.toNat ∧ r.d0.toNat ≤ 120
      omega

theorem RackOk.touchBy (hs : RackOk s) (arm : Arm) (r : Request) : RackOk (touchBy arm r s).st := by
  have counted (e : Fin 14) (q : TouchQueue) : RackOk (reportFill arm (countUse e (s.setQueue arm q))) := by
    have queued : RackOk (s.setQueue arm q) := hs.congr rfl rfl rfl
    have counted := queued.of_kept (countUse_rackKept e _) (countUse_unchangedBut e _ .zoneTable (by decide))
    rw [reportFill]
    split
    · exact counted.congr rfl rfl rfl
    · exact counted
  simp only [Machine.touchBy]
  split; · exact hs
  split; · exact hs
  split; · exact hs
  split; · exact hs
  split; · exact hs
  split
  · exact hs
  · exact counted _ _

end Protocol

end Sys2Proof.Machine
end

section
/-! PROOFS. Every command keeps the rack sound: the zones under an open change, and each command in turn (R73, R74,
R123). -/

namespace Sys2Proof.Machine

/-! ### The RACK zone of an open change -/

section Zones
variable {s t u : State} {arm k : Arm} {z : Fin 16} {r : Request}

/-- Which zones are defined, and as what kind, is the same. -/
def sameKinds (s t : State) : Prop :=
  ∀ z, (zoneAt t z).defined = (zoneAt s z).defined ∧ (zoneAt t z).kind = (zoneAt s z).kind

theorem sameKinds.trans (h1 : sameKinds s t) (h2 : sameKinds t u) : sameKinds s u := fun z =>
  ⟨(h2 z).1.trans (h1 z).1, (h2 z).2.trans (h1 z).2⟩

theorem ZonesKept.sameKinds (h : ZonesKept s t) : sameKinds s t := fun z => by
  rw [h.zoneAt]; exact ⟨rfl, rfl⟩

theorem freeZones_sameKinds (p : Fin 16 → Zone → Bool) (s : State) : sameKinds s (freeZones p s) := fun z => by
  rw [zoneAt_freeZones]; split <;> exact ⟨rfl, rfl⟩

theorem removeClaim_sameKinds (arm : Arm) (s : State) : sameKinds s (removeClaim arm s) := fun z => by
  rw [zoneAt_removeClaim]; split <;> exact ⟨rfl, rfl⟩

theorem holdRange_sameKinds (arm : Arm) (c : Claim) (s : State) : sameKinds s (holdRange arm c s) := fun z => by
  rw [zoneAt_holdRange]; split <;> exact ⟨rfl, rfl⟩

theorem markWaiter_sameKinds (arm : Arm) (c : Claim) (s : State) : sameKinds s (markWaiter arm c s) := fun z => by
  rw [zoneAt_markWaiter]; split <;> exact ⟨rfl, rfl⟩

theorem reevaluateClaim_sameKinds (arm : Arm) (s : State) : sameKinds s (reevaluateClaim arm s) := by
  obtain ⟨-, kept⟩ | ⟨c, hc, granted⟩ | ⟨c, hc, waits⟩ := reevaluateClaim_cases arm s
  · rw [kept]; exact fun _ => ⟨rfl, rfl⟩
  · have grant : sameKinds s (grantPending arm c s) := fun z => by rw [zoneAt_grantPending hc]; exact ⟨rfl, rfl⟩
    rw [granted]
    exact grant.trans (judgeVerdict_kept arm _).sameKinds
  · rw [waits]; exact markWaiter_sameKinds arm c s

theorem reevaluate_sameKinds (s : State) : sameKinds s (reevaluate s) :=
  (reevaluateClaim_sameKinds .a s).trans (reevaluateClaim_sameKinds .b _)

theorem claimBy_sameKinds (arm : Arm) (r : Request) (s : State) : sameKinds s (claimBy arm r s).st := by
  have same : sameKinds s s := fun _ => ⟨rfl, rfl⟩
  rw [claimBy]
  split; · exact same
  split; · exact same
  split; · exact same
  split
  · exact (holdRange_sameKinds arm _ s).trans (judgeVerdict_kept arm _).sameKinds
  · split
    · exact same
    · exact markWaiter_sameKinds arm _ (s.setClaim arm _)

theorem releaseBy_sameKinds (arm : Arm) (r : Request) (s : State) : sameKinds s (releaseBy arm r s).st := by
  rw [releaseBy_eq]
  cases releaseRefusal arm r s with
  | some code => exact fun _ => ⟨rfl, rfl⟩
  | none => exact (freeZones_sameKinds _ s).trans (reevaluate_sameKinds _)

theorem zoneFree_sameKinds (r : Request) (s : State) : sameKinds s (zoneFree r s).st := by
  have same : sameKinds s s := fun _ => ⟨rfl, rfl⟩
  obtain none | ⟨arm, -, harm⟩ := armOfSel_cases r.sel
  · rw [zoneFree, none]; exact same
  rw [zoneFree_eq harm.symm]
  split; · exact same
  split; · exact same
  refine sameKinds.trans ?_ (judgeVerdict_kept arm _).sameKinds
  rw [armFreed]
  split
  · exact freeZones_sameKinds _ s
  · exact (freeZones_sameKinds _ s).trans (reevaluate_sameKinds _)

/-- An arm with an open change keeps the RACK zone while its zones keep their kinds and it loses none of kind RACK. -/
theorem sameKinds.holdsRack (same : sameKinds s t)
    (kept : ∀ z, (zoneAt s z).kind = .rack → (zoneAt s z).holder = some k → (zoneAt t z).holder = some k)
    (h : holdsRack s k) : holdsRack t k := by
  obtain ⟨z, defined, kind, holder⟩ := h
  exact ⟨z, (same z).1.trans defined, (same z).2.trans kind, kept z kind holder⟩

theorem claimBy_holdsRack (arm : Arm) (r : Request) (h : holdsRack s k) : holdsRack (claimBy arm r s).st k := by
  refine (claimBy_sameKinds arm r s).holdsRack (fun z _ held => ?_) h
  obtain same | ⟨free, -⟩ := claimBy_holder arm r s z
  · rw [same, held]
  · rw [free] at held; cases held

/-- A RELEASE does not give up the RACK zone of an open change (R73). -/
theorem releaseBy_holdsRack (hs : ZonesSound s) (arm : Arm) (r : Request) (opened : (s.rack.changes.get k).phase ≠ .idle)
    (h : holdsRack s k) : holdsRack (releaseBy arm r s).st k := by
  refine (releaseBy_sameKinds arm r s).holdsRack (fun z rack held => by_contra fun lost => ?_) h
  have moved : (zoneAt (releaseBy arm r s).st z).holder ≠ (zoneAt s z).holder := fun same => lost (same.trans held)
  obtain ⟨own, range⟩ := (releaseBy_holder hs moved).loses k held
  subst own
  rw [releaseBy_eq] at lost
  cases refusal : releaseRefusal k r s with
  | some code => rw [refusal] at lost; exact lost held
  | none =>
    simp only [releaseRefusal] at refusal
    split at refusal; · cases refusal
    split at refusal; · cases refusal
    split at refusal; · cases refusal
    split at refusal
    · cases refusal
    · next closed => exact closed ⟨opened, z, range, rack⟩

/-- A ZONE_FREE frees no zone of an arm with an open change (R74). -/
theorem zoneFree_holdsRack (hs : ZonesSound s) (r : Request) (opened : (s.rack.changes.get k).phase ≠ .idle)
    (h : holdsRack s k) : holdsRack (zoneFree r s).st k := by
  refine (zoneFree_sameKinds r s).holdsRack (fun z rack held => by_contra fun lost => ?_) h
  have moved : (zoneAt (zoneFree r s).st z).holder ≠ (zoneAt s z).holder := fun same => lost (same.trans held)
  obtain ⟨sel, disabled⟩ := (zoneFree_holder hs moved).loses k held
  rw [zoneFree_eq sel.symm, if_neg (not_not.mpr disabled), if_pos opened] at lost
  exact lost held

/-- A ZONE_DEFINE is refused while an arm holds the RACK zone (R62). -/
theorem zoneDefine_holdsRack (r : Request) (h : holdsRack s k) : holdsRack (zoneDefine r s).st k := by
  rcases lt_or_ge r.sel.toNat 16 with hz | hz
  swap
  · rw [zoneDefine, indexOf_eq_none (by omega)]; exact h
  rw [zoneDefine_eq (z := ⟨r.sel.toNat, hz⟩) rfl]
  cases refusal : zoneDefineRefusal r ⟨r.sel.toNat, hz⟩ s with
  | some code => exact h
  | none =>
    obtain ⟨z, -, -, held⟩ := h
    rw [(defineChecked refusal).free z] at held
    cases held

theorem removeClaim_holdsRack (arm : Arm) (h : holdsRack s k) : holdsRack (removeClaim arm s) k :=
  (removeClaim_sameKinds arm s).holdsRack (fun z _ held => (holder_removeClaim arm s z).trans held) h

theorem armDisable_holdsRack (l : Link) (arm : Arm) (h : holdsRack s k) : holdsRack (armDisable l arm s).st k := by
  rw [armDisable_eq]
  split
  · exact h
  · have zones : (disableArm arm s).zones = s.zones := by simp [disableArm, State.modSup]
    exact holdsRack_of_table (removeClaim_zones_congr (congrArg _ zones) (congrArg _ zones) arm).1
      (removeClaim_holdsRack arm h)

/-- The rack is sound, and so are its zones. -/
def RackAndZones (s : State) : Prop := RackOk s ∧ ZonesSound s

/-- What leaves the rack and the registry alone keeps the rack sound while open changes keep their zone. -/
theorem RackAndZones.ofZones {l : List Block} (hs : RackAndZones s) (h : unchangedBut l s t)
    (apart : ∀ b ∈ [.slots, .entries, .changeTimeout] ++ ofArms .change, b ∉ l) (zones : ZonesSound t)
    (rack : ∀ k, (s.rack.changes.get k).phase ≠ .idle → holdsRack s k → holdsRack t k) : RackAndZones t := by
  have same (b : Block) (hb : b ∈ [.slots, .entries, .changeTimeout] ++ ofArms .change) : b.same s t := h b (apart b hb)
  have entries : t.registry.entries = s.registry.entries := same .entries (by simp)
  have slots : t.rack.slots = s.rack.slots := same .slots (by simp)
  have entry (e : Fin 14) : entryAt t e = entryAt s e := by rw [entryAt, entries, entryAt]
  have changes : t.rack.changes = s.rack.changes := PerArm.ext_get fun arm => same (.change arm) (by simp [mem_ofArms])
  refine ⟨⟨hs.1.1.of_kept ⟨fun i => ?_, fun e => by rw [entry], fun e => by rw [entry], changes, same .changeTimeout (by simp)⟩,
    changesSound_iff.mpr fun arm => ?_, zones.1⟩, zones⟩
  · rw [slotAt, slots]; exact ⟨rfl, rfl, rfl⟩
  · obtain ⟨context, zone⟩ := changeSound_iff.mp (hs.1.2.1.of_arm arm)
    rw [changeSound_iff, changes]
    exact ⟨context, fun opened => rack arm opened (zone opened)⟩

end Zones

/-! ### Every command -/

section Exec
variable {c : Instr} {s t : State}

theorem rackAndZones_frameStable : FrameStable RackAndZones :=
  have rack := rackOk_frameStable
  have zones := zonesSound_frameStable
  { accept := fun l s h => ⟨rack.accept l s h.1, zones.accept l s h.2⟩
    judge := fun s0 t s h => ⟨rack.judge s0 t s h.1, zones.judge s0 t s h.2⟩
    answer := fun l reply s h => ⟨rack.answer l reply s h.1, zones.answer l reply s h.2⟩
    pass := fun l s h => ⟨rack.pass l s h.1, zones.pass l s h.2⟩ }

/-- The device reset leaves every slot empty and every change closed (R120). -/
theorem deviceReset_rackOk (s : State) : RackOk (deviceReset s) := by
  have reset : RackOk State.reset := ⟨reset_rackSound, reset_changesSound, reset_zonesSound.1⟩
  have slots : (deviceReset s).rack.slots = vmap (fun _ x => Slot.reset x.raw none) s.rack.slots := rfl
  have before : ∀ i, (slotAt State.reset i).state = .vacant ∧ (slotAt State.reset i).probe = none ∧
      (slotAt State.reset i).lock = true := by decide
  refine reset.of_kept ⟨fun i => ?_, fun _ => rfl, fun _ => rfl, rfl, rfl⟩ rfl
  obtain ⟨state, probe, lock⟩ := before i
  rw [slotAt, slots, vget_vmap, state, probe, lock]
  exact ⟨rfl, rfl, rfl⟩

/-- The settle timers started afresh leave slots and probes in agreement (R120). -/
theorem RackOk.startTimers (hs : RackOk s) {timer : Option Timer} (entries : t.registry = s.registry)
    (rack : t.rack = { s.rack with slots := vmap (fun _ x => { x with settleTimer := timer }) s.rack.slots })
    (zones : t.zones = s.zones) : RackOk t := by
  have entry (e : Fin 14) : entryAt t e = entryAt s e := by rw [entryAt, entries, entryAt]
  refine hs.of_kept ⟨fun i => ?_, fun e => by rw [entry], fun e => by rw [entry], by rw [rack], by rw [rack]⟩ (by rw [zones])
  rw [slotAt, rack, vget_vmap]
  exact ⟨rfl, rfl, rfl⟩

theorem RackOk.leaveReset (hs : RackOk s) : RackOk (leaveReset s) := by
  rw [Machine.leaveReset]
  refine rackOk_readsOnly.kept (judgeSense_unchangedBut .b _) (by decide) ?_
  refine rackOk_readsOnly.kept (judgeSense_unchangedBut .a _) (by decide) ?_
  exact hs.startTimers rfl rfl rfl

/-- A running change timer is that of an open change (R123). -/
theorem RackOk.opened_of_due {arm : Arm} (hs : RackOk s) (due : s.due (s.rack.changes.get arm).timer = true) :
    (s.rack.changes.get arm).phase ≠ .idle := by
  intro idle
  rw [(hs.context arm).closed idle] at due
  cases due

theorem rackOk_exec_event (h : exec c s = .next t) (hr : requestOf c = none) (hs : RackOk s) : RackOk t := by
  have judged {u : State} (trigger : Trigger) (hu : RackOk u) : RackOk (conclude s trigger u) :=
    rackOk_frameStable.judge s trigger u hu
  cases c <;> cases hr
  case resetInputAsserted => exact exec_resetInputAsserted_keeps deviceReset_rackOk h hs
  case resetInputDeasserted =>
    simp only [exec, execResetInputDeasserted] at h
    split at h <;> cases h
    · exact judged _ hs.leaveReset
    · exact hs
  case presenceRawChange i level =>
    simp only [exec, execPresenceRawChange] at h
    cases h
    exact hs.changeRaw i level
  case presenceSettleExpiry i =>
    simp only [exec, execPresenceSettleExpiry] at h
    split at h <;> cases h
    · exact hs.expireSettle i
    · exact hs
  case changeTimerExpiry arm =>
    simp only [exec, execChangeTimerExpiry] at h
    split at h <;> cases h
    · next due => exact judged _ (hs.expireChange (hs.opened_of_due due))
    · exact hs
  all_goals exact rackOk_readsOnly.exec h (by simp) (of_decide_eq_true rfl) hs

theorem RackAndZones.armReset (hs : RackAndZones s) (arm : Arm) : RackAndZones (Machine.armReset arm s).st := by
  refine ⟨?_, armReset_sound arm hs.2⟩
  have zones : ZonesSound (resetChange arm s) := by
    have change := resetChange_unchangedBut arm s
    refine hs.2.of_kept (.of_unchangedBut change (by decide) fun k off => ?_)
    exact (change (.supervisor k) (by cases k <;> decide)).1 ▸ off
  have reset : RackAndZones (resetChange arm s) := ⟨hs.1.resetChange arm, zones⟩
  have cleared {u : State} (hu : RackOk u) : RackOk (clearRecords arm (resetSupervisor arm u)) := hu.congr rfl rfl rfl
  have withdrawn : RackAndZones (removeClaim arm (resetChange arm s)) :=
    reset.ofZones (removeClaim_unchangedBut arm _) (by cases arm <;> decide) (zones.removeClaim arm) fun _ _ =>
      removeClaim_holdsRack arm
  rw [armReset_eq]
  exact rackOk_readsOnly.kept (judgeSense_unchangedBut arm (resetRecords arm s)) (by cases arm <;> decide)
    (cleared withdrawn.1)

theorem rackAndZones_exec_request {r : Request} (h : exec c s = .next t) (hr : requestOf c = some r)
    (hs : RackAndZones s) : RackOk t := by
  have stable := rackOk_frameStable
  have both := rackAndZones_frameStable
  have ofArm {access : Access} {act : Arm → State → Act} (hact : ∀ arm u, RackOk u → RackOk (act arm u).st) :
      RackOk (handleRequest access r.link (forLinkArm r.link act) s) :=
    stable.handleRequest (fun _ => FrameStable.forLinkArm hact) hs.1
  have ofArmZones {access : Access} {act : Arm → State → Act} (hact : ∀ arm u, RackAndZones u → RackAndZones (act arm u).st) :
      RackOk (handleRequest access r.link (forLinkArm r.link act) s) :=
    (both.handleRequest (fun _ => FrameStable.forLinkArm hact) hs).1
  have untouched (apart : ∀ b ∈ [.slots, .entries, .changeTimeout, .zoneTable] ++ ofArms .change, b ∉ requestBlocks c) :
      RackOk t := rackOk_readsOnly.exec_request stable h hr apart hs.1
  cases c <;> cases hr
  case claim =>
    cases h
    exact ofArmZones fun arm u hu => hu.ofZones (claimBy_unchangedBut _ arm u) (by decide) (claimBy_sound _ hu.2)
      fun _ _ => claimBy_holdsRack arm _
  case claimWithdraw =>
    cases h
    exact ofArmZones fun arm u hu => hu.ofZones (removeClaim_unchangedBut_claims arm u) (by decide) (hu.2.removeClaim arm)
      fun _ _ => removeClaim_holdsRack arm
  case release =>
    cases h
    exact ofArmZones fun arm u hu => hu.ofZones (releaseBy_unchangedBut _ arm u) (by decide) (releaseBy_sound _ hu.2)
      fun _ => releaseBy_holdsRack hu.2 arm _
  case zoneFree =>
    cases h
    exact (both.handleRequest (fun u hu => hu.ofZones (zoneFree_unchangedBut _ u) (by decide) (zoneFree_sound _ hu.2)
      fun _ => zoneFree_holdsRack hu.2 _) hs).1
  case zoneDefine =>
    cases h
    exact (both.handleRequest (fun u hu => hu.ofZones (zoneDefine_act_unchangedBut _ u) (by decide) (zoneDefine_sound _ hu.2)
      fun _ _ => zoneDefine_holdsRack _) hs).1
  case armDisable =>
    cases h
    exact (both.handleControl (fun arm u hu => hu.ofZones (armDisable_unchangedBut _ arm u) (by decide)
      (armDisable_sound _ arm hu.2) fun _ _ => armDisable_holdsRack _ arm) hs).1
  case armReset => cases h; exact (both.handleControl (fun arm _ hu => hu.armReset arm) hs).1
  case touch => cases h; exact ofArm fun arm _ hu => hu.touchBy arm _
  case changeOpen => cases h; exact ofArm fun arm _ hu => hu.changeOpenBy arm _
  case changeClose => cases h; exact ofArm fun arm _ hu => hu.changeCloseBy arm _
  case changeAbort => cases h; exact ofArm fun arm _ hu => hu.changeAbortBy arm
  case rackSet => cases h; exact stable.handleRequest (fun _ hu => hu.rackSet _) hs.1
  case slotService => cases h; exact stable.handleRequest (fun _ hu => hu.slotService _) hs.1
  case probeRegister => cases h; exact stable.handleRequest (fun _ hu => hu.probeRegister _) hs.1
  case probeTipWrite => cases h; exact stable.handleRequest (fun _ hu => hu.probeTipWrite _) hs.1
  case probeTipClear => cases h; exact stable.handleRequest (fun _ hu => hu.probeTipClear _) hs.1
  case probeQualify => cases h; exact stable.handleRequest (fun _ hu => hu.probeQualify _) hs.1
  case probeReserve => cases h; exact stable.handleRequest (fun _ hu => hu.probeReserve _) hs.1
  case probeUnreserve => cases h; exact stable.handleRequest (fun _ hu => hu.probeUnreserve _) hs.1
  case probeRemove => cases h; exact stable.handleRequest (fun _ hu => hu.probeRemove _) hs.1
  all_goals exact untouched (of_decide_eq_true rfl)

theorem rackAndZones_exec (c : Instr) (s t : State) (h : exec c s = .next t) (hs : RackAndZones s) : RackAndZones t := by
  refine ⟨?_, zonesSound_exec c s t h hs.2⟩
  cases hr : requestOf c with
  | none => exact rackOk_exec_event h hr hs.1
  | some r => exact rackAndZones_exec_request h hr hs

/-- Settles O60: an open change and its slot move together, and the other arm has none open because it does not hold the
RACK zone. -/
theorem everyStepKeepsTheRackSound : Obligations.EveryStepKeepsTheRackSound := by
  intro s t ⟨rack, changes, zones, _⟩ h
  have reads : readsOnly ([.slots, .entries, .changeTimeout, .zoneTable] ++ ofArms .change ++
      ([.zoneTable, .claim .a, .claim .b] ++ ofArms .supervisor)) RackAndZones := fun s t same hs =>
    ⟨rackOk_readsOnly s t (fun b hb => same b (List.mem_append_left _ hb)) hs.1,
      zonesSound_readsOnly s t (fun b hb => same b (List.mem_append_right _ hb)) hs.2⟩
  have kept := step_keeps reads (by decide) rackAndZones_exec h ⟨⟨rack, changes, zones.1⟩, zones⟩
  exact ⟨kept.1.1, kept.1.2.1⟩

end Exec

end Sys2Proof.Machine
end

section
/-! PROOFS. Which events are due, and what the block does on an empty queue (R172). -/

namespace Sys2Proof.Machine

/-! ### The events that are due -/

section Due
variable {s : State} {c d : Instr} {cond : Bool}

theorem mem_onlyIf : c ∈ onlyIf cond d ↔ cond = true ∧ c = d := by cases cond <;> simp [onlyIf]

/-- A duration has passed since a stamp, and the part is not held in reset (R172). -/
theorem reached_iff {start : Word} {ms : Nat} :
    s.reached start ms = true ↔ s.resetHeld = false ∧ ms ≤ (s.cellTime - start).toNat := by
  rw [State.reached, Bool.and_eq_true, Bool.not_eq_true', decide_eq_true_eq, State.age]

theorem conversionDue_iff : conversionDue s = true ↔
    ∃ c ∈ s.temp.seq.inFlight, s.resetHeld = false ∧ 4 ≤ (s.cellTime - c.start).toNat := by
  cases h : s.temp.seq.inFlight <;> simp [conversionDue, h, reached_iff, conversionMs]

theorem leftValidDue_iff {i : Fin 16} : leftValidDue s i = true ↔
    ∃ t ∈ (vget s.temp.sensors i).leftValid, s.resetHeld = false ∧ 600000 ≤ (s.cellTime - t).toNat := by
  cases h : (vget s.temp.sensors i).leftValid <;> simp [leftValidDue, h, reached_iff, leftValidMs]

theorem modelCheckDue_iff : modelCheckDue s = true ↔
    ∃ c ∈ s.model.check, s.resetHeld = false ∧ 2 ≤ (s.cellTime - c.start).toNat := by
  cases h : s.model.check <;> simp [modelCheckDue, h, reached_iff, modelCheckMs]

theorem timer_due_iff {timer : Option Timer} : s.due timer = true ↔
    ∃ t ∈ timer, s.resetHeld = false ∧ t.duration ≤ (s.cellTime - t.start).toNat := by
  cases timer <;> simp [State.due, reached_iff]

theorem mem_dueOfArm {arm : Arm} : c ∈ dueOfArm s arm ↔
    (s.due (s.sup.get arm).reportTimer = true ∧ c = .reportTimerExpiry arm) ∨
    (s.due (s.sup.get arm).window = true ∧ c = .settleWindowExpiry arm) ∨
    (s.due (s.rack.changes.get arm).timer = true ∧ c = .changeTimerExpiry arm) ∨
    (s.due (s.touch.queues.get arm).blankTimer = true ∧ c = .blankTimerExpiry arm) := by
  simp only [dueOfArm, List.mem_append, mem_onlyIf, or_assoc]

/-- The events due, block by block (R172). -/
theorem mem_dueEvents : c ∈ dueEvents s ↔
    (conversionDue s = true ∧ c = .conversionCompletion (Config.converterCode s.freeIndex)) ∨
    (s.due s.temp.seq.roundTimer = true ∧ c = .roundTimerExpiry) ∨
    (∃ i, leftValidDue s i = true ∧ c = .leftValidTimeExpiry i) ∨
    (modelCheckDue s = true ∧ c = .modelCheckCompletion) ∨
    (∃ arm, c ∈ dueOfArm s arm) ∨
    ∃ i, s.due (slotAt s i).settleTimer = true ∧ c = .presenceSettleExpiry i := by
  have arms : (∃ arm, c ∈ dueOfArm s arm) ↔ c ∈ dueOfArm s .a ∨ c ∈ dueOfArm s .b :=
    ⟨fun ⟨arm, h⟩ => by cases arm; exacts [.inl h, .inr h], fun h => h.elim (⟨_, ·⟩) (⟨_, ·⟩)⟩
  simp only [dueEvents, List.mem_append, mem_onlyIf, List.mem_flatMap, List.mem_finRange, true_and, arms, or_assoc]

end Due

/-! ### The choice among them -/

/-- The event taken is one of those due (log entry 3). -/
theorem chosenEvent_mem (s : State) {events : List Instr} (h : events ≠ []) : ∃ e ∈ events, chosenEvent s events = some e := by
  match events with
  | [] => exact absurd rfl h
  | [e] => exact ⟨e, List.mem_singleton_self e, rfl⟩
  | e :: d :: rest =>
    have inside : Config.eventChoice s.freeIndex % ((d :: rest).length + 1) < (e :: d :: rest).length :=
      Nat.mod_lt _ (Nat.succ_pos _)
    refine ⟨_, ?_, rfl⟩
    rw [List.getD_eq_getElem _ _ inside]
    exact List.getElem_mem inside

theorem step_of_empty {s : State} (h : s.pending = []) :
    step s = (nextEvent s).elim (.next (tick s)) fun e => exec e (useFree s) := by
  rw [step]
  split
  · next pending => rw [h] at pending; cases pending
  · cases nextEvent s <;> rfl

/-- Settles O2: an event taken is due, and each kind of event is due by its own condition. -/
theorem timePassesAndEventsFallDue : Obligations.TimePassesAndEventsFallDue := by
  refine ⟨fun s empty => ⟨fun none => ?_, fun some => ?_⟩, fun s => ?_⟩
  · rw [step_of_empty empty, nextEvent, none]; rfl
  · obtain ⟨e, due, chosen⟩ := chosenEvent_mem s some
    exact ⟨e, due, by rw [step_of_empty empty, nextEvent, chosen]; rfl⟩
  · intro elapsed out
    have timer (t : Option Timer) : s.due t = true ↔ out t := timer_due_iff
    refine ⟨fun code => ?_, ?_, fun i => ?_, ?_, fun arm => ?_, fun arm => ?_, fun i => ?_, fun arm => ?_, fun arm => ?_⟩ <;>
      simp [mem_dueEvents, mem_dueOfArm, timer]
    · rw [conversionDue_iff, and_comm]; rfl
    · exact leftValidDue_iff
    · exact modelCheckDue_iff

end Sys2Proof.Machine
end

section
/-! PROOFS. The reset input: the device-reset state of every block, and the start of the part (R171). -/

namespace Sys2Proof.Machine

/-! ### The permit sense -/

/-- Outside a settle window the permit sense is judged against the command (R100). -/
theorem judgeSense_of_no_window {arm : Arm} {s : State} (h : (s.sup.get arm).window = none) :
    judgeSense arm s =
      setPresent arm .permitMismatch (decide ((s.sup.get arm).sense ≠ (s.sup.get arm).command)) s := by
  simp [judgeSense, h]

/-- A cause that becomes present in another mode than OFF is recorded (R85). -/
theorem setPresent_records {arm : Arm} {c : Cause} {s : State} (before : (s.sup.get arm).present.get c = false)
    (mode : (s.sup.get arm).mode c ≠ .off) : ((setPresent arm c true s).sup.get arm).recorded.get c = true := by
  rw [setPresent_spec, if_pos ⟨rfl, before, mode⟩]
  simp

@[simp] theorem judgeSense_other (arm : Arm) (s : State) :
    (judgeSense arm s).sup.get (otherArm arm) = s.sup.get (otherArm arm) := by
  rw [judgeSense]
  split
  · rfl
  · exact setPresent_other _ _ _ _

/-! ### The device reset -/

section Asserted
variable (s : State)

theorem deviceReset_sup (arm : Arm) : (deviceReset s).sup.get arm = Supervisor.reset (s.sup.get arm).sense := by
  cases arm <;> rfl

theorem deviceReset_slot (i : Fin 12) : slotAt (deviceReset s) i = Slot.reset (slotAt s i).raw none := by
  have slots : (deviceReset s).rack.slots = vmap (fun _ x => Slot.reset x.raw none) s.rack.slots := rfl
  rw [slotAt, slots, vget_vmap, slotAt]

theorem deviceReset_port (l : Link) : (deviceReset s).ports.get l =
    { phase := if (s.ports.get l).phase = .idle then .idle else .passedOver
      reply := { code := .none, d0 := 0, d1 := 0, d2 := 0 }, runCount := 0, resetBit := true } := by
  have phase (p : PortPhase) : p.atReset = if p = .idle then .idle else .passedOver := by cases p <;> rfl
  have port (l : Link) : (deviceReset s).ports.get l = Port.reset (s.ports.get l).phase.atReset := by cases l <;> rfl
  rw [port, phase]; rfl

/-- Right after a device reset no alarm condition holds (R159). -/
theorem deviceReset_cellAlarm : cellAlarm (deviceReset s) = false := by
  have recorded (c : Cause) : recordedAnywhere (deviceReset s) c = false := by cases c <;> rfl
  have failed : anySensor (deviceReset s) .failed = false := by change anySensor State.reset .failed = false; decide
  have locked : anySensor (deviceReset s) .lockedOut = false := by change anySensor State.reset .lockedOut = false; decide
  have blocked : anySlot (deviceReset s) .blocked = false := by
    refine List.any_eq_false.mpr fun i _ => ?_
    rw [← slotAt, deviceReset_slot]
    simp [Slot.reset]
  simp only [cellAlarm, alarmConditions, funext recorded, failed, locked, blocked]
  rw [List.any_eq_false]
  intro i _
  fin_cases i <;> simp [allCauses]

end Asserted

/-! ### The deassertion -/

section Deasserted
variable {s : State}

/-- The timers of the slots started, before the permit senses are judged (R120, R171). -/
def timersStarted (s : State) : State :=
  { s with
    resetHeld := false
    rack := { s.rack with
      slots := vmap (fun _ x => { x with settleTimer := some (s.timer presenceSettleMs) }) s.rack.slots } }

theorem leaveReset_eq (s : State) : leaveReset s = judgeSense .b (judgeSense .a (timersStarted s)) := rfl

theorem judgeSenses_unchangedBut (u : State) :
    unchangedBut [.supervisor .a, .supervisor .b, .faultSource] u (judgeSense .b (judgeSense .a u)) :=
  unchangedBut_trans (unchangedBut_mono (by simp) (judgeSense_unchangedBut .a u))
    (unchangedBut_mono (by simp) (judgeSense_unchangedBut .b _))

theorem timersStarted_unchangedBut (s : State) : unchangedBut [.resetInput, .slots] s (timersStarted s) := by
  intro b hb
  cases b
  case resetInput | slots => exact absurd (by decide) hb
  all_goals simp [Block.same, timersStarted]

theorem slotAt_timersStarted (s : State) (i : Fin 12) :
    slotAt (timersStarted s) i = { slotAt s i with settleTimer := some ⟨s.cellTime, 20⟩ } := by
  have slots : (timersStarted s).rack.slots =
    vmap (fun _ x => { x with settleTimer := some (s.timer presenceSettleMs) }) s.rack.slots := rfl
  rw [slotAt, slots, vget_vmap]; rfl

/-- The supervisor of an arm after both senses are judged is as its own judgement leaves it. -/
theorem judgeSenses_sup (u : State) (arm : Arm) (window : (u.sup.get arm).window = none) :
    ∃ v : State, v.sup.get arm = u.sup.get arm ∧
      ((judgeSense .b (judgeSense .a u)).sup.get arm) =
        (setPresent arm .permitMismatch (decide ((u.sup.get arm).sense ≠ (u.sup.get arm).command)) v).sup.get arm := by
  cases arm with
  | a =>
    refine ⟨u, rfl, ?_⟩
    rw [← judgeSense_of_no_window window]
    exact judgeSense_other .b _
  | b =>
    have kept : (judgeSense .a u).sup.get .b = u.sup.get .b := judgeSense_other .a u
    refine ⟨judgeSense .a u, kept, ?_⟩
    rw [judgeSense_of_no_window (by rw [kept]; exact window), kept]

end Deasserted

/-- Settles O3: the device-reset values by the definitions of each block, and the deassertion by the judgement of each
permit sense. -/
theorem resetInputResetsAndStartsThePart : Obligations.ResetInputResetsAndStartsThePart := by
  refine ⟨fun s => ⟨fun held => ?_, fun free => ⟨deviceReset s, ?_, rfl, rfl, fun i => ?_, rfl, rfl, rfl, rfl, rfl, fun i => ?_,
    rfl, rfl, rfl, rfl, fun z => ?_, rfl, rfl, fun arm => ?_, fun e => ?_, rfl, rfl, deviceReset_slot s, fun arm => ?_, rfl,
    fun arm => ?_, rfl, rfl, rfl, fun arm => ?_, ?_, deviceReset_port s, rfl, rfl, rfl, fun arm => ?_, fun i => ?_, fun l => ?_,
    deviceReset_cellAlarm s⟩⟩, fun s => ⟨fun free => ?_, fun held windows => ?_⟩⟩
  · simp [exec, execResetInputAsserted, held]
  · simp [exec, execResetInputAsserted, free]
  · exact vget_replicate _ i
  · exact vget_replicate _ i
  · exact vget_replicate _ z
  · exact deviceReset_sup s arm
  · exact vget_replicate _ e
  · cases arm <;> rfl
  · cases arm <;> rfl
  · cases arm <;> rfl
  · change ∀ n : Fin 9, State.reset.alarmMap.getLsbD n.val = decide (n.val ∈ [0, 1, 4, 5, 7, 8])
    decide
  · rw [permitOutput, deviceReset_sup]; rfl
  · rw [lockOutput, ← slotAt, deviceReset_slot]; rfl
  · cases l <;> rfl
  · simp [exec, execResetInputDeasserted, free]
  · have flags := conclude_flags s .plain (leaveReset s)
    have started := timersStarted_unchangedBut s
    have sup (arm : Arm) : (timersStarted s).sup.get arm = s.sup.get arm := rfl
    have judged := judgeSenses_unchangedBut (timersStarted s)
    have left : unchangedBut [.resetInput, .slots, .supervisor .a, .supervisor .b, .faultSource] s (leaveReset s) := by
      rw [leaveReset_eq]; exact unchangedBut_append started judged
    have concluded := conclude_unchangedBut_judged s .plain (leaveReset s)
    refine ⟨conclude s .plain (leaveReset s), by simp [exec, execResetInputDeasserted, held], ?_, fun i => ?_, fun arm => ?_,
      fun arm before sense command => ?_, ?_⟩
    · exact (concluded .resetInput (by decide)).trans (judged .resetInput (by decide))
    · have slots : (conclude s .plain (leaveReset s)).rack.slots = (timersStarted s).rack.slots :=
        (concluded .slots (by decide)).trans (judged .slots (by decide))
      rw [slotAt, slots, ← slotAt, slotAt_timersStarted]
    · obtain ⟨v, same, moved⟩ := judgeSenses_sup (timersStarted s) arm (windows arm)
      rw [flags.present, leaveReset_eq, moved, setPresent_present, same, sup]
      rfl
    · obtain ⟨v, same, moved⟩ := judgeSenses_sup (timersStarted s) arm (windows arm)
      rw [sup] at same
      rw [flags.recorded, leaveReset_eq, moved, sup, sense, command]
      exact setPresent_records (c := .permitMismatch) (by rw [same]; exact before) (by rw [same]; nofun)
    · exact unchangedBut_trans (unchangedBut_mono (by simp) left) (unchangedBut_mono (by decide) concluded)

end Sys2Proof.Machine
end

section
/-! PROOFS. The beginning of a frame: the reply fixed, its bits, and the status byte (R160, R166, R167). -/

namespace Sys2Proof.Machine

/-! ### The status byte (R166) -/

section Status
variable {s : State} {l : Link}

theorem getLsbD_bit {n k : Nat} (hn : n < 8) (hk : k < 8) (b : Bool) :
    (BitVec.ofNat 8 (flag b) <<< n).getLsbD k = (b && decide (k = n)) := by
  have all : ∀ (n k : Fin 8) (b : Bool), (BitVec.ofNat 8 (flag b) <<< n.val).getLsbD k.val = (b && decide (k = n)) := by
    decide
  simpa only [Fin.mk.injEq] using all ⟨n, hn⟩ ⟨k, hk⟩ b

/-- The arms whose conditions the status byte of a link shows. -/
def shownArms : Link → List Arm
  | .armA => [.a]
  | .armB => [.b]
  | .cell => [.a, .b]

theorem eitherArm_iff {p : Arm → Bool} : eitherArm l p = true ↔ ∃ arm ∈ shownArms l, p arm = true := by
  cases l <;> simp [eitherArm, armOf, shownArms]

theorem permitBit_iff : permitBit s l = true ↔ ∀ arm ∈ shownArms l, (s.sup.get arm).command = true := by
  cases l <;> simp [permitBit, armOf, shownArms, PerArm.get]

theorem compBit_iff : compBit s l = true ↔ s.model.active.isSome = true ∧
    (l ≠ .cell → ∀ arm ∈ shownArms l, ∃ p ∈ s.lastPos.get arm, p.quality = ⟨.full, .full, .full⟩) := by
  have full (arm : Arm) : (match s.lastPos.get arm with
      | none => false
      | some p => decide (p.quality = { x := .full, y := .full, z := .full })) = true ↔
        ∃ p ∈ s.lastPos.get arm, p.quality = ⟨.full, .full, .full⟩ := by
    cases s.lastPos.get arm <;> simp
  rw [compBit, Bool.and_eq_true]
  refine and_congr_right fun _ => ?_
  cases l
  · exact (full .a).trans (by simp [shownArms])
  · exact (full .b).trans (by simp [shownArms])
  · simp [armOf]

/-- Each bit of the status byte stands for its own condition (Table A.2). -/
theorem statusByte_getLsbD (s : State) (l : Link) {k : Nat} (hk : k < 8) : (statusByte s l).getLsbD k =
    [eitherArm l fun arm => !(s.touch.queues.get arm).records.isEmpty,
      eitherArm l fun arm => decide ((s.rack.changes.get arm).phase ≠ .idle), compBit s l, permitBit s l,
      eitherArm l fun arm => recordedIn .warn (s.sup.get arm), eitherArm l fun arm => recordedIn .latched (s.sup.get arm),
      attentionLine s l, (s.ports.get l).resetBit].getD k false := by
  have bit {n : Nat} (hn : n < 8) (b : Bool) := getLsbD_bit hn hk b
  simp only [statusByte, BitVec.getLsbD_or]
  rw [bit (n := 0), bit (n := 1), bit (n := 2), bit (n := 3), bit (n := 4), bit (n := 5), bit (n := 6), bit (n := 7)]
  · interval_cases k <;> simp
  all_goals decide

end Status

/-! ### The reply (R160, R167) -/

/-- Bits go out byte by byte, each most significant first (R160). -/
theorem replyBit_inside (reply : Vector Byte 16) {n : Nat} (h : n < 16) (k : Fin 8) :
    replyBit reply (8 * n + k.val) = (reply[n]'h).getLsbD (7 - k.val) := by
  have place : (8 * n + k.val) / 8 = n ∧ (8 * n + k.val) % 8 = k.val ∧ 8 * n + k.val < 128 := by omega
  rw [replyBit, place.1, place.2.1, decide_eq_true place.2.2, Bool.and_true, BitVec.getMsbD_eq_getLsbD]
  simp [h, k.isLt]

theorem replyBit_outside (reply : Vector Byte 16) (n : Nat) : replyBit reply (128 + n) = false := by
  rw [replyBit, decide_eq_false (by omega), Bool.and_false]

/-- Settles O8: the reply by its bytes and bits, the status byte by its conditions. -/
theorem frameBeginFixesTheReply : Obligations.FrameBeginFixesTheReply := by
  refine ⟨fun l s => ⟨fun idle running => ⟨formReply s l, ?_, rfl, fun n => ⟨fun k h => replyBit_inside _ h k,
    replyBit_outside _ n⟩⟩, fun idle held => ?_, fun selected => ?_⟩, fun s l => ?_⟩
  · simp [exec, execFrameBegin, beginFrame, idle, running, State.modPort, State.setPort]
  · simp [exec, execFrameBegin, beginFrame, idle, held, State.modPort, State.setPort]
  · simp [exec, execFrameBegin, beginFrame, selected]
  · intro arms recordedAs
    have shown : arms = shownArms l := by cases l <;> rfl
    have bit (k : Nat) (hk : k < 8 := by decide) := statusByte_getLsbD s l hk
    rw [shown]
    refine ⟨bit 7, bit 6, ?_, ?_, ?_, ?_, ?_, ?_⟩
    · rw [bit 5]
      exact eitherArm_iff.trans (by simp only [recordedIn_iff]; rfl)
    · rw [bit 4]
      exact eitherArm_iff.trans (by simp only [recordedIn_iff]; rfl)
    · rw [bit 3]; exact permitBit_iff
    · rw [bit 2]; exact compBit_iff
    · rw [bit 1]; exact eitherArm_iff.trans (by simp)
    · rw [bit 0]; exact eitherArm_iff.trans (by simp)

end Sys2Proof.Machine
end

section
/-! PROOFS. The two ends of a frame on any link: accepted, discarded, passed over, and the reads and refusals that do no
more than every accepted frame does (R162 to R169). -/

namespace Sys2Proof.Machine

/-! ### An arm judged at the end of a plain event -/

section Plain
variable {s s0 : State} {arm : Arm} {before v : Supervisor}

/-- No event but a taken FAULT_CLEAR takes an arm to STARTING (Table 5.6). -/
theorem stateAfter_starting {t : Trigger} (ht : t ≠ .faultClear arm)
    (h : stateAfter before v t arm = .starting) : v.state = .starting := by
  by_contra other
  by_cases hd : v.state = .disabled
  · rw [stateAfter_of_disabled hd] at h; cases h
  by_cases hs : v.state = .stopped
  · rw [stateAfter_of_stopped hs, if_neg fun taken => ht taken.1] at h; cases h
  rw [stateAfter_active ⟨hd, hs⟩, if_neg other] at h
  split at h
  · cases h
  · exact runOrHold_ne (by simp) h

/-- The judgement starts no report timer but at a taken FAULT_CLEAR. -/
theorem conclude_reportTimer_of {t : Trigger} (ht : t ≠ .faultClear arm) (s0 s : State) :
    ((conclude s0 t s).sup.get arm).reportTimer = (s.sup.get arm).reportTimer := by
  rw [conclude_sup]
  obtain same | ⟨moves, moved⟩ := judgeArm_spec s0 t arm s
  · rw [same]
  · have unstarted : stateAfter (s0.sup.get arm) (s.sup.get arm) t arm ≠ .starting := fun starting =>
      moves (starting.trans (stateAfter_starting ht starting).symm)
    rw [moved, if_neg unstarted]
    exact (enterState_moved arm _ s).timer unstarted

theorem conclude_reportTimer (s0 s : State) (arm : Arm) :
    ((conclude s0 .plain s).sup.get arm).reportTimer = (s.sup.get arm).reportTimer :=
  conclude_reportTimer_of (by simp) s0 s

/-- Without a LATCHED cause that becomes present an arm stays, but for the end of HELD (R89). -/
theorem stateAfter_lessened (hs : SupervisorSound before) (state : v.state = before.state)
    (present : ∀ c, v.present.get c = true → before.present.get c = true) (modes : ∀ c, v.mode c = before.mode c) :
    stateAfter before v .plain arm = if v.state = .held ∧ presentIn .auto v = false then .running else v.state := by
  have latched : latchedBy before v .plain arm = false := by
    have now : latchedNow before v = false := by
      refine List.any_eq_false.mpr fun c _ => ?_
      cases hc : v.present.get c
      · simp
      · simp [present c hc]
    simp [latchedBy, now]
  have auto (h : presentIn .auto v = true) : presentIn .auto before = true := by
    obtain ⟨c, hc, mode⟩ := presentIn_iff.mp h
    exact presentIn_iff.mpr ⟨c, present c hc, modes c ▸ mode⟩
  cases hv : v.state
  case disabled => rw [stateAfter_of_disabled hv]; simp
  case stopped => rw [stateAfter_of_stopped hv]; simp
  all_goals rw [stateAfter_active (by rw [hv]; simp), latched, hv]
  case starting => simp
  case running =>
    have none : presentIn .auto v = false := by
      by_contra some
      have was := hs.running (state ▸ hv)
      rw [auto (by simpa using some)] at was
      cases was
    simp [runOrHold, none]
  case held => cases h : presentIn .auto v <;> simp [runOrHold, h]

end Plain

/-! ### The frame that is accepted (R162) -/

section Accepted
variable {s : State} {l : Link} {arm : Arm}

theorem frameEnded_ports (l : Link) (s : State) : (frameEnded l s).ports = (acceptFrame l s).ports := conclude_ports ..

theorem frameEnded_port (l k : Link) (s : State) : (frameEnded l s).ports.get k =
    if k = l then { s.ports.get l with phase := .idle, runCount := 0, resetBit := false } else s.ports.get k := by
  rw [frameEnded_ports, acceptFrame_port, PerLink.get_set]

/-- What the acceptance of a frame does to the flags and the report timer of its arm (R87, R97). -/
theorem acceptFrame_own (arm : Arm) (s : State) : (acceptFrame (linkOf arm) s).sup.get arm = { s.sup.get arm with
    present := { (s.sup.get arm).present with link := false }
    reportTimer := if (s.sup.get arm).settings.reportAny = true ∧ (s.sup.get arm).reportTimer.isSome = true then
      some (s.timer (timeoutMs (s.sup.get arm).settings.timeoutCode)) else (s.sup.get arm).reportTimer } := by
  rw [acceptFrame_arm]
  simp only [State.setSup_sup, State.modPort_sup, PerArm.get_set_same]
  rfl

theorem frameEnded_arm_unchangedBut (arm : Arm) (s : State) :
    unchangedBut [.port (linkOf arm), .supervisor arm, .permitSource arm] s (frameEnded (linkOf arm) s) := by
  rw [frameEnded, conclude_of_other_same (by rw [acceptFrame_sup_other]) (by simp [Trigger.arm?])]
  exact unchangedBut_trans (unchangedBut_mono (by simp) (acceptFrame_arm_unchangedBut arm s))
    (unchangedBut_mono (by simp) (judgeArm_unchangedBut s .plain arm _))

theorem acceptFrame_own_lessened (arm : Arm) (s : State) (c : Cause)
    (h : ((acceptFrame (linkOf arm) s).sup.get arm).present.get c = true) : (s.sup.get arm).present.get c = true := by
  rw [acceptFrame_own] at h
  cases c
  case link => cases h
  all_goals exact h

/-- HELD ends with the frame when LINK was the last AUTO cause present (R87, R89). -/
theorem frameEnded_state (hs : SupervisorSound (s.sup.get arm)) :
    ((frameEnded (linkOf arm) s).sup.get arm).state =
      if (s.sup.get arm).state = .held ∧ presentIn .auto ((frameEnded (linkOf arm) s).sup.get arm) = false then .running
      else (s.sup.get arm).state := by
  have own := acceptFrame_own arm s
  have state : ((acceptFrame (linkOf arm) s).sup.get arm).state = (s.sup.get arm).state := by rw [own]
  rw [frameEnded]
  obtain ⟨present, -, kept⟩ | moved := conclude_sup_cases s .plain (acceptFrame (linkOf arm) s) arm
  · rw [kept, state, if_neg]
    rintro ⟨held, none⟩
    have auto := hs.held held
    rw [presentIn_congr present (by rw [own]), auto] at none
    cases none
  · rw [moved.state, presentIn_congr moved.present moved.settings, ← state]
    exact stateAfter_lessened hs state (acceptFrame_own_lessened arm s) fun c => by rw [Supervisor.mode, own]; rfl

theorem frameEnded_cell (s : State) : frameEnded .cell s = acceptFrame .cell s := conclude_same _ _ fun _ => rfl

end Accepted

/-! ### Answers that go with an accepted frame alone -/

section Answers
variable {s : State} {l : Link} {access : Access}

theorem writeReply_frameEnded (l : Link) (reply : Reply) (s : State) :
    writeReply l reply (frameEnded l s) = answered l reply (frameEnded l s) := writeReply_conclude_acceptFrame l reply s

/-- A request whose block leaves the state as it finds it. -/
theorem handleRequest_answered {act : State → Act} {reply : Reply} (ht : takesFrame l s = true)
    (hp : access.permits l = true) (h : act (acceptFrame l s) = ⟨acceptFrame l s, reply, .plain⟩) :
    handleRequest access l act s = answered l reply (frameEnded l s) := by
  rw [handleRequest_permitted ht hp, h]
  exact writeReply_frameEnded l reply s

/-- A read whose words are those of the state at the end of its own frame (R162). -/
theorem handleRead_answered (read : State → Reply) (ht : takesFrame l s = true) (hp : access.permits l = true) :
    handleRead access l (fun s1 => (s1, read s1)) s = answered l (read (frameEnded l s)) (frameEnded l s) := by
  rw [handleRead, if_pos hp, handleFrame_permitted ht hp]
  exact writeReply_frameEnded l _ s

/-- A request on a link that Table 10.1 does not permit. -/
theorem handleRequest_notPermitted {act : State → Act} (ht : takesFrame l s = true) (hp : access.permits l = false) :
    handleRequest access l act s = answered l (Reply.zeros .notPermitted) (frameEnded l s) := by
  rw [handleRequest_denied ht hp]
  exact writeReply_frameEnded l _ s

/-- The words of READ_TIME at the end of its frame (R169). -/
theorem readTimeWords_eq {s : State} (hs : PortsSound s) : readTimeWords s =
    { code := .ok, d0 := s.cellTime
      d1 := packed [(0, s.ports.armA.runCount), (8, s.ports.armB.runCount), (16, s.ports.cell.runCount)]
      d2 := packed [(0, flag s.ports.armA.resetBit), (1, flag s.ports.armB.resetBit), (2, flag s.ports.cell.resetBit)] } := by
  have a : s.ports.armA.runCount ≤ 255 := hs .armA
  have b : s.ports.armB.runCount ≤ 255 := hs .armB
  have bit (x : Bool) : flag x ≤ 1 := by cases x <;> decide
  have ra := bit s.ports.armA.resetBit
  have rb := bit s.ports.armB.resetBit
  rw [readTimeWords, at_zero, at_zero, packed_or_at (by simp; omega), packed_or_at (by simp; omega),
    packed_or_at (by simp; omega), packed_or_at (by simp; omega)]
  rfl

end Answers

/-- Settles O12: each request is handed to its block with the access that Table 10.1 gives it. -/
theorem requestsOnWrongLinksAreNotPermitted : Obligations.RequestsOnWrongLinksAreNotPermitted := by
  intro r s i ht wrong
  have denied {access : Access} (act : State → Act) (hp : access.permits r.link = false) :
      (.next (handleRequest access r.link act s) : StepResult) =
        .next (answered r.link (Reply.zeros .notPermitted) (frameEnded r.link s)) :=
    congrArg _ (handleRequest_notPermitted ht hp)
  rcases wrong with ⟨hl, hi⟩ | ⟨hl, hi⟩
  · have hp : Access.permits .armLinks r.link = false := by simp [Access.permits, hl]
    simp only [List.mem_cons, List.not_mem_nil, or_false] at hi
    rcases hi with rfl | rfl | rfl | rfl | rfl | rfl | rfl | rfl <;> exact denied _ hp
  · have hp : Access.permits .cellLink r.link = false := by simp [Access.permits, hl]
    have head : exec (.touchHead r) s = .next (answered r.link (Reply.zeros .notPermitted) (frameEnded r.link s)) := by
      refine .trans ?_ (denied (fun s1 => okay s1) hp)
      exact congrArg _ (handleRead_of_not_permitted hp _ s)
    by_cases reads : i = .touchHead r
    · exact reads ▸ head
    · simp only [List.mem_cons, List.not_mem_nil, or_false, reads, false_or] at hi
      rcases hi with rfl | rfl | rfl | rfl | rfl | rfl | rfl | rfl | rfl | rfl | rfl | rfl | rfl | rfl | rfl | rfl | rfl |
        rfl | rfl | rfl | rfl | rfl | rfl | rfl | rfl | rfl | rfl <;> exact denied _ hp

end Sys2Proof.Machine
end

section
/-! PROOFS. Accepted, discarded and passed-over frames (R87, R162, R163, R168, R169). -/

namespace Sys2Proof.Machine

/-- Settles O11: the acceptance field by field, and the three answers with the state at the end of the frame. -/
theorem acceptedFramesNopAndReadTime : Obligations.AcceptedFramesNopAndReadTime := by
  refine ⟨fun s hs => ⟨fun arm => ?_, ?_⟩, fun code r s ht => ⟨?_, ?_, fun ports => ?_⟩⟩
  · intro v t w
    have own := acceptFrame_own arm s
    have sound : SupervisorSound (s.sup.get arm) := by cases arm; exacts [hs.1, hs.2]
    have flags := conclude_flags s .plain (acceptFrame (linkOf arm) s)
    refine ⟨?_, ?_, ?_, frameEnded_state sound, ?_, frameEnded_arm_unchangedBut arm s⟩
    · exact (flags.present arm).trans (by rw [own])
    · exact (flags.recorded arm).trans (by rw [own])
    · refine (conclude_reportTimer s _ arm).trans ?_
      rw [own]
      rfl
    · rw [frameEnded_port, if_pos rfl]
  · rw [frameEnded_cell]; rfl
  · exact congrArg _ (handleRequest_answered ht rfl rfl)
  · exact congrArg _ (handleRequest_answered ht rfl rfl)
  · intro runs resets
    have sound : PortsSound (frameEnded r.link s) := fun l => by
      rw [frameEnded_port]
      split
      · exact Nat.zero_le _
      · exact ports l
    have run (l : Link) : ((frameEnded r.link s).ports.get l).runCount = runs l := by
      rw [frameEnded_port]; simp only [runs]; split <;> rfl
    have reset (l : Link) : flag ((frameEnded r.link s).ports.get l).resetBit = resets l := by
      rw [frameEnded_port]
      by_cases hl : l = r.link
      · simp [resets, hl, flag]
      · cases hb : (s.ports.get l).resetBit <;> simp [resets, hl, hb, flag]
    have time : (frameEnded r.link s).cellTime = s.cellTime := (conclude_cellTime ..).trans (acceptFrame_cellTime ..)
    refine congrArg _ ((handleRead_answered readTimeWords ht rfl).trans ?_)
    rw [readTimeWords_eq sound, time]
    simp only [← run, ← reset]
    rfl

/-! ### Discarded frames (R163) -/

section Discarded
variable {s : State} {arm : Arm}

/-- The port of a link after a discarded frame. -/
def discardedPort (p : Port) : Port :=
  { p with phase := .idle, reply := .zeros .frameError, runCount := min 255 (p.runCount + 1) }

/-- The run count that a discarded frame leaves is three or more from the third on. -/
theorem three_le_run {p : Port} : 3 ≤ (discardedPort p).runCount ↔ 2 ≤ p.runCount := by
  change 3 ≤ min 255 (p.runCount + 1) ↔ 2 ≤ p.runCount
  omega

theorem discardFrame_arm (arm : Arm) (s : State) : discardFrame (linkOf arm) s =
    if 2 ≤ (s.ports.get (linkOf arm)).runCount then setPresent arm .link true (s.modPort (linkOf arm) discardedPort)
    else s.modPort (linkOf arm) discardedPort := by
  have port : ((s.modPort (linkOf arm) discardedPort).ports.get (linkOf arm)) =
    discardedPort (s.ports.get (linkOf arm)) := by simp [State.modPort]
  have eq : discardFrame (linkOf arm) s =
      if 3 ≤ ((s.modPort (linkOf arm) discardedPort).ports.get (linkOf arm)).runCount then
        setPresent arm .link true (s.modPort (linkOf arm) discardedPort) else s.modPort (linkOf arm) discardedPort := by
    rw [discardFrame, armOf_linkOf]; rfl
  rw [eq, port]
  simp only [three_le_run]

theorem discardFrame_cell (s : State) : discardFrame .cell s = s.modPort .cell discardedPort := rfl

theorem discardFrame_ports (l : Link) (s : State) :
    (discardFrame l s).ports = s.ports.set l (discardedPort (s.ports.get l)) := by
  have arms (arm : Arm) : (discardFrame (linkOf arm) s).ports =
      s.ports.set (linkOf arm) (discardedPort (s.ports.get (linkOf arm))) := by
    rw [discardFrame_arm]
    split
    · rw [setPresent_ports]; rfl
    · rfl
  cases l
  · exact arms .a
  · exact arms .b
  · rfl

theorem discardFrame_arm_unchangedBut (arm : Arm) (s : State) :
    unchangedBut [.port (linkOf arm), .supervisor arm, .faultSource] s (discardFrame (linkOf arm) s) := by
  rw [discardFrame_arm]
  have port := modPort_unchangedBut s (linkOf arm) discardedPort
  split
  · exact unchangedBut_append (l := [.port (linkOf arm)]) port (setPresent_unchangedBut arm .link true _)
  · exact unchangedBut_mono (by simp) port

theorem discardFrame_present (arm : Arm) (s : State) : ((discardFrame (linkOf arm) s).sup.get arm).present =
    { (s.sup.get arm).present with
      link := (s.sup.get arm).present.link || decide (2 ≤ (s.ports.get (linkOf arm)).runCount) } := by
  rw [discardFrame_arm]
  split
  · next run => rw [setPresent_present, decide_eq_true run, Bool.or_true]; rfl
  · next run => rw [decide_eq_false run, Bool.or_false]; rfl

/-- LINK that becomes present is recorded unless its mode is OFF (R85, R87). -/
theorem discardFrame_recorded (arm : Arm) (s : State) :
    ((discardFrame (linkOf arm) s).sup.get arm).recorded.link = true ↔ (s.sup.get arm).recorded.link = true ∨
      ((s.sup.get arm).present.link = false ∧ 2 ≤ (s.ports.get (linkOf arm)).runCount ∧
        (s.sup.get arm).settings.modes.link ≠ .off) := by
  have sup : (s.modPort (linkOf arm) discardedPort).sup = s.sup := rfl
  rw [discardFrame_arm]
  split
  · next run =>
    rw [setPresent_spec, sup]
    split
    · next becomes => simpa [run, PerCause.set] using .inr ⟨becomes.2.1, becomes.2.2⟩
    · next stays =>
      have unrecorded : ¬ ((s.sup.get arm).present.link = false ∧ (s.sup.get arm).settings.modes.link ≠ .off) :=
        fun becomes => stays ⟨rfl, becomes⟩
      simp only [State.setSup_sup, PerArm.get_set_same, run, true_and, unrecorded, or_false]
  · next run => rw [sup]; simp [run]

end Discarded

/-! ### Frames that are passed over (R168) -/

theorem passOver_eq (l : Link) (s : State) :
    passOver l s = { s with ports := s.ports.set l { s.ports.get l with phase := .idle } } := rfl

/-- A command that carries a request, or is one by its code. -/
theorem requestOf_of_codeOf {i : Instr} {c : Byte × Request} (h : codeOf i = some c) : requestOf i = some c.2 := by
  cases i <;> cases h <;> rfl

/-- Whatever its request, a frame that the port does not take is passed over. -/
theorem exec_request_passed {i : Instr} {r : Request} {s : State} (hr : requestOf i = some r)
    (ht : takesFrame r.link s = false) : exec i s = .next (passOver r.link s) := by
  have next : ∃ t, exec i s = .next t := by cases i <;> cases hr <;> exact ⟨_, rfl⟩
  obtain ⟨t, h⟩ := next
  obtain ⟨access, act, finish, eq, -⟩ := exec_request_endsFrame h hr
  rw [h, eq, handleFrame_passed ht]

/-- Settles O10: the discard by its port, its LINK cause and the judgement of its arm, and the passing over whatever the
command. -/
theorem discardedAndPassedOverFrames : Obligations.DiscardedAndPassedOverFrames := by
  refine ⟨fun l s ht ports => ⟨conclude s .plain (discardFrame l s), ?_, ?_, ?_, ?_⟩, fun l i s ht kinds => ?_⟩
  · simp [exec, execFrameDiscard, ht]
  · have run : min 255 ((s.ports.get l).runCount + 1) =
        if (s.ports.get l).runCount = 255 then 255 else (s.ports.get l).runCount + 1 := by
      have := ports l
      split <;> omega
    rw [conclude_ports, discardFrame_ports, PerLink.get_set, if_pos rfl, discardedPort, run]
    rfl
  · rintro arm rfl v
    have flags := conclude_flags s .plain (discardFrame (linkOf arm) s)
    refine ⟨?_, ?_, ?_⟩
    · rw [flags.present, discardFrame_present]
    · rw [flags.recorded]; exact discardFrame_recorded arm s
    · rw [conclude_reportTimer, discardFrame_arm]
      have sup : (s.modPort (linkOf arm) discardedPort).sup = s.sup := rfl
      split
      · rw [setPresent_spec]
        split <;> simp [v]
      · rfl
  · have arms (arm : Arm) : unchangedBut [.port (linkOf arm), .supervisor arm, .permitSource arm, .faultSource] s
        (conclude s .plain (discardFrame (linkOf arm) s)) := by
      have discarded := discardFrame_arm_unchangedBut arm s
      have other : (discardFrame (linkOf arm) s).sup.get (otherArm arm) = s.sup.get (otherArm arm) :=
        supOf_unchangedBut discarded (by cases arm <;> decide)
      rw [conclude_of_other_same (arm := arm) (by rw [other]) (by simp [Trigger.arm?])]
      exact unchangedBut_trans (unchangedBut_mono (by simp) discarded)
        (unchangedBut_mono (by simp) (judgeArm_unchangedBut s .plain arm _))
    cases l
    · exact arms .a
    · exact arms .b
    · rw [discardFrame_cell, conclude_same s (s.modPort .cell discardedPort) fun _ => rfl]
      exact modPort_unchangedBut s .cell _
  · rw [← passOver_eq]
    rcases kinds with rfl | rfl | ⟨c, hc, rfl⟩
    · simp [exec, execPassedOverFrameEnd, ht]
    · simp [exec, execFrameDiscard, ht]
    · exact exec_request_passed (requestOf_of_codeOf hc) ht

end Sys2Proof.Machine
end

section
/-! PROOFS. The timers of a supervisor and its permit sense (R98, R100). -/

namespace Sys2Proof.Machine

/-- The judgement of an event that reaches one arm reaches that arm alone. -/
theorem conclude_arm_unchangedBut {s u : State} {bs : List Block} {arm : Arm} {t : Trigger} (h : unchangedBut bs s u)
    (apart : ∀ b ∈ [Block.supervisor (otherArm arm), .settings (otherArm arm), .sense (otherArm arm)], b ∉ bs)
    (ht : t.arm? ≠ some (otherArm arm)) :
    unchangedBut (bs ++ [.supervisor arm, .permitSource arm]) s (conclude s t u) := by
  rw [conclude_of_other_same (by rw [supOf_unchangedBut h apart]) ht]
  exact unchangedBut_append h (unchangedBut_mono (by simp) (judgeArm_unchangedBut s t arm u))

section Events
variable {arm : Arm} {s : State}

/-- A cause brought up to date moves the present and the recorded flags of its arm alone. -/
theorem setPresent_own (arm : Arm) (c : Cause) (now : Bool) (s : State) : ∃ recorded,
    (setPresent arm c now s).sup.get arm =
      { s.sup.get arm with present := (s.sup.get arm).present.set c now, recorded := recorded } := by
  rw [setPresent_spec]
  split
  · next becomes => exact ⟨_, by rw [becomes.1]; simp; rfl⟩
  · exact ⟨_, PerArm.get_set_same ..⟩

/-- The end of an event that brings one cause of an arm up to date. -/
theorem conclude_setPresent {u : State} (c : Cause) (now : Bool) :
    ((conclude s .plain (setPresent arm c now u)).sup.get arm).present = (u.sup.get arm).present.set c now ∧
    ((conclude s .plain (setPresent arm c now u)).sup.get arm).reportTimer = (u.sup.get arm).reportTimer ∧
    ((conclude s .plain (setPresent arm c now u)).sup.get arm).sense = (u.sup.get arm).sense ∧
    (((conclude s .plain (setPresent arm c now u)).sup.get arm).command = (u.sup.get arm).command →
      ((conclude s .plain (setPresent arm c now u)).sup.get arm).window = (u.sup.get arm).window) := by
  obtain ⟨recorded, own⟩ := setPresent_own arm c now u
  obtain ⟨window, -⟩ := conclude_permit s .plain (setPresent arm c now u) arm
  refine ⟨?_, ?_, ?_, fun same => ?_⟩
  · rw [conclude_present, own]
  · rw [conclude_reportTimer, own]
  · have sense := conclude_unchangedBut s .plain (setPresent arm c now u) (.sense arm) (by cases arm <;> decide)
    exact sense.trans (by rw [own])
  · rw [window, if_pos (by rw [own]; exact same), own]

/-- An event that changes the supervisor of an arm and brings one of its causes up to date. -/
theorem conclude_setPresent_unchangedBut {bs : List Block} {x : Supervisor} (c : Cause) (now : Bool)
    (h : unchangedBut bs s (s.setSup arm x)) (hbs : bs ⊆ [.supervisor arm, .sense arm]) :
    unchangedBut (bs ++ [.supervisor arm, .faultSource, .permitSource arm]) s
      (conclude s .plain (setPresent arm c now (s.setSup arm x))) := by
  have reached := unchangedBut_append h (setPresent_unchangedBut arm c now _)
  refine unchangedBut_mono ?_ (conclude_arm_unchangedBut (arm := arm) (t := .plain) reached ?_ (by simp [Trigger.arm?]))
  · simp
  · intro b hb hin
    rw [List.mem_append] at hin
    have own : b ∈ [Block.supervisor arm, .sense arm, .faultSource] := by
      obtain hin | hin := hin
      · have := hbs hin; simp at this ⊢; tauto
      · simp at hin ⊢; tauto
    have apart : ∀ b ∈ [Block.supervisor (otherArm arm), .settings (otherArm arm), .sense (otherArm arm)],
        b ∉ [Block.supervisor arm, .sense arm, .faultSource] := by
      cases arm <;> decide
    exact apart b hb own

theorem expireReport_eq (arm : Arm) (s : State) :
    expireReport arm s = setPresent arm .overdue true (s.setSup arm { s.sup.get arm with reportTimer := none }) := rfl

theorem expireWindow_eq (arm : Arm) (s : State) : expireWindow arm s =
    setPresent arm .permitMismatch (decide ((s.sup.get arm).sense ≠ (s.sup.get arm).command))
      (s.setSup arm { s.sup.get arm with window := none }) := by
  rw [expireWindow, judgeSense_of_no_window (by simp [State.modSup])]
  simp [State.modSup]

/-- In reset or within a settle window a change of the permit sense is that of the line alone (R100, R171). -/
theorem changeSense_of_idle {level : Bool} (changes : (s.sup.get arm).sense ≠ level)
    (idle : s.resetHeld = true ∨ (s.sup.get arm).window.isSome = true) :
    changeSense arm level s = s.setSup arm { s.sup.get arm with sense := level } := by
  rw [changeSense, if_neg changes]
  obtain held | running := idle
  · simp [held, State.modSup]
  · simp [judgeSense, State.modSup, running]

theorem changeSense_of_free {level : Bool} (changes : (s.sup.get arm).sense ≠ level) (free : s.resetHeld = false)
    (idle : (s.sup.get arm).window = none) : changeSense arm level s =
      setPresent arm .permitMismatch (decide (level ≠ (s.sup.get arm).command))
        (s.setSup arm { s.sup.get arm with sense := level }) := by
  have ended : ((s.modSup arm fun v => { v with sense := level }).sup.get arm).window = none := by
    rw [State.modSup, State.setSup_sup, PerArm.get_set_same]; exact idle
  rw [changeSense, if_neg changes]
  simp only [free, Bool.false_eq_true, if_false]
  rw [judgeSense_of_no_window ended]
  simp [State.modSup]

end Events

/-- Settles O38: each event brings one cause of its arm up to date and is judged. -/
theorem supervisorEventsJudgeTheArm : Obligations.SupervisorEventsJudgeTheArm := by
  intro arm level s v out
  have due (timer : Option Timer) : out timer ↔ s.due timer = true := State.due_iff.symm
  have own : [Block.supervisor arm] ⊆ [.supervisor arm, .sense arm] := by simp
  refine ⟨fun no => ?_, fun yes => ?_, fun no => ?_, fun yes => ?_, fun same => ?_, fun changes idle => ?_,
    fun changes free idle => ?_⟩
  · rw [due] at no
    simp only [exec, execReportTimerExpiry]
    rw [if_neg no]
  · rw [due] at yes
    obtain ⟨present, timer, -, -⟩ := conclude_setPresent (s := s) (arm := arm)
      (u := s.setSup arm { v with reportTimer := none }) .overdue true
    rw [← expireReport_eq] at present timer
    refine ⟨conclude s .plain (expireReport arm s), ?_, ?_, ?_, ?_⟩
    · simp only [exec, execReportTimerExpiry]
      rw [if_pos yes]
    · rw [present, State.setSup_sup, PerArm.get_set_same]; rfl
    · rw [timer, State.setSup_sup, PerArm.get_set_same]
    · rw [expireReport_eq]
      exact unchangedBut_mono (by simp) (conclude_setPresent_unchangedBut .overdue true (setSup_unchangedBut rfl rfl) own)
  · rw [due] at no
    simp only [exec, execSettleWindowExpiry]
    rw [if_neg no]
  · rw [due] at yes
    obtain ⟨present, timer, -, window⟩ := conclude_setPresent (s := s) (arm := arm)
      (u := s.setSup arm { v with window := none }) .permitMismatch (decide (v.sense ≠ v.command))
    rw [← expireWindow_eq] at present timer window
    rw [State.setSup_sup, PerArm.get_set_same] at present timer window
    refine ⟨conclude s .plain (expireWindow arm s), ?_, present, timer, window, ?_⟩
    · simp only [exec, execSettleWindowExpiry]
      rw [if_pos yes]
    · rw [expireWindow_eq]
      exact unchangedBut_mono (by simp) (conclude_setPresent_unchangedBut _ _ (setSup_unchangedBut rfl rfl) own)
  · simp only [exec, execPermitSenseChange, changeSense]
    rw [if_pos same, conclude_same s s fun _ => rfl]
  · simp only [exec, execPermitSenseChange]
    rw [changeSense_of_idle changes idle, conclude_same]
    intro k
    by_cases hk : k = arm
    · rw [hk, State.setSup_sup, PerArm.get_set_same]
    · rw [State.setSup_sup, PerArm.get_set_other _ hk]
  · obtain ⟨present, timer, sense, -⟩ := conclude_setPresent (s := s) (arm := arm)
      (u := s.setSup arm { v with sense := level }) .permitMismatch (decide (level ≠ v.command))
    rw [← changeSense_of_free changes free idle] at present timer sense
    rw [State.setSup_sup, PerArm.get_set_same] at present timer sense
    refine ⟨conclude s .plain (changeSense arm level s), rfl, sense, present, timer, ?_⟩
    rw [changeSense_of_free changes free idle]
    exact unchangedBut_mono (by simp)
      (conclude_setPresent_unchangedBut _ _ (setSense_unchangedBut s arm level) (by simp))

end Sys2Proof.Machine
end

section
/-! PROOFS. ARM_ENABLE and ARM_DISABLE, alone and falling together (R90 to R92). -/

namespace Sys2Proof.Machine

/-! ### The requests of R90 -/

section Control
variable {arm : Arm} {r : Request} {s : State}

theorem supReply_eq (code : ResultCode) (arm : Arm) (s : State) : supReply code arm s =
    { code := code, d0 := packed [(0, (s.sup.get arm).state.num)], d1 := packed [(0, causeNum (s.sup.get arm).recorded)]
      d2 := packed [(0, causeNum (s.sup.get arm).present)] } := by
  rw [supReply, at_zero, causeMarks_eq_packed, causeMarks_eq_packed]

/-- A selector that names no arm is refused on the Cell link (R90). -/
theorem handleControl_badSelector (hc : onCell r s) (hsel : 2 ≤ r.sel.toNat) (act : Arm → State → Act) :
    handleControl r act s = refusedOnCell .badSelector s := by
  obtain ⟨hl, ht⟩ := hc
  have none : controlledArm r = none := by rw [controlledArm, hl]; exact armOfSel_eq_none hsel
  rw [handleControl, none, hl]
  exact (handleRequest_answered ht rfl rfl).trans (by rw [frameEnded_cell]; rfl)

/-- A request of R90 whose block leaves the state as it finds it. -/
theorem handleControl_kept (h : controls arm r s) {act : Arm → State → Act} {reply : Reply}
    (kept : act arm (acceptFrame r.link s) = ⟨acceptFrame r.link s, reply, .plain⟩) :
    handleControl r act s =
      answered r.link (supReply reply.code arm (frameEnded r.link s)) (frameEnded r.link s) := by
  rw [handleControl_taken h, kept]
  exact writeReply_frameEnded r.link _ s

/-- A request of R90 after which nothing is judged: its arm is not, and no other was reached. -/
theorem handleControl_unjudged (h : controls arm r s) {act : Arm → State → Act} {u : State} {reply : Reply}
    (taken : act arm (acceptFrame r.link s) = ⟨u, reply, .plain⟩)
    (other : u.sup.get (otherArm arm) = (acceptFrame r.link s).sup.get (otherArm arm))
    (unjudged : judgeArm s .plain arm u = u) (port : u.ports.get r.link = (acceptFrame r.link s).ports.get r.link) :
    handleControl r act s = answered r.link (supReply reply.code arm u) u := by
  have concluded : conclude s .plain u = u := by
    rw [conclude_of_other_same (arm := arm) (by rw [other, h.accept_other]) (by simp [Trigger.arm?])]
    exact unjudged
  have answer (x : Reply) : writeReply r.link x u = answered r.link x u := by
    rw [writeReply, State.modPort, port, acceptFrame_port, PerLink.get_set, if_pos rfl]; rfl
  rw [handleControl_taken h, taken]
  simp only [concluded]
  exact answer _

/-- The frame that carries a request of R90 leaves a DISABLED arm unjudged. -/
theorem controls.frameEnded_of_disabled (h : controls arm r s) (disabled : (s.sup.get arm).state = .disabled) :
    frameEnded r.link s = acceptFrame r.link s := by
  have still := (acceptFrame_moves r.link s arm).state.trans disabled
  rw [frameEnded, conclude_of_other_same (arm := arm) (by rw [h.accept_other]) (by simp [Trigger.arm?]),
    judgeArm_of_disabled still]

/-- A LATCHED cause is recorded as the frame finds it (R85). -/
theorem latched_acceptFrame (l : Link) (s : State) (arm : Arm) : recordedIn .latched ((acceptFrame l s).sup.get arm) =
    recordedIn .latched (s.sup.get arm) :=
  recordedIn_congr (acceptFrame_recorded l s arm) (acceptFrame_moves l s arm).settings _

/-- ARM_ENABLE is refused on the state before its frame (R91, R92). -/
theorem enable_refused_iff {l : Link} :
    (((acceptFrame l s).sup.get arm).state ≠ .disabled ∨ enableBarred l arm (acceptFrame l s) = true) ↔
      ((s.sup.get arm).state ≠ .disabled ∨ ∃ k, s.disabledBy.get arm = some k ∧ k ≠ l) := by
  rw [(acceptFrame_moves l s arm).state]
  refine or_congr_right ?_
  rw [enableBarred, acceptFrame_disabledBy]
  cases s.disabledBy.get arm <;> simp

end Control

/-! ### ARM_ENABLE (R91) -/

section Enable
variable {arm : Arm} {r : Request} {s : State}

theorem armEnable_refused (h : controls arm r s)
    (barred : (s.sup.get arm).state ≠ .disabled ∨ ∃ k, s.disabledBy.get arm = some k ∧ k ≠ r.link) :
    exec (.armEnable r) s =
      .next (answered r.link (supReply .state arm (frameEnded r.link s)) (frameEnded r.link s)) := by
  refine congrArg Host.Outcome.next (handleControl_kept (reply := .zeros .state) h ?_)
  exact if_pos (enable_refused_iff.mpr barred)

theorem armEnable_faulted (h : controls arm r s) (disabled : (s.sup.get arm).state = .disabled)
    (free : ¬ ∃ k, s.disabledBy.get arm = some k ∧ k ≠ r.link) (latched : recordedIn .latched (s.sup.get arm) = true) :
    exec (.armEnable r) s =
      .next (answered r.link (supReply .faulted arm (frameEnded r.link s)) (frameEnded r.link s)) := by
  refine congrArg Host.Outcome.next (handleControl_kept (reply := .zeros .faulted) h ?_)
  rw [armEnable, if_neg (enable_refused_iff.not.mpr (not_or.mpr ⟨not_not.mpr disabled, free⟩)), latched_acceptFrame,
    if_pos latched]
  rfl

/-- An arm just started stands in STARTING after the judgement of its frame (Table 5.6). -/
theorem judgeArm_started (r : Link) (s : State) (arm : Arm) (now : Word) :
    judgeArm s .plain arm ((acceptFrame r s).setSup arm (startedSup now ((acceptFrame r s).sup.get arm))) =
      (acceptFrame r s).setSup arm (startedSup now ((acceptFrame r s).sup.get arm)) := by
  have moves := acceptFrame_moves r s arm
  have unlatched : latchedNow (s.sup.get arm) (startedSup now ((acceptFrame r s).sup.get arm)) = false := by
    rw [← Bool.not_eq_true, latchedNow_iff]
    rintro ⟨k, present, absent, -⟩
    obtain same | ended := moves.present k
    · exact Bool.false_ne_true (absent.symm.trans (same.symm.trans present))
    · exact Bool.false_ne_true (ended.symm.trans present)
  have starting : stateAfter (s.sup.get arm) (startedSup now ((acceptFrame r s).sup.get arm)) .plain arm = .starting := by
    rw [stateAfter_active (by simp [startedSup]), latchedBy, unlatched]
    simp [startedSup]
  rw [judgeArm, State.setSup_sup, PerArm.get_set_same, starting]
  simp [startedSup]

theorem armEnable_started (sound : SupervisorSound (s.sup.get arm)) (h : controls arm r s)
    (disabled : (s.sup.get arm).state = .disabled) (free : ¬ ∃ k, s.disabledBy.get arm = some k ∧ k ≠ r.link)
    (clear : recordedIn .latched (s.sup.get arm) = false) :
    let t := (frameEnded r.link s).setSup arm (startedSup s.cellTime ((frameEnded r.link s).sup.get arm))
    exec (.armEnable r) s = .next (answered r.link (supReply .ok arm t) t) := by
  have off : ((acceptFrame r.link s).sup.get arm).command = false := by
    rw [(acceptFrame_moves r.link s arm).command, sound.permit, disabled]; rfl
  intro t
  have ht : t = (acceptFrame r.link s).setSup arm (startedSup s.cellTime ((acceptFrame r.link s).sup.get arm)) := by
    rw [← h.frameEnded_of_disabled disabled]
  have taken : armEnable r.link arm (acceptFrame r.link s) = okay t := by
    rw [armEnable, if_neg (enable_refused_iff.not.mpr (not_or.mpr ⟨not_not.mpr disabled, free⟩)), latched_acceptFrame, clear,
      if_neg Bool.false_ne_true, start_eq off, acceptFrame_cellTime, ht]
  refine congrArg Host.Outcome.next (handleControl_unjudged h taken ?_ ?_ ?_) <;> rw [ht]
  · exact PerArm.get_set_other _ (otherArm_ne arm) _
  · exact judgeArm_started r.link s arm s.cellTime
  · rfl

end Enable

/-! ### ARM_DISABLE (R92) -/

section Disable
variable {arm : Arm} {r : Request} {s : State}

theorem armDisable_kept (h : controls arm r s) (disabled : (s.sup.get arm).state = .disabled) :
    exec (.armDisable r) s = .next (answered r.link (supReply .ok arm (frameEnded r.link s)) (frameEnded r.link s)) := by
  refine congrArg Host.Outcome.next (handleControl_kept (reply := .zeros .ok) h ?_)
  rw [armDisable_eq, if_pos ((acceptFrame_moves r.link s arm).state.trans disabled)]
  rfl

theorem armDisable_disabled (h : controls arm r s) (other : (s.sup.get arm).state ≠ .disabled) :
    let t := disabledState r.link arm (acceptFrame r.link s)
    exec (.armDisable r) s = .next (answered r.link (supReply .ok arm t) t) := by
  intro t
  have still : ((acceptFrame r.link s).sup.get arm).state ≠ .disabled := by
    rw [(acceptFrame_moves r.link s arm).state]; exact other
  have taken : armDisable r.link arm (acceptFrame r.link s) = okay t := by rw [armDisable_eq, if_neg still]
  have sup : t.sup = (acceptFrame r.link s).sup.set arm _ := disabledState_sup ..
  refine congrArg Host.Outcome.next (handleControl_unjudged h taken ?_ (judgeArm_of_disabled ?_ s .plain) ?_)
  · rw [sup]; exact PerArm.get_set_other _ (otherArm_ne arm) _
  · rw [sup, PerArm.get_set_same]; rfl
  · have reached := armDisable_unchangedBut_own r.link arm (acceptFrame r.link s)
    rw [taken] at reached
    exact reached (.port r.link) (by simp)

end Disable

/-! ### What is left of the arm -/

section Left
variable {arm : Arm} {r : Request} {s : State}

/-- The frame of a request of R90 at the supervisor of its arm: LINK ends on the arm's own link (R87, R97). -/
theorem controls.accept_own (h : controls arm r s) : ∃ timer, (acceptFrame r.link s).sup.get arm = { s.sup.get arm with
    present := if r.link = linkOf arm then { (s.sup.get arm).present with link := false } else (s.sup.get arm).present
    reportTimer := timer } := by
  obtain ⟨hl, -⟩ | ⟨⟨hl, -⟩, -⟩ := h
  · rw [hl, if_pos rfl, acceptFrame_own]; exact ⟨_, rfl⟩
  · have apart : Link.cell ≠ linkOf arm := by cases arm <;> decide
    rw [hl, if_neg apart]; exact ⟨_, rfl⟩

theorem controls.accept_unchangedBut (h : controls arm r s) :
    unchangedBut [.port r.link, .supervisor arm] s (acceptFrame r.link s) := by
  obtain ⟨hl, -⟩ | ⟨⟨hl, -⟩, -⟩ := h
  · rw [hl]; exact acceptFrame_arm_unchangedBut arm s
  · rw [hl]; exact unchangedBut_mono (by simp) (modPort_unchangedBut s .cell _)

theorem answered_unchangedBut (l : Link) (reply : Reply) (s : State) : unchangedBut [.port l] s (answered l reply s) :=
  modPort_unchangedBut s l fun _ => answeredPort reply

/-- What ARM_DISABLE reaches from an arm in another state than DISABLED (R92). -/
theorem armDisable_unchangedBut_answered (h : controls arm r s) (other : (s.sup.get arm).state ≠ .disabled) (reply : Reply) :
    unchangedBut [.port r.link, .supervisor arm, .claim arm, .zoneTable, .permitSource arm, .disabledBy arm] s
      (answered r.link reply (disabledState r.link arm (acceptFrame r.link s))) := by
  have still : ((acceptFrame r.link s).sup.get arm).state ≠ .disabled := by
    rw [(acceptFrame_moves r.link s arm).state]; exact other
  have reached := armDisable_unchangedBut_own r.link arm (acceptFrame r.link s)
  rw [armDisable_eq, if_neg still] at reached
  exact unchangedBut_trans (unchangedBut_mono (by simp) h.accept_unchangedBut) <|
    unchangedBut_trans (unchangedBut_mono (by simp) reached) <|
    unchangedBut_mono (by simp) (answered_unchangedBut r.link reply _)

theorem zoneAt_disabledState (l : Link) (arm : Arm) (s : State) (z : Fin 16) :
    zoneAt (disabledState l arm s) z = if (s.zones.claims.get arm).isSome = true ∧ (zoneAt s z).waiter = some arm then
      { zoneAt s z with waiter := none } else zoneAt s z := by
  have zones : (disableArm arm s).zones = s.zones := by simp [disableArm, State.modSup]
  have removed : zoneAt (disabledState l arm s) z = zoneAt (removeClaim arm (disableArm arm s)) z := rfl
  have same : zoneAt (disableArm arm s) z = zoneAt s z := by rw [zoneAt, zones, zoneAt]
  rw [removed, zoneAt_removeClaim, zones, same]

theorem disabledState_claim (l : Link) (arm : Arm) (s : State) : (disabledState l arm s).zones.claims.get arm = none := by
  have removed : (disabledState l arm s).zones.claims = (removeClaim arm (disableArm arm s)).zones.claims := rfl
  rw [removed, claims_removeClaim, PerArm.get_set_same]

end Left

/-! ### Falling together (R92) -/

section Together
variable {arm : Arm} {d e r : Request} {s t : State}

theorem answered_port (l k : Link) (reply : Reply) (s : State) :
    (answered l reply s).ports.get k = if k = l then answeredPort reply else s.ports.get k := by
  rw [answered, PerLink.get_set]

/-- A port that the event before leaves alone takes the frame as it did. -/
theorem controls.later (h : controls arm r s) (held : t.resetHeld = s.resetHeld)
    (port : t.ports.get r.link = s.ports.get r.link) : controls arm r t := by
  have takes (l : Link) (hl : r.link = l) (ht : takesFrame l s = true) : takesFrame l t = true := by
    rw [hl] at port
    rwa [takesFrame, held, port, ← takesFrame]
  obtain ⟨hl, ht⟩ | ⟨⟨hl, ht⟩, hsel⟩ := h
  · exact .inl ⟨hl, takes _ hl ht⟩
  · exact .inr ⟨⟨hl, takes _ hl ht⟩, hsel⟩

/-- What a frame on the link of `d` leaves to one on the link of `e`: its answer, and the port of `e` as it was. -/
structure LeavesTo (d e : Request) (s t : State) (code : ResultCode) : Prop where
  code : (t.ports.get d.link).reply.code = code
  held : t.resetHeld = s.resetHeld
  port : t.ports.get e.link = s.ports.get e.link

theorem LeavesTo.answered {reply : Reply} (apart : e.link ≠ d.link) (held : t.resetHeld = s.resetHeld)
    (port : t.ports.get e.link = s.ports.get e.link) : LeavesTo d e s (answered d.link reply t) reply.code where
  code := by rw [answered_port, if_pos rfl]; rfl
  held := held
  port := by rw [answered_port, if_neg apart]; exact port

theorem frameEnded_resetHeld (l : Link) (s : State) : (frameEnded l s).resetHeld = s.resetHeld :=
  (conclude_unchangedBut_judged s .plain _ .resetInput (by decide)).trans (by simp)

theorem frameEnded_port_other (apart : e.link ≠ d.link) (s : State) :
    (frameEnded d.link s).ports.get e.link = s.ports.get e.link := by
  rw [frameEnded_port, if_neg apart]

theorem LeavesTo.frame {code : ResultCode} (apart : e.link ≠ d.link) (arm : Arm) (s : State) :
    LeavesTo d e s (Machine.answered d.link (supReply code arm (frameEnded d.link s)) (frameEnded d.link s)) code :=
  .answered apart (frameEnded_resetHeld d.link s) (frameEnded_port_other apart s)

/-- No frame takes an arm to DISABLED by itself (Table 5.6). -/
theorem frameEnded_enabled (l : Link) (other : (s.sup.get arm).state ≠ .disabled) :
    ((frameEnded l s).sup.get arm).state ≠ .disabled := by
  have still : ((acceptFrame l s).sup.get arm).state ≠ .disabled := by
    rw [(acceptFrame_moves l s arm).state]; exact other
  obtain ⟨-, -, kept⟩ | moved := conclude_sup_cases s .plain (acceptFrame l s) arm
  · rw [frameEnded, kept]; exact still
  · rw [frameEnded, moved.state]; exact stateAfter_ne_disabled still

/-- An ARM_DISABLE that takes its arm out of another state than DISABLED (R92). -/
theorem armDisable_leaves (h : controls arm d s) (other : (s.sup.get arm).state ≠ .disabled) (apart : e.link ≠ d.link) :
    ∃ t, exec (.armDisable d) s = .next t ∧ LeavesTo d e s t .ok ∧ (t.sup.get arm).state = .disabled ∧
      t.disabledBy.get arm = some d.link := by
  have reached := armDisable_unchangedBut_answered h other
    (supReply .ok arm (disabledState d.link arm (acceptFrame d.link s)))
  have port := reached (.port e.link) (by simp [apart])
  refine ⟨_, armDisable_disabled h other, ⟨?_, reached .resetInput (by simp), port⟩, ?_, PerArm.get_set_same ..⟩
  · rw [answered_port, if_pos rfl]; rfl
  · change ((disabledState d.link arm (acceptFrame d.link s)).sup.get arm).state = _
    rw [disabledState_sup, PerArm.get_set_same]; rfl

/-- An ARM_DISABLE of a DISABLED arm (R92). -/
theorem armDisable_leaves_kept (h : controls arm d s) (disabled : (s.sup.get arm).state = .disabled)
    (apart : e.link ≠ d.link) :
    ∃ t, exec (.armDisable d) s = .next t ∧ LeavesTo d e s t .ok ∧ (t.sup.get arm).state = .disabled ∧
      recordedIn .latched (t.sup.get arm) = recordedIn .latched (s.sup.get arm) ∧
      t.disabledBy.get arm = s.disabledBy.get arm := by
  refine ⟨_, armDisable_kept h disabled, .frame apart arm s, ?_⟩
  rw [h.frameEnded_of_disabled disabled]
  refine ⟨(acceptFrame_moves d.link s arm).state.trans disabled, latched_acceptFrame d.link s arm, ?_⟩
  exact congrArg (·.get arm) (acceptFrame_disabledBy d.link s)

/-- An ARM_ENABLE that starts its arm (R91). -/
theorem armEnable_leaves (sound : SupervisorSound (s.sup.get arm)) (h : controls arm d s)
    (disabled : (s.sup.get arm).state = .disabled) (free : s.disabledBy.get arm = none)
    (clear : recordedIn .latched (s.sup.get arm) = false) (apart : e.link ≠ d.link) :
    ∃ t, exec (.armEnable d) s = .next t ∧ LeavesTo d e s t .ok ∧ (t.sup.get arm).state = .starting := by
  refine ⟨_, armEnable_started sound h disabled (by simp [free]) clear, .answered apart ?_ ?_, ?_⟩
  · exact frameEnded_resetHeld d.link s
  · exact frameEnded_port_other apart s
  · change (((frameEnded d.link s).setSup arm _).sup.get arm).state = _
    rw [State.setSup_sup, PerArm.get_set_same]; rfl

end Together

/-- Settles O34: each request by the branch that it takes, and the two orders by what the first leaves to the second. -/
theorem armEnableAndDisable : Obligations.ArmEnableAndDisable := by
  refine ⟨fun arm r s hs => ⟨fun hc hsel => ?_, fun h => ?_⟩, fun arm d e s hs links takes => ?_⟩
  · exact ⟨congrArg _ (handleControl_badSelector hc hsel _), congrArg _ (handleControl_badSelector hc hsel _)⟩
  · intro l v s1 words latched barred
    have sound : SupervisorSound v := supervisorsSound_iff.mp hs arm
    have hwords (code : ResultCode) (u : State) : words code u = supReply code arm u := (supReply_eq code arm u).symm
    have hlatched : recordedIn .latched v = true ↔ latched := recordedIn_iff
    simp only [hwords]
    refine ⟨fun no => armEnable_refused h no, fun disabled free set => ?_, fun disabled free clear => ?_,
      fun disabled => armDisable_kept h disabled, fun other => ?_⟩
    · exact armEnable_faulted h disabled free (hlatched.mpr set)
    · have clear : recordedIn .latched v = false := by rw [← Bool.not_eq_true, hlatched]; exact clear
      have settings : (s1.sup.get arm).settings = v.settings :=
        ((conclude_flags s .plain _).settings arm).trans (acceptFrame_moves r.link s arm).settings
      rw [← settings]
      exact armEnable_started sound h disabled free clear
    · obtain ⟨timer, own⟩ := controls.accept_own h
      refine ⟨_, armDisable_disabled h other, ?_, ?_, ?_, disabledState_claim r.link arm _, fun z => ?_, PerArm.get_set_same ..,
        armDisable_unchangedBut_answered h other _⟩
      · rw [answered_port, if_pos rfl]; rfl
      · change (disabledState r.link arm (acceptFrame r.link s)).sup.get arm = _
        rw [disabledState_sup, PerArm.get_set_same, acceptFrame_cellTime, own]; rfl
      · refine (disabledState_permit r.link arm _).trans ?_
        rw [own, acceptFrame_permit]; rfl
      · refine (zoneAt_disabledState r.link arm _ z).trans ?_
        rw [acceptFrame_zones, zoneAt_acceptFrame]
  · intro v ends
    have hd : controls arm d s := takes d (by simp)
    have he : controls arm e s := takes e (by simp)
    refine ⟨fun other => ⟨?_, ?_⟩, fun disabled clear free => ?_⟩
    · obtain ⟨t, ht, first, state, barred⟩ := armDisable_leaves hd other links.symm
      have later := he.later first.held first.port
      have second : LeavesTo e d t _ .state := .frame links arm t
      refine ⟨t, ht, _, armEnable_refused later (.inr ⟨d.link, barred, links⟩), ?_, second.code, ?_⟩
      · rw [second.port]; exact first.code
      · change ((frameEnded e.link t).sup.get arm).state = _
        rw [later.frameEnded_of_disabled state, (acceptFrame_moves e.link t arm).state]; exact state
    · have first : LeavesTo e d s _ .state := .frame links arm s
      have later := hd.later first.held first.port
      obtain ⟨u, hu, second, state, -⟩ := armDisable_leaves later (frameEnded_enabled e.link other) links.symm
      exact ⟨_, armEnable_refused he (.inl other), u, hu, second.code, by rw [second.port]; exact first.code, state⟩
    have unlatched : recordedIn .latched v = false := by
      rw [← Bool.not_eq_true, recordedIn_iff]
      rintro ⟨k, recorded, mode⟩
      exact clear k recorded mode
    constructor
    · obtain ⟨t, ht, first, state, latched, barred⟩ := armDisable_leaves_kept hd disabled links.symm
      have sound := supervisorsSound_iff.mp (supervisorsSound_exec _ _ _ ht hs) arm
      obtain ⟨u, hu, second, started⟩ := armEnable_leaves sound (he.later first.held first.port) state (barred.trans free)
        (latched.trans unlatched) links
      exact ⟨t, ht, u, hu, by rw [second.port]; exact first.code, second.code, started⟩
    · obtain ⟨t, ht, first, state⟩ :=
        armEnable_leaves (supervisorsSound_iff.mp hs arm) he disabled free unlatched links
      obtain ⟨u, hu, second, ended, -⟩ :=
        armDisable_leaves (hd.later first.held first.port) (by rw [state]; simp) links.symm
      exact ⟨t, ht, u, hu, second.code, by rw [second.port]; exact first.code, ended⟩

end Sys2Proof.Machine
end

section
/-! PROOFS. The mounting of a take probe at the end of a change, and ARM_RESET (R93, R114, R129, R133, R157). -/

namespace Sys2Proof.Machine

/-! ### What a frame's acceptance leaves alone -/

theorem acceptFrame_attn (l : Link) (s : State) : (acceptFrame l s).attn = s.attn := by
  have arms (arm : Arm) : (acceptFrame (linkOf arm) s).attn = s.attn := by rw [acceptFrame_arm]; rfl
  cases l
  · exact arms .a
  · exact arms .b
  · rfl

/-! ### The mount of a take probe -/

section Mount
variable {s t : State} {arm : Arm} {e : Fin 14} {p : Probe}

/-- The mount check takes a QUALIFIED probe whose drift test is true (R114). -/
def dueAtMount (s : State) (p : Probe) : Bool := decide (p.qual = .qualified) && drifts s p

/-- A probe whose reservation for the arm is cleared (R129). -/
def unreserved (arm : Arm) (p : Probe) : Probe :=
  { p with reservation := if p.reservation = some arm then none else p.reservation }

/-- A probe as its mount leaves it: the reservation for its arm cleared and the mount check made (R129). -/
def mountedProbe (s : State) (arm : Arm) (p : Probe) : Probe :=
  { unreserved arm p with qual := if dueAtMount s p then .due else p.qual }

theorem rackTemperature_congr (temp : t.temp = s.temp) : rackTemperature t = rackTemperature s := by
  have valid : validTfs t = validTfs s := by funext role; rw [validTfs, temp, validTfs]
  simp only [rackTemperature, rackReading, airMean, valid]

theorem drifts_congr (temp : t.temp = s.temp) (limit : t.registry.driftLimit = s.registry.driftLimit) (p : Probe) :
    drifts t p = drifts s p := by
  rw [drifts, rackTemperature_congr temp, limit, drifts]

/-- The later of two records written at an entry stands. -/
theorem setEntry_setEntry (s : State) (e : Fin 14) (p q : Option Probe) : (s.setEntry e p).setEntry e q = s.setEntry e q := by
  have entries : vput (vput s.registry.entries e p) e q = vput s.registry.entries e q :=
    vext fun i => by by_cases hi : i = e <;> simp [hi]
  exact congrArg (fun x => { s with registry := { s.registry with entries := x } }) entries

theorem dueAtMount_acceptFrame (l : Link) (s : State) : dueAtMount (acceptFrame l s) = dueAtMount s := by
  funext p
  rw [dueAtMount, drifts_congr (acceptFrame_temp l s) (by rw [acceptFrame_registry]), dueAtMount]

theorem headProbe_congr (entries : t.registry.entries = s.registry.entries) (arm : Arm) : headProbe t arm = headProbe s arm := by
  have entry : entryAt t = entryAt s := by funext e; rw [entryAt, entries, entryAt]
  rw [headProbe, findProbe, entry, headProbe, findProbe]

theorem mountTake_of_none (h : headProbe s arm = none) : mountTake arm s = s := by rw [mountTake, h]

/-- All that the mount of a take probe does (R129). -/
theorem mountTake_of_some (h : headProbe s arm = some e) (hp : entryAt s e = some p) : mountTake arm s =
    if dueAtMount s p then raiseProbe e (s.setEntry e (some (mountedProbe s arm p)))
    else s.setEntry e (some (mountedProbe s arm p)) := by
  have cleared : s.modProbe e (unreserved arm) = s.setEntry e (some (unreserved arm p)) := by rw [State.modProbe, hp]; rfl
  have entry : entryAt (s.setEntry e (some (unreserved arm p))) e = some (unreserved arm p) :=
    (entryAt_setEntry ..).trans (if_pos rfl)
  have eq : mountTake arm s = mountCheck e (s.setEntry e (some (unreserved arm p))) := by
    rw [mountTake, h, ← cleared]; rfl
  have drift : drifts (s.setEntry e (some (unreserved arm p))) (unreserved arm p) = drifts s p := drifts_congr rfl rfl _
  have qual : (unreserved arm p).qual = p.qual := rfl
  rw [eq, mountCheck_spec entry, drift, qual]
  cases hd : dueAtMount s p
  · rw [if_neg (by simpa [dueAtMount] using hd), mountedProbe, hd]; rfl
  · rw [if_pos (by simpa [dueAtMount] using hd), mountedProbe, hd, setEntry_setEntry]; rfl

theorem entryAt_mountTake (h : headProbe s arm = some e) (hp : entryAt s e = some p) (f : Fin 14) :
    entryAt (mountTake arm s) f = if f = e then some (mountedProbe s arm p) else entryAt s f := by
  rw [mountTake_of_some h hp]
  split <;> exact entryAt_setEntry ..

theorem probeSource_mountTake (h : headProbe s arm = some e) (hp : entryAt s e = some p) :
    (mountTake arm s).attn.cell.probe =
      if dueAtMount s p then s.attn.cell.probe.raise (addMark · e.val) else s.attn.cell.probe := by
  rw [mountTake_of_some h hp]
  split <;> rfl

end Mount

/-! ### An open change resolved without fault (R133) -/

/-- The one member of a finite range with a property is the first with it. -/
theorem find?_finRange_eq_some {n : Nat} {p : Fin n → Bool} {i : Fin n} (hi : p i = true)
    (only : ∀ j, p j = true → j = i) : (List.finRange n).find? p = some i := by
  cases h : (List.finRange n).find? p with
  | none =>
    have no := List.find?_eq_none.mp h i (List.mem_finRange i)
    exact absurd hi no
  | some j => rw [only j (List.find?_some h)]

theorem find?_finRange_eq_none {n : Nat} {p : Fin n → Bool} (all : ∀ i, p i = false) : (List.finRange n).find? p = none :=
  List.find?_eq_none.mpr fun i _ => by simp [all i]

section ResetChange
variable (arm : Arm) (s : State)

/-- ARM_RESET mounts the probe on the head: the change of its arm stands in FINISH with a take id (R133). -/
def resetMounts (e : Fin 14) : Bool :=
  decide ((s.rack.changes.get arm).phase = .finish ∧ (s.rack.changes.get arm).takeId ≠ 0 ∧ headProbe s arm = some e)

theorem resetChange_change : (resetChange arm s).rack.changes.get arm =
    if (s.rack.changes.get arm).phase = .idle then s.rack.changes.get arm else closedContext .reset := by
  simp only [resetChange]
  split
  · rfl
  · exact PerArm.get_set_same ..

theorem giveBackSlot_kept {c : ChangeContext} (h : c.phase = .idle ∨ c.phase = .finish) (s : State) :
    giveBackSlot c s = s := by
  obtain h | h := h <;> rw [giveBackSlot, h]

theorem slotAt_resetChange (i : Fin 12) :
    slotAt (resetChange arm s) i = slotAt (giveBackSlot (s.rack.changes.get arm) s) i := by
  simp only [resetChange]
  split
  · next idle => rw [giveBackSlot_kept (.inl idle)]
  have closed (u : State) : slotAt (closeChange arm .reset u) i = slotAt u i := rfl
  rw [closed]
  split
  · have slots := mountTake_unchangedBut arm (giveBackSlot (s.rack.changes.get arm) s) .slots (by simp)
    rw [slotAt, slots, ← slotAt]
  · rfl

/-- A change that has not reached FINISH with a take id resolves without a mount. -/
theorem resetChange_unmounted (h : ∀ e, resetMounts arm s e = false) :
    (resetChange arm s).registry.entries = s.registry.entries ∧ (resetChange arm s).attn.cell.probe = s.attn.cell.probe := by
  have given (c : ChangeContext) : (giveBackSlot c s).registry.entries = s.registry.entries ∧
      (giveBackSlot c s).attn.cell.probe = s.attn.cell.probe :=
    ⟨giveBackSlot_unchangedBut c s .entries (by simp), giveBackSlot_unchangedBut c s .probeSource (by simp)⟩
  simp only [resetChange]
  split
  · exact ⟨rfl, rfl⟩
  split
  · next finish =>
    have free : headProbe s arm = none := by
      cases head : headProbe s arm with
      | none => rfl
      | some e => exact absurd ⟨finish.1, finish.2, head⟩ (of_decide_eq_false (h e))
    rw [giveBackSlot_kept (.inr finish.1), mountTake_of_none free]
    exact ⟨rfl, rfl⟩
  · exact given _

/-- A change in FINISH with a take id mounts the probe on the head. -/
theorem resetChange_mounted {e : Fin 14} {p : Probe} (h : resetMounts arm s e = true) (hp : entryAt s e = some p) :
    (∀ f, entryAt (resetChange arm s) f = if f = e then some (mountedProbe s arm p) else entryAt s f) ∧
    (resetChange arm s).attn.cell.probe =
      if dueAtMount s p then s.attn.cell.probe.raise (addMark · e.val) else s.attn.cell.probe := by
  obtain ⟨finish, take, head⟩ := of_decide_eq_true h
  have open_ : (s.rack.changes.get arm).phase ≠ .idle := by rw [finish]; simp
  have eq : resetChange arm s = closeChange arm .reset (mountTake arm s) := by
    simp only [resetChange]
    rw [if_neg open_, if_pos ⟨finish, take⟩, giveBackSlot_kept (.inr finish)]
  rw [eq]
  exact ⟨entryAt_mountTake head hp, probeSource_mountTake head hp⟩

end ResetChange

end Sys2Proof.Machine
end

section
/-! PROOFS. ARM_RESET (R93). -/

namespace Sys2Proof.Machine

/-! ### The mount of an open change in FINISH -/

section Mounts
variable (arm : Arm) (s : State)

/-- ARM_RESET mounts the probe of an entry and its mount check takes it (R114). -/
def resetDrifts (e : Fin 14) : Bool := resetMounts arm s e && (entryAt s e).any (dueAtMount s)

theorem resetMounts_acceptFrame (l : Link) : resetMounts arm (acceptFrame l s) = resetMounts arm s := by
  funext e
  rw [resetMounts, headProbe_congr (s := s) (by rw [acceptFrame_registry]), acceptFrame_rack, resetMounts]

/-- The registry and PROBE attention after the resolution of a change (R133). -/
theorem resetChange_mounts :
    (∀ e, entryAt (resetChange arm s) e = if resetMounts arm s e then
      (entryAt s e).map fun p => { unreserved arm p with qual := if resetDrifts arm s e then .due else p.qual }
      else entryAt s e) ∧
    (resetChange arm s).attn.cell.probe = ((List.finRange 14).find? (resetDrifts arm s)).elim s.attn.cell.probe fun e =>
      s.attn.cell.probe.raise (addMark · e.val) := by
  by_cases mounts : ∃ e, resetMounts arm s e = true
  · obtain ⟨e, mounts⟩ := mounts
    obtain ⟨-, -, head⟩ := of_decide_eq_true mounts
    have only (f : Fin 14) (hf : resetMounts arm s f = true) : f = e := by
      obtain ⟨-, -, other⟩ := of_decide_eq_true hf
      exact Option.some.inj (other.symm.trans head)
    obtain ⟨p, hp, -⟩ := (findProbe_some head).1
    obtain ⟨entries, source⟩ := resetChange_mounted arm s mounts hp
    have drifts : resetDrifts arm s e = dueAtMount s p := by rw [resetDrifts, mounts, hp]; rfl
    refine ⟨fun f => ?_, ?_⟩
    · rw [entries]
      by_cases hf : f = e
      · rw [if_pos hf, hf, if_pos mounts, hp, drifts]; rfl
      · rw [if_neg hf, if_neg fun other => hf (only f other)]
    · rw [source]
      split
      · next due => rw [find?_finRange_eq_some (drifts.trans due) fun f hf => only f (Bool.and_eq_true_iff.mp hf).1]; rfl
      · next kept =>
        rw [find?_finRange_eq_none fun f => ?_]; · rfl
        rw [← Bool.not_eq_true]
        intro hf
        rw [only f (Bool.and_eq_true_iff.mp hf).1, drifts] at hf
        exact kept hf
  · have off (e : Fin 14) : resetMounts arm s e = false := Bool.eq_false_iff.mpr fun on => mounts ⟨e, on⟩
    obtain ⟨entries, source⟩ := resetChange_unmounted arm s off
    refine ⟨fun e => ?_, ?_⟩
    · rw [off e, entryAt, entries]; rfl
    · rw [source, find?_finRange_eq_none fun e => by rw [resetDrifts, off e, Bool.false_and]]; rfl

end Mounts

/-! ### The event -/

section Reset
variable {arm : Arm} {s : State}

/-- The permit sense as ARM_RESET judges it: PERMIT_MISMATCH alone, where no settle window runs and the level is on. -/
def mismatchAlone (b : Bool) : PerCause Bool := ⟨false, false, false, false, b, false⟩

/-- The permit sense judged on a supervisor just reset (R93, R100). -/
theorem judgeSense_reset {b : Bool} {now : Word} {v : Supervisor} (own : s.sup.get arm = resetSup now v)
    (hb : b = (decide ((resetSup now v).window = none) && v.sense)) :
    (judgeSense arm s).sup.get arm = { resetSup now v with present := mismatchAlone b, recorded := mismatchAlone b } ∧
    (judgeSense arm s).attn.cell.fault =
      if b then s.attn.cell.fault.raise (addMark · (armIndex arm)) else s.attn.cell.fault := by
  cases hw : (resetSup now v).window with
  | some w =>
    have off : b = false := by simp [hb, hw]
    have same : judgeSense arm s = s := by simp [judgeSense, own, hw]
    rw [same, own, off]
    exact ⟨rfl, rfl⟩
  | none =>
    have on : b = v.sense := by simp [hb, hw]
    have now_ : decide ((resetSup now v).sense ≠ (resetSup now v).command) = b := by rw [on]; simp [resetSup, disabledSup]
    rw [judgeSense_of_no_window (by rw [own, hw]), setPresent_spec, own, now_]
    cases b with
    | false =>
      rw [if_neg (by simp)]
      exact ⟨PerArm.get_set_same .., rfl⟩
    | true =>
      rw [if_pos ⟨rfl, rfl, by simp [Supervisor.mode, modeOf]⟩]
      exact ⟨PerArm.get_set_same .., rfl⟩

/-- The blocks that ARM_RESET makes absent, and those that it takes from the change resolved (R93, R157). -/
theorem resetRecords_cleared (arm : Arm) (s : State) : let u := resetRecords arm s
    u.lastPos.get arm = none ∧ u.zones.guards.get arm = none ∧
    u.touch.queues.get arm = { s.touch.queues.get arm with blankTimer := none } ∧
    u.attn.arms.get arm = clearUnit (s.attn.arms.get arm) ∧ u.attn.cell.fault = s.attn.cell.fault := by
  have reached : unchangedBut [.slots, .entries, .probeSource, .change arm, .zoneTable, .claim arm, .supervisor arm] s
      (resetSupervisor arm (removeClaim arm (resetChange arm s))) :=
    unchangedBut_last (resetSupervisor_unchangedBut arm _) (by simp) <|
    unchangedBut_last (removeClaim_unchangedBut arm _) (by simp) <|
    unchangedBut_mono (by simp) (resetChange_unchangedBut_own arm s)
  have records : resetRecords arm s = clearRecords arm (resetSupervisor arm (removeClaim arm (resetChange arm s))) := rfl
  generalize resetSupervisor arm (removeClaim arm (resetChange arm s)) = u at reached records
  have queue : u.touch.queues.get arm = s.touch.queues.get arm := reached (.queue arm) (by simp)
  have unit : clearUnit (u.attn.arms.get arm) = clearUnit (s.attn.arms.get arm) := by
    rw [clearUnit, reached (.armMaster arm) (by simp), reached (.permitSource arm) (by simp),
      reached (.changeSource arm) (by simp), reached (.claimSource arm) (by simp), reached (.compSource arm) (by simp)]
    rfl
  rw [records]
  exact ⟨PerArm.get_set_same .., PerArm.get_set_same .., by rw [← queue]; exact PerArm.get_set_same ..,
    by rw [← unit]; exact PerArm.get_set_same .., reached .faultSource (by simp)⟩

theorem judgeSense_arms (arm : Arm) (s : State) : (judgeSense arm s).attn.arms = s.attn.arms := by
  rw [judgeSense]
  split
  · rfl
  · exact setPresent_arms ..

/-- What ARM_RESET leaves of its change, the slots and the registry is what the resolution leaves (R133). -/
theorem armReset_resolved (arm : Arm) (s : State) :
    unchangedBut [.lastPos arm, .guard arm, .zoneTable, .claim arm, .supervisor arm, .faultSource, .queue arm, .armMaster arm,
      .permitSource arm, .changeSource arm, .claimSource arm, .compSource arm] (resetChange arm s) (armReset arm s).st :=
  unchangedBut_last (judgeSense_unchangedBut arm _) (by simp) <|
  unchangedBut_last (setArmUnit_unchangedBut _ arm _) (by simp) <|
  unchangedBut_last (setQueue_unchangedBut _ arm _) (by simp) <|
  unchangedBut_last (setGuard_unchangedBut _ arm none) (by simp) <|
  unchangedBut_last (setLastPos_unchangedBut _ arm none) (by simp) <|
  unchangedBut_last (resetSupervisor_unchangedBut arm _) (by simp) <|
  unchangedBut_mono (by simp) (removeClaim_unchangedBut arm _)

/-- ARM_RESET of an arm ends with its answer and nothing judged: the arm is DISABLED (R93). -/
theorem armReset_taken {r : Request} (h : controls arm r s) : let t := (armReset arm (acceptFrame r.link s)).st
    exec (.armReset r) s = .next (answered r.link (supReply .ok arm t) t) := by
  intro t
  have reached : unchangedBut (ownResetBlocks arm) (acceptFrame r.link s) t := armReset_unchangedBut_own arm _
  refine congrArg Host.Outcome.next (handleControl_unjudged (reply := .zeros .ok) h rfl ?_ (judgeArm_of_disabled ?_ s .plain) ?_)
  · exact supOf_unchangedBut reached (by cases arm <;> decide)
  · have moves := judgeSense_moves arm (resetRecords arm (acceptFrame r.link s))
    exact moves.state.trans (by rw [resetRecords_sup, PerArm.get_set_same]; rfl)
  · exact reached (.port r.link) (by cases arm <;> exact of_decide_eq_true rfl)

end Reset

/-- Settles O35: nothing is judged after ARM_RESET, and each block is as its own part of the event leaves it. -/
theorem armResetClearsTheArm : Obligations.ArmResetClearsTheArm := by
  refine fun arm r s => ⟨fun hc hsel => congrArg _ (handleControl_badSelector hc hsel _), fun h => ?_⟩
  intro v c u window mismatch only
  obtain ⟨timer, own⟩ := controls.accept_own h
  have accepted := controls.accept_unchangedBut h
  have own' : (resetRecords arm (acceptFrame r.link s)).sup.get arm =
      resetSup s.cellTime ((acceptFrame r.link s).sup.get arm) := by
    rw [resetRecords_sup, PerArm.get_set_same, acceptFrame_cellTime]
  have hb : mismatch = (decide ((resetSup s.cellTime ((acceptFrame r.link s).sup.get arm)).window = none) &&
      ((acceptFrame r.link s).sup.get arm).sense) := by rw [own]; rfl
  obtain ⟨sup, fault⟩ := judgeSense_reset own' hb
  obtain ⟨lastPos, guards, queue, unit, faultKept⟩ := resetRecords_cleared arm (acceptFrame r.link s)
  obtain ⟨table, claims⟩ := armReset_zones arm (acceptFrame r.link s)
  have resolved := armReset_resolved arm (acceptFrame r.link s)
  have judged := judgeSense_unchangedBut arm (resetRecords arm (acceptFrame r.link s))
  refine ⟨_, armReset_taken h, ?_, ?_, ?_, ?_, ?_, ?_, fun z => ?_, ?_, ?_, ?_, fun i => ?_, ?_, ?_⟩
  · have answer : ((armReset arm (acceptFrame r.link s)).st.sup.get arm) = _ := sup
    rw [answered_port, if_pos rfl, supReply_eq, answer]; rfl
  · refine Eq.trans sup ?_
    rw [own]; rfl
  · refine Eq.trans fault ?_
    rw [faultKept, acceptFrame_attn]
  · exact (judged (.lastPos arm) (by simp)).trans lastPos
  · exact (judged (.guard arm) (by simp)).trans guards
  · refine (congrArg (·.get arm) claims).trans ?_
    rw [claims_removeClaim]; exact PerArm.get_set_same ..
  · have zone : zoneAt (armReset arm (acceptFrame r.link s)).st z = zoneAt (removeClaim arm (acceptFrame r.link s)) z :=
      congrArg (vget · z) table
    refine Eq.trans zone ?_
    rw [zoneAt_removeClaim, acceptFrame_zones, zoneAt_acceptFrame]
  · refine (judged (.queue arm) (by simp)).trans ?_
    rw [queue, acceptFrame_touch]
  · refine Eq.trans (congrArg (·.get arm) (judgeSense_arms arm (resetRecords arm _))) (Eq.trans unit ?_)
    rw [acceptFrame_attn]; rfl
  · refine (resolved (.change arm) (by simp)).trans ?_
    rw [resetChange_change, acceptFrame_rack]; rfl
  · refine (congrArg (vget · i) (resolved .slots (by simp))).trans ?_
    refine (slotAt_resetChange arm _ i).trans ?_
    rw [slotAt_giveBackSlot, slotAt_acceptFrame, acceptFrame_rack]
  · intro mounts drifted
    obtain ⟨entries, source⟩ := resetChange_mounts arm (acceptFrame r.link s)
    have hm : resetMounts arm (acceptFrame r.link s) = mounts := resetMounts_acceptFrame arm s r.link
    have entry : entryAt (acceptFrame r.link s) = entryAt s := funext (entryAt_acceptFrame r.link s)
    have hd : resetDrifts arm (acceptFrame r.link s) = drifted := by
      funext e
      rw [resetDrifts, hm, entry, dueAtMount_acceptFrame]; rfl
    rw [hm, hd, entry] at entries
    rw [hd, acceptFrame_attn] at source
    refine ⟨fun e => ?_, (resolved .probeSource (by simp)).trans source⟩
    exact (congrArg (vget · e) (resolved .entries (by simp))).trans (entries e)
  · have reached := armReset_unchangedBut_own arm (acceptFrame r.link s)
    refine unchangedBut_trans (unchangedBut_mono (by simp) accepted) <|
      unchangedBut_trans (unchangedBut_mono ?_ reached) (unchangedBut_mono (by simp) (answered_unchangedBut r.link _ _))
    cases arm <;> simp [ownResetBlocks]

end Sys2Proof.Machine
end

section
/-! PROOFS. ARM_SET on the Cell link: its refusals in order, and the part that it writes (R81, R82, R174). -/

namespace Sys2Proof.Machine

/-! ### The modes of part 2 -/

theorem modeOfCode_num (m : Mode) : modeOfCode m.num = some m := by cases m <;> rfl

theorem num_of_modeOfCode {n : Nat} {m : Mode} (h : modeOfCode n = some m) : m.num = n :=
  match n, h with
  | 0, rfl => rfl
  | 1, rfl => rfl
  | 2, rfl => rfl
  | 3, rfl => rfl

theorem Mode.num_le (m : Mode) : m.num ≤ 3 := by cases m <;> decide

/-- The codes of part 2 that name no modes, or an OVERDUE mode that is OFF (R81). -/
def badModes (w : Word) : Prop := 3 < byteOf w 0 ∨ 2 < byteOf w 1 ∨ 3 < byteOf w 2 ∨ 3 < byteOf w 3

theorem not_badModes_of_some {w : Word} {m : Modes} (h : modesOf w = some m) : ¬ badModes w := by
  simp only [modesOf, Option.bind_eq_bind, Option.bind_eq_some_iff] at h
  obtain ⟨g, hg, o, ho, k, hk, l, hl, h⟩ := h
  split at h
  · cases h
  next on =>
  have overdue : o.num ≤ 2 := by
    cases o
    case off => exact absurd rfl on
    all_goals decide
  rw [badModes, ← num_of_modeOfCode hg, ← num_of_modeOfCode ho, ← num_of_modeOfCode hk, ← num_of_modeOfCode hl]
  have := g.num_le
  have := k.num_le
  have := l.num_le
  omega

theorem modesOf_eq_none {w : Word} (h : badModes w) : modesOf w = none := by
  cases hm : modesOf w with
  | none => rfl
  | some m => exact absurd h (not_badModes_of_some hm)

theorem modesOf_eq_some {w : Word} {g o k l : Mode} (h : ¬ badModes w) (hg : g.num = byteOf w 0) (ho : o.num = byteOf w 1)
    (hk : k.num = byteOf w 2) (hl : l.num = byteOf w 3) : modesOf w = some ⟨g, o, k, l⟩ := by
  have on : o ≠ .off := by
    rintro rfl
    exact h (.inr (.inl (by rw [← ho]; decide)))
  simp [modesOf, ← hg, ← ho, ← hk, ← hl, modeOfCode_num, on]

/-! ### The request -/

section Request
variable {arm : Arm} {r : Request} {s : State}

/-- The refusal of ARM_SET for an arm, by its first failing check (R81). -/
def armSetRefusal (r : Request) (v : Supervisor) : Option ResultCode :=
  if 2 < r.d0.toNat then some .badSelector
  else if v.state ≠ .disabled then some .state
  else if r.d0 = 0 ∧ (10000000 < r.d1.toNat ∨ r.d2.toInt < -2000000000 ∨ 2000000000 < r.d2.toInt) then some .outOfRange
  else if r.d0 = 1 ∧ (5000000 < r.d1.toNat ∨ 7 < byteOf r.d2 0 ∨ 1 < byteOf r.d2 1) then some .outOfRange
  else if r.d0 = 2 ∧ (3 < byteOf r.d1 0 ∨ 2 < byteOf r.d1 1 ∨ 3 < byteOf r.d1 2 ∨ 3 < byteOf r.d1 3) then some .outOfRange
  else none

theorem not_inCounts_iff {x : Int} : ¬ inCounts x = true ↔ x < -2000000000 ∨ 2000000000 < x := by
  rw [inCounts_iff]
  omega

/-- The three parts that ARM_SET writes. -/
theorem word_part_cases {w : Word} (h : ¬ 2 < w.toNat) : w = 0 ∨ w = 1 ∨ w = 2 := by bv_omega

theorem armSet_part0 (ha : armOfSel r.sel = some arm) (disabled : (s.sup.get arm).state = .disabled) (h : r.d0 = 0) :
    armSet r s =
      if 10000000 < r.d1.toNat ∨ r.d2.toInt < -2000000000 ∨ 2000000000 < r.d2.toInt then refuse .outOfRange s
      else okay (s.setSettings arm { (s.sup.get arm).settings with halfWidth := r.d1.toNat, freeReach := r.d2.toInt }) := by
  simp only [← not_inCounts_iff]
  simp [armSet, ha, disabled, h]

theorem armSet_part1 (ha : armOfSel r.sel = some arm) (disabled : (s.sup.get arm).state = .disabled) (h : r.d0 = 1) :
    armSet r s = if 5000000 < r.d1.toNat ∨ 7 < byteOf r.d2 0 ∨ 1 < byteOf r.d2 1 then refuse .outOfRange s
      else okay (s.setSettings arm { (s.sup.get arm).settings with
        margin := r.d1.toNat, timeoutCode := BitVec.ofNat 3 (byteOf r.d2 0)
        reportAny := decide (byteOf r.d2 1 = 1) }) := by
  simp [armSet, ha, disabled, h]

theorem armSet_part2 (ha : armOfSel r.sel = some arm) (disabled : (s.sup.get arm).state = .disabled) (h : r.d0 = 2) :
    armSet r s = (modesOf r.d1).elim (refuse .outOfRange s) fun modes => okay (setModes arm modes s) := by
  have part : armSet r s = armSet { r with d0 := 2 } s := by rw [← h]
  rw [part]
  cases hm : modesOf r.d1 <;> simp [armSet, ha, disabled, hm]

theorem armSet_refused {code : ResultCode} (ha : armOfSel r.sel = some arm)
    (h : armSetRefusal r (s.sup.get arm) = some code) : armSet r s = refuse code s := by
  unfold armSetRefusal at h
  by_cases part : 2 < r.d0.toNat
  · rw [if_pos part] at h
    cases h
    simp only [armSet, ha, if_pos part]
  rw [if_neg part] at h
  by_cases state : (s.sup.get arm).state ≠ .disabled
  · rw [if_pos state] at h
    cases h
    simp only [armSet, ha, if_neg part, if_pos state]
  rw [if_neg state] at h
  obtain zero | one | two := word_part_cases part
  · simp [zero] at h
    obtain ⟨bad, rfl⟩ := h
    rw [armSet_part0 ha (not_not.mp state) zero, if_pos bad]
  · simp [one] at h
    obtain ⟨bad, rfl⟩ := h
    rw [armSet_part1 ha (not_not.mp state) one, if_pos bad]
  · simp [two] at h
    obtain ⟨bad, rfl⟩ := h
    rw [armSet_part2 ha (not_not.mp state) two, modesOf_eq_none bad]; rfl

/-- What holds of an ARM_SET that is taken. -/
theorem armSetRefusal_eq_none {v : Supervisor} (h : armSetRefusal r v = none) : v.state = .disabled ∧
    (r.d0 = 0 → ¬ (10000000 < r.d1.toNat ∨ r.d2.toInt < -2000000000 ∨ 2000000000 < r.d2.toInt)) ∧
    (r.d0 = 1 → ¬ (5000000 < r.d1.toNat ∨ 7 < byteOf r.d2 0 ∨ 1 < byteOf r.d2 1)) ∧ (r.d0 = 2 → ¬ badModes r.d1) := by
  unfold armSetRefusal at h
  split at h; · cases h
  split at h; · cases h
  next state =>
  split at h; · cases h
  next zero =>
  split at h; · cases h
  next one =>
  split at h; · cases h
  next two =>
  exact ⟨not_not.mp state, fun part bad => zero ⟨part, bad⟩, fun part bad => one ⟨part, bad⟩, fun part bad => two ⟨part, bad⟩⟩

/-- On the Cell link an event that leaves every present flag ends with the answer at the port. -/
theorem handleRequest_cell_of_still {act : State → Act} {t : State} (hc : onCell r s)
    (still : ∀ k, (t.sup.get k).present = (s.sup.get k).present) (h : act (acceptFrame .cell s) = okay (acceptFrame .cell t)) :
    handleRequest .cellLink r.link act s = answered .cell { code := .ok, d0 := 0, d1 := 0, d2 := 0 } t := by
  rw [handleRequest_onCell hc act h, endEvent, conclude_same s (acceptFrame .cell t) still]
  rfl

/-- ARM_SET that writes the settings of its arm. -/
theorem armSet_wrote (hc : onCell r s) {x : ArmSettings}
    (h : armSet r (acceptFrame .cell s) = okay ((acceptFrame .cell s).setSettings arm x)) :
    exec (.armSet r) s = .next (answered .cell { code := .ok, d0 := 0, d1 := 0, d2 := 0 }
      (s.setSup arm { s.sup.get arm with settings := x })) := by
  refine congrArg Host.Outcome.next (handleRequest_cell_of_still hc (fun k => ?_) h)
  by_cases hk : k = arm <;> simp [hk]

/-- ARM_SET that writes the modes of its arm (R82). -/
theorem armSet_remoded (hc : onCell r s) {modes : Modes}
    (h : armSet r (acceptFrame .cell s) = okay (setModes arm modes (acceptFrame .cell s))) :
    exec (.armSet r) s = .next (answered .cell { code := .ok, d0 := 0, d1 := 0, d2 := 0 }
      ((faultIf (someTurnsOn (s.sup.get arm).settings.modes modes (s.sup.get arm).present) arm s).setSup arm
        (remoded modes (s.sup.get arm)))) := by
  have own : (acceptFrame .cell s).sup = s.sup := rfl
  refine congrArg Host.Outcome.next (handleRequest_cell_of_still hc (fun k => ?_) (h.trans ?_))
  · by_cases hk : k = arm <;> simp [hk, remoded]
  · rw [setModes_eq, own]
    cases someTurnsOn (s.sup.get arm).settings.modes modes (s.sup.get arm).present <;> rfl

end Request

/-- Settles O37: the refusals by the first failing check, and the three parts by what each writes. -/
theorem armSetWritesOnePart : Obligations.ArmSetWritesOnePart := by
  refine fun r s => ⟨deniedToArms_of_cellLink rfl, fun hc => ⟨fun hsel => ?_, fun arm harm => ?_⟩⟩
  · refine congrArg _ (handleRequest_cell_of_refuse hc ?_)
    simp only [armSet, armOfSel_eq_none hsel]
  intro v byte refusal wrote
  have ha : armOfSel r.sel = some arm := armOfSel_eq_some harm.symm
  have hbyte (w : Word) (k : Nat) : byte w k = byteOf w k := (byteOf_eq w k).symm
  have hrefusal : refusal = armSetRefusal r v := by simp only [refusal, hbyte]; rfl
  have own : (acceptFrame .cell s).sup.get arm = v := rfl
  rw [hrefusal]
  refine ⟨fun code h => ?_, fun h part => ?_, fun h part => ?_, fun h part g o k l hg ho hk hl => ?_⟩
  · exact congrArg _ (handleRequest_cell_of_refuse hc (armSet_refused ha h))
  · obtain ⟨disabled, good, -, -⟩ := armSetRefusal_eq_none h
    exact armSet_wrote hc ((armSet_part0 (s := acceptFrame .cell s) ha disabled part).trans (if_neg (good part)))
  · obtain ⟨disabled, -, good, -⟩ := armSetRefusal_eq_none h
    simp only [hbyte]
    exact armSet_wrote hc ((armSet_part1 (s := acceptFrame .cell s) ha disabled part).trans (if_neg (good part)))
  · obtain ⟨disabled, -, -, good⟩ := armSetRefusal_eq_none h
    intro m after fresh
    simp only [hbyte] at hg ho hk hl
    have taken := armSet_part2 (s := acceptFrame .cell s) ha disabled part
    rw [modesOf_eq_some (good part) hg ho hk hl] at taken
    exact armSet_remoded hc taken

end Sys2Proof.Machine
end

section
/-! PROOFS. The end of a change in fault, and the two timers of an arm at the rack (R88, R122, R132, R144). -/

namespace Sys2Proof.Machine

/-! ### A change that ends in fault (R88, R134) -/

section Fault
variable (arm : Arm) (outcome : ChangeOutcome) (s : State)

/-- The change of an arm closed with CHANGE_FAULT recorded and CHANGE attention raised (R88, R134). -/
def endFault : State := raiseChange arm (reportChangeFault arm (closeChange arm outcome s))

/-- CHANGE_FAULT is always LATCHED, so that it is recorded whenever it is reported (R82, R85). -/
theorem reportChangeFault_eq : reportChangeFault arm s = raiseFault arm (s.setSup arm { s.sup.get arm with
    recorded := { (s.sup.get arm).recorded with changeFault := true } }) := by
  rw [reportChangeFault, recordCause_spec, if_neg (by simp [Supervisor.mode, modeOf])]
  rfl

theorem endFault_unchangedBut :
    unchangedBut [.change arm, .supervisor arm, .faultSource, .changeSource arm] s (endFault arm outcome s) :=
  unchangedBut_last (raiseChange_unchangedBut _ arm) (by simp) <|
  unchangedBut_last (recordCause_unchangedBut arm .changeFault _) (by simp) <|
  unchangedBut_mono (by simp) (setChange_unchangedBut s arm (closedContext outcome))

theorem endFault_change : (endFault arm outcome s).rack.changes.get arm = closedContext outcome := by
  rw [endFault, reportChangeFault_eq]
  exact PerArm.get_set_same ..

theorem endFault_sup : (endFault arm outcome s).sup.get arm = { s.sup.get arm with
    recorded := { (s.sup.get arm).recorded with changeFault := true } } := by
  rw [endFault, reportChangeFault_eq]
  exact PerArm.get_set_same ..

theorem endFault_fault :
    (endFault arm outcome s).attn.cell.fault = s.attn.cell.fault.raise (addMark · (armIndex arm)) := by
  rw [endFault, reportChangeFault_eq]; rfl

theorem endFault_changeSource : ((endFault arm outcome s).attn.arms.get arm).change =
    (s.attn.arms.get arm).change.raise fun _ => some (.idle, outcome) := by
  have closed : (reportChangeFault arm (closeChange arm outcome s)).rack.changes.get arm = closedContext outcome := by
    rw [reportChangeFault_eq]; exact PerArm.get_set_same ..
  have source : (reportChangeFault arm (closeChange arm outcome s)).attn.arms = s.attn.arms := by
    rw [reportChangeFault_eq]; rfl
  rw [endFault, changeSource_raiseChange, closed, source]
  rfl

end Fault

/-! ### The slot of an expired change (R122) -/

section Blocked
variable (c : ChangeContext) (s : State)

/-- The expiry of a change blocks a slot: the put slot in DEPOSIT, the take slot in PICK (Table 7.5). -/
def blocks (i : Fin 12) : Bool := decide ((c.phase = .deposit ∧ c.putSlot = some i) ∨ (c.phase = .pick ∧ c.takeSlot = some i))

/-- The slot that the expiry of a change blocks. -/
def blockedBy : Option (Fin 12) :=
  match c.phase with
  | .deposit => c.putSlot
  | .pick => c.takeSlot
  | _ => none

theorem blocks_iff {c : ChangeContext} {i : Fin 12} : blocks c i = true ↔ blockedBy c = some i := by
  rw [blocks, blockedBy]
  cases c.phase <;> simp

theorem find?_blocks : (List.finRange 12).find? (blocks c) = blockedBy c := by
  cases h : blockedBy c with
  | none => exact find?_finRange_eq_none fun i => by rw [← Bool.not_eq_true, blocks_iff, h]; nofun
  | some i =>
    exact find?_finRange_eq_some (blocks_iff.mpr h) fun j hj => (Option.some.inj (h.symm.trans (blocks_iff.mp hj))).symm

theorem blockSlot_eq : blockSlot c s = (blockedBy c).elim s fun i =>
    raiseRack i (enterSlot i .blocked (if c.phase = .deposit then none else (slotAt s i).probe) s) := by
  rw [blockSlot, blockedBy]
  cases c.phase <;> simp

theorem slotAt_blockSlot (i : Fin 12) : slotAt (blockSlot c s) i = if blocks c i then
    { slotAt s i with state := .blocked, probe := if c.phase = .deposit then none else (slotAt s i).probe, lock := true }
    else slotAt s i := by
  rw [blockSlot_eq]
  cases h : blockedBy c with
  | none => rw [if_neg (by rw [blocks_iff, h]; nofun)]; rfl
  | some j =>
    have raised (u : State) : slotAt (raiseRack j u) i = slotAt u i := rfl
    rw [Option.elim_some, raised, slotAt_enterSlot]
    by_cases hi : i = j
    · subst hi
      rw [if_pos rfl, if_pos (blocks_iff.mpr h)]
      rfl
    · rw [if_neg hi, if_neg (by rw [blocks_iff, h, Option.some_inj]; exact fun no => hi no.symm)]

theorem rackSource_blockSlot : (blockSlot c s).attn.cell.rack =
    (blockedBy c).elim s.attn.cell.rack fun i => s.attn.cell.rack.raise (addMark · i.val) := by
  rw [blockSlot_eq]
  cases blockedBy c <;> rfl

theorem blockSlot_of_finish {c : ChangeContext} (h : c.phase = .finish) (s : State) : blockSlot c s = s := by
  rw [blockSlot, h]

end Blocked

/-! ### The expiry of a change -/

section Expire
variable {arm : Arm} {s : State}

/-- The change in FINISH with a take id: the take probe is on the head (R132). -/
def mountsTake (c : ChangeContext) : Prop := c.phase = .finish ∧ c.takeId ≠ 0

theorem expireChange_mounts (h : mountsTake (s.rack.changes.get arm)) :
    expireChange arm s = endFault arm .timedOut (startBlank arm (mountTake arm s)) := by
  have finish : (s.rack.changes.get arm).phase = .finish ∧ (s.rack.changes.get arm).takeId ≠ 0 := h
  simp only [expireChange]
  rw [blockSlot_of_finish h.1, if_pos finish, endFault]

theorem expireChange_blocks (h : ¬ mountsTake (s.rack.changes.get arm)) :
    expireChange arm s = endFault arm .timedOut (blockSlot (s.rack.changes.get arm) s) := by
  have other : ¬ ((s.rack.changes.get arm).phase = .finish ∧ (s.rack.changes.get arm).takeId ≠ 0) := h
  simp only [expireChange]
  rw [if_neg other, endFault]

theorem startBlank_unchangedBut_own (arm : Arm) (s : State) : unchangedBut [.queue arm] s (startBlank arm s) :=
  setQueue_unchangedBut s arm _

/-- The take probe mounted and the blank timer started, as a close and an expiry in FINISH do (R129, R132, R144). -/
theorem mountedBlank_unchangedBut (arm : Arm) (s : State) :
    unchangedBut [.entries, .probeSource, .queue arm] s (startBlank arm (mountTake arm s)) :=
  unchangedBut_append (l := [.entries, .probeSource]) (mountTake_unchangedBut arm s) (startBlank_unchangedBut_own arm _)

theorem mountedBlank_queue (arm : Arm) (s : State) : (startBlank arm (mountTake arm s)).touch.queues.get arm =
    { s.touch.queues.get arm with
      blankTimer := if s.touch.blankTime = 0 then none else some ⟨s.cellTime, s.touch.blankTime⟩ } := by
  have mounted := mountTake_unchangedBut arm s
  have time := mounted .time (by simp)
  have blank := (mounted .touchSettings (by simp)).1
  have queue := mounted (.queue arm) (by simp)
  simp only [Block.same] at time queue
  rw [queues_startBlank, PerArm.get_set_same, time, blank, queue]

/-- Blocks apart from a list are apart from what the list holds. -/
theorem apart_of_subset {l t bs : List Block} (h : l ⊆ t) (apart : ∀ b ∈ bs, b ∉ t) : ∀ b ∈ bs, b ∉ l :=
  fun b hb hin => apart b hb (h hin)

/-- What an event that ends a change in fault leaves of its arm, from the state `m` with the slot and the take probe
resolved. -/
structure FaultEnd (arm : Arm) (outcome : ChangeOutcome) (m t : State) : Prop where
  change : t.rack.changes.get arm = closedContext outcome
  recorded : (t.sup.get arm).recorded = { (m.sup.get arm).recorded with changeFault := true }
  present : (t.sup.get arm).present = (m.sup.get arm).present
  fault : t.attn.cell.fault = m.attn.cell.fault.raise (addMark · (armIndex arm))
  source : (t.attn.arms.get arm).change = (m.attn.arms.get arm).change.raise fun _ => some (.idle, outcome)

theorem conclude_endFault (arm : Arm) (outcome : ChangeOutcome) (s0 m : State) :
    FaultEnd arm outcome m (conclude s0 (.changeFault arm) (endFault arm outcome m)) := by
  have flags := conclude_flags s0 (.changeFault arm) (endFault arm outcome m)
  have judged := conclude_unchangedBut_judged s0 (.changeFault arm) (endFault arm outcome m)
  constructor
  · exact (judged (.change arm) (by cases arm <;> decide)).trans (endFault_change ..)
  · rw [flags.recorded, endFault_sup]
  · rw [flags.present, endFault_sup]
  · rw [flags.fault, endFault_fault]
  · exact (judged (.changeSource arm) (by cases arm <;> decide)).trans (endFault_changeSource ..)

theorem FaultEnd.of_kept {m t : State} {outcome : ChangeOutcome} {bs : List Block} (h : FaultEnd arm outcome m t)
    (hm : unchangedBut bs s m) (hbs : bs ⊆ [.slots, .entries, .probeSource, .queue arm, .rackSource]) :
    FaultEnd arm outcome s t := by
  have sup : m.sup.get arm = s.sup.get arm :=
    supOf_unchangedBut hm (apart_of_subset hbs (by cases arm <;> exact of_decide_eq_true rfl))
  have fault := hm .faultSource fun no => by simpa using hbs no
  have source := hm (.changeSource arm) fun no => by simpa using hbs no
  exact ⟨h.change, sup ▸ h.recorded, sup ▸ h.present, fault ▸ h.fault, source ▸ h.source⟩

/-- An event of one arm that ends its change in fault reaches that arm alone. -/
theorem conclude_endFault_reached {m : State} {bs : List Block} {outcome : ChangeOutcome} (hm : unchangedBut bs s m)
    (hbs : bs ⊆ [.port (linkOf arm), .supervisor arm, .slots, .entries, .probeSource, .queue arm, .rackSource]) :
    unchangedBut (bs ++ [.change arm, .supervisor arm, .faultSource, .changeSource arm, .permitSource arm]) s
      (conclude s (.changeFault arm) (endFault arm outcome m)) := by
  have reached := unchangedBut_append hm (endFault_unchangedBut arm outcome m)
  refine unchangedBut_mono ?_ (conclude_arm_unchangedBut (arm := arm) (t := .changeFault arm) reached ?_ ?_)
  · simp
  · refine apart_of_subset (List.append_subset.mpr ⟨List.Subset.trans hbs ?_, ?_⟩)
      (t := [.port (linkOf arm), .supervisor arm, .slots, .entries, .probeSource, .queue arm, .rackSource, .change arm,
        .faultSource, .changeSource arm]) (by cases arm <;> exact of_decide_eq_true rfl) <;> simp
  · cases arm <;> exact nofun

end Expire

theorem conclude_endFault_unchangedBut (outcome : ChangeOutcome) (arm : Arm) (s0 m : State) :
    unchangedBut (judgedBlocks ++ [.change arm, .faultSource, .changeSource arm]) m
      (conclude s0 (.changeFault arm) (endFault arm outcome m)) :=
  unchangedBut_trans (unchangedBut_mono (by cases arm <;> simp [judgedBlocks, ofArms]) (endFault_unchangedBut arm outcome m))
    (unchangedBut_mono (by simp) (conclude_unchangedBut_judged s0 _ _))

/-- Settles O49: a change that expires in FINISH with a take id mounts its probe, and every other blocks its slot. -/
theorem changeAndBlankTimersExpire : Obligations.ChangeAndBlankTimersExpire := by
  intro arm s c q out blocks' mounts
  have due (timer : Option Timer) : out timer ↔ s.due timer = true := State.due_iff.symm
  refine ⟨fun no => ?_, fun yes => ?_, fun no => ?_, fun yes hs => ?_⟩
  · rw [due] at no
    exact if_neg no
  · rw [due] at yes
    exact if_pos yes
  · rw [due] at no
    exact if_neg no
  rw [due] at yes
  refine ⟨_, if_pos yes, ?_⟩
  have find : (List.finRange 12).find? blocks' = blockedBy c := find?_blocks c
  by_cases hm : mounts
  · have m := mountedBlank_unchangedBut arm s
    have ends := (conclude_endFault arm .timedOut s _).of_kept m (by simp)
    have reached := conclude_endFault_reached (arm := arm) (outcome := .timedOut) m (by simp)
    have left := conclude_endFault_unchangedBut .timedOut arm s (startBlank arm (mountTake arm s))
    rw [← expireChange_mounts hm] at ends reached left
    have off (i : Fin 12) : blocks' i = false := by simp [blocks', hm.1]
    refine ⟨ends.change, fun i => ?_, ?_, ends.recorded, ends.present, ends.fault, ends.source,
      fun _ => ⟨?_, fun e p hp head => ?_⟩, fun no => absurd hm no, fun _ => unchangedBut_mono (by simp) reached⟩
    · rw [off i, slotAt, reached .slots (by simp)]; rfl
    · rw [find?_finRange_eq_none off, reached .rackSource (by simp)]; rfl
    · exact (left (.queue arm) (by cases arm <;> decide)).trans (mountedBlank_queue arm s)
    · have entries : (conclude s (.changeFault arm) (expireChange arm s)).registry.entries = (mountTake arm s).registry.entries :=
        left .entries (by cases arm <;> decide)
      have source : (conclude s (.changeFault arm) (expireChange arm s)).attn.cell.probe = (mountTake arm s).attn.cell.probe :=
        left .probeSource (by cases arm <;> decide)
      have found := headProbe_of_onHead (rackSound_iff.mp hs).1 (show onHead s arm e by rw [onHead, hp, ← head]; rfl)
      have entry (f : Fin 14) := entryAt_mountTake found hp f
      refine ⟨?_, fun f hf => ?_, source.trans (probeSource_mountTake found hp)⟩
      · rw [entryAt, entries, ← entryAt, entry, if_pos rfl]; rfl
      · rw [entryAt, entries, ← entryAt, entry, if_neg hf]
  · have m := blockSlot_unchangedBut c s
    have ends := (conclude_endFault arm .timedOut s _).of_kept m (by simp)
    have reached := conclude_endFault_reached (arm := arm) (outcome := .timedOut) m (by simp)
    have left := conclude_endFault_unchangedBut .timedOut arm s (blockSlot c s)
    rw [← expireChange_blocks hm] at ends reached left
    refine ⟨ends.change, fun i => ?_, ?_, ends.recorded, ends.present, ends.fault, ends.source, fun yes => absurd yes hm,
      fun _ => unchangedBut_mono (by simp) reached, fun yes => absurd yes hm⟩
    · exact (congrArg (vget · i) (left .slots (by cases arm <;> decide))).trans (slotAt_blockSlot c s i)
    · rw [find]
      exact (left .rackSource (by cases arm <;> decide)).trans (rackSource_blockSlot c s)

end Sys2Proof.Machine
end

section
/-! PROOFS. CHANGE_CLOSE (R129, R130). -/

namespace Sys2Proof.Machine

/-! ### A taken request of the change protocol (R125) -/

section Taken
variable {arm : Arm} {s m : State} {d : ChangeContext} {bs : List Block}

/-- The state at the end of a request of the change protocol that leaves the arm's context as `m` has it. -/
def changedState (arm : Arm) (s m : State) : State :=
  endEvent (linkOf arm) (changeWords .ok arm (raiseChange arm m)) s (raiseChange arm m)

/-- What a taken request of the change protocol leaves of its arm: the context, the answer, CHANGE attention and the
supervisor (R125, R134). -/
structure ChangeEnd (arm : Arm) (d : ChangeContext) (s t : State) : Prop where
  change : t.rack.changes.get arm = d
  port : t.ports.get (linkOf arm) = answeredPort (changeWords .ok arm t)
  source : (t.attn.arms.get arm).change = (s.attn.arms.get arm).change.raise fun _ => some (d.phase, d.outcome)
  sup : t.sup.get arm = (frameEnded (linkOf arm) s).sup.get arm

/-- The blocks that a request of the change protocol may reach before its attention. -/
def protocolBlocks (arm : Arm) : List Block := [.slots, .entries, .probeSource, .queue arm, .change arm]

theorem changedState_end (hm : unchangedBut bs (acceptFrame (linkOf arm) s) m) (hbs : bs ⊆ protocolBlocks arm)
    (hd : m.rack.changes.get arm = d) : ChangeEnd arm d s (changedState arm s m) := by
  have kept {b : Block} (hb : b ∉ protocolBlocks arm) : b.same (acceptFrame (linkOf arm) s) m := hm b fun no => hb (hbs no)
  have apart : ∀ b ∈ [Block.supervisor arm, .settings arm, .sense arm], b ∉ bs :=
    apart_of_subset hbs (by cases arm <;> exact of_decide_eq_true rfl)
  have rack : (changedState arm s m).rack = (raiseChange arm m).rack := endEvent_rack ..
  constructor
  · rw [rack]; exact hd
  · have words : changeWords .ok arm (raiseChange arm m) = changeWords .ok arm (changedState arm s m) := by
      rw [changeWords, ← rack]; rfl
    have port : (raiseChange arm m).ports.get (linkOf arm) = (acceptFrame (linkOf arm) s).ports.get (linkOf arm) :=
      kept (b := .port (linkOf arm)) (by simp [protocolBlocks])
    rw [← words]
    exact endEvent_port port _
  · have source := kept (b := .changeSource arm) (by simp [protocolBlocks])
    refine (endEvent_unchangedBut _ _ _ _ (.changeSource arm) (by simp)).trans ?_
    rw [changeSource_raiseChange, hd, source, acceptFrame_attn]
  · have time : (raiseChange arm m).cellTime = (acceptFrame (linkOf arm) s).cellTime :=
      kept (b := .time) (by simp [protocolBlocks])
    have sup : m.sup.get arm = (acceptFrame (linkOf arm) s).sup.get arm := supOf_unchangedBut hm apart
    exact conclude_sup_congr (s := raiseChange arm m) sup time s .plain

theorem changedState_unchangedBut (hm : unchangedBut bs (acceptFrame (linkOf arm) s) m) (hbs : bs ⊆ protocolBlocks arm) :
    unchangedBut (bs ++ [.port (linkOf arm), .changeSource arm, .supervisor arm, .permitSource arm]) s
      (changedState arm s m) := by
  have kept : m.sup.get (otherArm arm) = (acceptFrame (linkOf arm) s).sup.get (otherArm arm) :=
    supOf_unchangedBut hm (apart_of_subset hbs (by cases arm <;> exact of_decide_eq_true rfl))
  have other : (raiseChange arm m).sup.get (otherArm arm) = s.sup.get (otherArm arm) :=
    kept.trans (acceptFrame_sup_other arm s)
  refine unchangedBut_trans (unchangedBut_mono (by simp) (acceptFrame_arm_unchangedBut arm s)) <|
    unchangedBut_trans (unchangedBut_mono (by simp) hm) <|
    unchangedBut_trans (unchangedBut_mono (by simp) (raiseChange_unchangedBut m arm)) <|
    unchangedBut_mono (by simp) (endEvent_unchangedBut_of_other_same other (linkOf arm) _)

/-- The rack, the registry and the touch queues are as the request leaves them. -/
theorem changedState_left (arm : Arm) (s m : State) {b : Block} (hb : b ∈ [Block.slots, .entries, .probeSource, .queue arm]) :
    b.same m (changedState arm s m) := by
  refine Block.same_trans (raiseChange_unchangedBut m arm b ?_) (endEvent_unchangedBut _ _ _ _ b ?_) <;>
    revert hb <;> cases b <;> simp

end Taken

/-! ### The request -/

section Close
variable {arm : Arm} {r : Request} {s : State}

/-- A refusal of the change protocol, answered with the words of READ_CHANGE (R125). -/
theorem handleRequest_changeAct (ha : onArm arm r s) (act : Arm → State → Act) {code : ResultCode}
    (h : act arm (acceptFrame (linkOf arm) s) = changeAct code arm (acceptFrame (linkOf arm) s)) :
    handleRequest .armLinks r.link (forLinkArm r.link act) s =
      answered (linkOf arm) (changeWords code arm s) (frameEnded (linkOf arm) s) := by
  have words : changeWords code arm (acceptFrame (linkOf arm) s) = changeWords code arm s := by
    rw [changeWords, acceptFrame_rack, changeWords]
  rw [← endEvent_acceptFrame, ← words]
  exact handleRequest_onArm ha act h

/-- The state in which CHANGE_CLOSE with the take id leaves the rack, the registry and the blank timer (R129). -/
def closedState (arm : Arm) (s : State) : State :=
  let a := closeChange arm .closed (acceptFrame (linkOf arm) s)
  if (s.rack.changes.get arm).takeId ≠ 0 then startBlank arm (mountTake arm a) else a

theorem closedState_unchangedBut (arm : Arm) (s : State) :
    unchangedBut (if (s.rack.changes.get arm).takeId ≠ 0 then [.change arm, .entries, .probeSource, .queue arm]
      else [.change arm])
      (acceptFrame (linkOf arm) s) (closedState arm s) := by
  have closed : unchangedBut [.change arm] (acceptFrame (linkOf arm) s) (closeChange arm .closed (acceptFrame (linkOf arm) s)) :=
    setChange_unchangedBut _ _ _
  simp only [closedState]
  split
  · exact unchangedBut_append (l := [.change arm]) closed (mountedBlank_unchangedBut arm _)
  · exact closed

theorem closedState_change (arm : Arm) (s : State) : (closedState arm s).rack.changes.get arm = closedContext .closed := by
  simp only [closedState]
  split
  · exact (mountedBlank_unchangedBut arm _ (.change arm) (by simp)).trans (PerArm.get_set_same ..)
  · exact PerArm.get_set_same ..

/-- The take probe mounted and the blank timer started by a close (R129, R144). -/
theorem closedState_mounts {e : Fin 14} {p : Probe} (take : (s.rack.changes.get arm).takeId ≠ 0)
    (found : headProbe s arm = some e) (hp : entryAt s e = some p) :
    (∀ f, entryAt (closedState arm s) f = if f = e then some (mountedProbe s arm p) else entryAt s f) ∧
    (closedState arm s).attn.cell.probe =
      (if dueAtMount s p then s.attn.cell.probe.raise (addMark · e.val) else s.attn.cell.probe) ∧
    (closedState arm s).touch.queues.get arm = { s.touch.queues.get arm with
      blankTimer := if s.touch.blankTime = 0 then none else some ⟨s.cellTime, s.touch.blankTime⟩ } := by
  have eq : closedState arm s = startBlank arm (mountTake arm (closeChange arm .closed (acceptFrame (linkOf arm) s))) :=
    if_pos take
  have registry : (closeChange arm .closed (acceptFrame (linkOf arm) s)).registry = s.registry := acceptFrame_registry ..
  have temp : (closeChange arm .closed (acceptFrame (linkOf arm) s)).temp = s.temp := acceptFrame_temp ..
  have attn : (closeChange arm .closed (acceptFrame (linkOf arm) s)).attn = s.attn := acceptFrame_attn ..
  have touch : (closeChange arm .closed (acceptFrame (linkOf arm) s)).touch = s.touch := acceptFrame_touch ..
  have time : (closeChange arm .closed (acceptFrame (linkOf arm) s)).cellTime = s.cellTime := acceptFrame_cellTime ..
  rw [eq]
  generalize closeChange arm .closed (acceptFrame (linkOf arm) s) = u at registry temp attn touch time
  have entry (f : Fin 14) : entryAt u f = entryAt s f := by rw [entryAt, registry, entryAt]
  have due : dueAtMount u = dueAtMount s := by
    funext p
    rw [dueAtMount, drifts_congr temp (by rw [registry]), dueAtMount]
  have found' : headProbe u arm = some e := (headProbe_congr (by rw [registry]) arm).trans found
  have hp' : entryAt u e = some p := (entry e).trans hp
  have mounted : mountedProbe u arm p = mountedProbe s arm p := by rw [mountedProbe, due, mountedProbe]
  refine ⟨fun f => ?_, ?_, ?_⟩
  · refine (entryAt_mountTake found' hp' f).trans ?_
    rw [mounted, entry]
  · refine (probeSource_mountTake found' hp').trans ?_
    rw [due, attn]
  · rw [mountedBlank_queue, touch, time]

/-- CHANGE_CLOSE with the take id (R129). -/
theorem changeClose_taken (ha : onArm arm r s) (finish : (s.rack.changes.get arm).phase = .finish)
    (id : r.d0.toNat = (s.rack.changes.get arm).takeId.toNat) :
    exec (.changeClose r) s = .next (changedState arm s (closedState arm s)) := by
  refine congrArg Host.Outcome.next (handleRequest_onArm ha (fun arm => changeCloseBy arm r) ?_)
  have inRange : ¬ 65535 < r.d0.toNat := by rw [id]; have := (s.rack.changes.get arm).takeId.isLt; omega
  simp only [changeCloseBy, acceptFrame_rack]
  rw [if_neg (not_not.mpr finish), if_neg inRange, if_pos id]
  rfl

/-- The take probe of a change in FINISH that did not come to the head (R130). -/
def lostState (arm : Arm) (s : State) : State :=
  if (s.rack.changes.get arm).takeId ≠ 0 then locateAny (headProbe s arm) .missing s else s

theorem lostState_unchangedBut (arm : Arm) (s : State) : unchangedBut [.entries] s (lostState arm s) := by
  rw [lostState]
  split
  · exact locateAny_unchangedBut _ _ _
  · exact unchangedBut_refl _ _

theorem lostState_attn (arm : Arm) (s : State) : (lostState arm (acceptFrame (linkOf arm) s)).attn = s.attn := by
  rw [← acceptFrame_attn (linkOf arm) s, lostState]
  split
  · cases headProbe (acceptFrame (linkOf arm) s) arm <;> rfl
  · rfl

/-- The probe that is lost is the one on the head, of which there is at most one (R104, R130). -/
theorem entryAt_lostState (hs : RackSound s) (e : Fin 14) :
    entryAt (lostState arm (acceptFrame (linkOf arm) s)) e = (entryAt s e).map fun p =>
      if (s.rack.changes.get arm).takeId ≠ 0 ∧ p.location = .head arm then { p with location := .missing } else p := by
  have entry : entryAt (acceptFrame (linkOf arm) s) e = entryAt s e := entryAt_acceptFrame ..
  rw [lostState, acceptFrame_rack]
  split
  · next take =>
    have away (off : ¬ onHead s arm e) : entryAt s e = (entryAt s e).map fun p =>
        if (s.rack.changes.get arm).takeId ≠ 0 ∧ p.location = .head arm then { p with location := .missing } else p := by
      cases hp : entryAt s e with
      | none => rfl
      | some p =>
        have other : p.location ≠ .head arm := fun head => off (by rw [onHead, hp, ← head]; rfl)
        simp [other]
    rw [headProbe_congr (s := s) (by rw [acceptFrame_registry])]
    cases found : headProbe s arm with
    | none => exact entry.trans (away (not_onHead_of_none found e))
    | some f =>
      rw [locateAny, Option.elim_some, entryAt_locate]
      by_cases here : e = f
      · subst here
        obtain ⟨p, hp, head⟩ := (findProbe_some found).1
        rw [if_pos rfl, entry, hp]
        exact congrArg some (if_pos ⟨take, of_decide_eq_true head⟩).symm
      · rw [if_neg here, entry]
        refine away fun head => here ?_
        exact (rackSound_iff.mp hs).1.oneHead arm e f head (onHead_headProbe found)
  · next zero =>
    rw [entry]
    cases entryAt s e with
    | none => rfl
    | some p => exact congrArg some (if_neg fun both => zero both.1).symm

/-- CHANGE_CLOSE with another id (R130). -/
theorem changeClose_wrongProbe (ha : onArm arm r s) (finish : (s.rack.changes.get arm).phase = .finish)
    (inRange : r.d0.toNat ≤ 65535) (id : r.d0.toNat ≠ (s.rack.changes.get arm).takeId.toNat) :
    let u := endFault arm .wrongProbe (lostState arm (acceptFrame (linkOf arm) s))
    exec (.changeClose r) s =
      .next (writeReply (linkOf arm) (changeWords .ok arm u) (conclude s (.changeFault arm) u)) := by
  obtain ⟨hl, ht⟩ := ha
  refine congrArg Host.Outcome.next ?_
  have act : forLinkArm (linkOf arm) (fun arm => changeCloseBy arm r) (acceptFrame (linkOf arm) s) =
      changeCloseBy arm r (acceptFrame (linkOf arm) s) := by simp only [forLinkArm, armOf_linkOf]
  rw [hl, handleRequest_permitted ht (by simp [Access.permits]), act]
  simp only [changeCloseBy, acceptFrame_rack]
  rw [if_neg (not_not.mpr finish), if_neg (by omega), if_neg id]
  simp only [lostState, acceptFrame_rack]
  rfl

/-- The answer of a request that ends its change in fault carries the words of the context after it (R125). -/
theorem faultEnd_port {m : State} {outcome : ChangeOutcome}
    (port : m.ports.get (linkOf arm) = (acceptFrame (linkOf arm) s).ports.get (linkOf arm)) :
    let u := endFault arm outcome m
    let t := writeReply (linkOf arm) (changeWords .ok arm u) (conclude s (.changeFault arm) u)
    t.ports.get (linkOf arm) = answeredPort (changeWords .ok arm t) := by
  intro u t
  have words : changeWords .ok arm t = changeWords .ok arm u := by
    have change : t.rack.changes.get arm = u.rack.changes.get arm :=
      (conclude_endFault arm outcome s m).change.trans (endFault_change arm outcome m).symm
    rw [changeWords, change, changeWords]
  have kept : u.ports.get (linkOf arm) = (acceptFrame (linkOf arm) s).ports.get (linkOf arm) :=
    (endFault_unchangedBut arm outcome m (.port (linkOf arm)) (by simp)).trans port
  rw [words]
  simp only [t, writeReply, State.modPort, State.setPort, PerLink.get_set, if_true]
  rw [conclude_ports, kept, acceptFrame_port]
  simp [answeredPort]

end Close

/-- Settles O47: the refusals by the first failing check, the close by the state that it leaves, and the fault by what
every change that ends in fault leaves. -/
theorem changeCloseMountsOrFaults : Obligations.ChangeCloseMountsOrFaults := by
  intro arm r s ha hs l c words closed
  have hwords (code : ResultCode) (u : State) : words code u = changeWords code arm u := (changeWords_eq code arm u).symm
  refine ⟨fun no => ?_, fun finish wide => ?_, fun finish id => ?_, fun finish inRange id => ?_⟩
  · rw [hwords]
    refine congrArg Host.Outcome.next (handleRequest_changeAct ha (fun arm => changeCloseBy arm r) ?_)
    simp only [changeCloseBy, acceptFrame_rack]
    exact if_pos no
  · rw [hwords]
    refine congrArg Host.Outcome.next (handleRequest_changeAct ha (fun arm => changeCloseBy arm r) ?_)
    simp only [changeCloseBy, acceptFrame_rack]
    rw [if_neg (not_not.mpr finish), if_pos wide]
  · have reached := closedState_unchangedBut arm s
    have ends := changedState_end reached (by split <;> simp [protocolBlocks]) (closedState_change arm s)
    have all := changedState_unchangedBut reached (by split <;> simp [protocolBlocks])
    refine ⟨_, changeClose_taken ha finish id, ⟨ends.change, ?_, ends.source⟩, ends.sup,
      fun zero => ?_, fun take e p hp head => ?_⟩
    · rw [hwords]; exact ends.port
    · rw [if_neg (not_not.mpr zero)] at all
      exact unchangedBut_mono (by simp [l]) all
    · rw [if_pos take] at all
      have left {b : Block} (hb : b ∈ [Block.slots, .entries, .probeSource, .queue arm]) :=
        changedState_left arm s (closedState arm s) hb
      have found := headProbe_of_onHead (rackSound_iff.mp hs).1 (show onHead s arm e by rw [onHead, hp, ← head]; rfl)
      obtain ⟨entry, source, queue⟩ := closedState_mounts take found hp
      have entries (f : Fin 14) : entryAt (changedState arm s (closedState arm s)) f = _ :=
        (congrArg (vget · f) (left (b := .entries) (by simp))).trans (entry f)
      refine ⟨?_, fun f hf => ?_, (left (b := .probeSource) (by simp)).trans source,
        (left (b := .queue arm) (by simp)).trans queue, unchangedBut_mono (by simp [l]) all⟩
      · rw [entries, if_pos rfl]; rfl
      · rw [entries, if_neg hf]
  · have ends := conclude_endFault arm .wrongProbe s (lostState arm (acceptFrame (linkOf arm) s))
    have lost := lostState_unchangedBut arm (acceptFrame (linkOf arm) s)
    have reached := conclude_endFault_reached (arm := arm) (outcome := .wrongProbe)
      (unchangedBut_append (acceptFrame_arm_unchangedBut arm s) lost) (by simp)
    have left := conclude_endFault_unchangedBut .wrongProbe arm s (lostState arm (acceptFrame (linkOf arm) s))
    have sup : (lostState arm (acceptFrame (linkOf arm) s)).sup.get arm = (acceptFrame (linkOf arm) s).sup.get arm :=
      supOf_unchangedBut lost (by simp)
    have attn := lostState_attn arm s
    refine ⟨_, changeClose_wrongProbe ha finish inRange id, ⟨ends.change, ?_, ?_⟩, ?_, ?_, ?_, fun e => ?_, ?_⟩
    · rw [hwords]
      exact faultEnd_port (lost (.port l) (by simp))
    · exact ends.source.trans (by rw [attn])
    · exact ends.recorded.trans (by rw [sup, acceptFrame_recorded])
    · exact ends.present.trans (by rw [sup, acceptFrame_own])
    · exact ends.fault.trans (by rw [attn])
    · refine (congrArg (vget · e) (left .entries (by cases arm <;> decide))).trans ?_
      refine (entryAt_lostState hs e).trans ?_
      rfl
    · exact unchangedBut_trans (unchangedBut_mono (by simp [l]) reached)
        (unchangedBut_mono (by simp [l]) (modPort_unchangedBut _ l _))

end Sys2Proof.Machine
end

section
/-! PROOFS. Presence levels and the slots that no change awaits (R119, R121, R122). -/

namespace Sys2Proof.Machine

section Presence
variable {i : Fin 12} {s : State}

theorem setSlot_setSlot (s : State) (i : Fin 12) (x y : Slot) : (s.setSlot i x).setSlot i y = s.setSlot i y := by
  have slots : vput (vput s.rack.slots i x) i y = vput s.rack.slots i y :=
    vext fun j => by by_cases hj : j = i <;> simp [hj]
  exact congrArg (fun v => { s with rack := { s.rack with slots := v } }) slots

theorem setSlot_slotAt (s : State) (i : Fin 12) : s.setSlot i (slotAt s i) = s := by
  have slots : vput s.rack.slots i (slotAt s i) = s.rack.slots :=
    vext fun j => by by_cases hj : j = i <;> simp [hj, slotAt]
  exact congrArg (fun v => { s with rack := { s.rack with slots := v } }) slots

theorem slotAt_setSlot_same (s : State) (i : Fin 12) (x : Slot) : slotAt (s.setSlot i x) i = x := by simp

/-- A slot whose settled level takes its raw level as its timer runs out (R119). -/
def settledSlot (x : Slot) : Slot := { x with settled := x.raw, settleTimer := none }

theorem expireSettle_eq (i : Fin 12) (s : State) : expireSettle i s =
    if (slotAt s i).raw = (slotAt s i).settled then s.setSlot i (settledSlot (slotAt s i))
    else settledChange i (slotAt s i).raw (s.setSlot i (settledSlot (slotAt s i))) := rfl

/-- A slot entered after its level is settled. -/
theorem enterSlot_settled (st : SlotState) (probe : Option (Fin 14)) (u : State) (hu : slotAt u i = settledSlot (slotAt s i)) :
    enterSlot i st probe u = u.setSlot i { settledSlot (slotAt s i) with
      state := st, probe := probe, lock := decide (st ≠ .released) } := by
  rw [enterSlot, State.modSlot, ← slotAt, hu]

/-- The state with the level of the slot settled. -/
def settledState (i : Fin 12) (s : State) : State := s.setSlot i (settledSlot (slotAt s i))

theorem slotAt_settledState (i : Fin 12) (s : State) : slotAt (settledState i s) i = settledSlot (slotAt s i) :=
  slotAt_setSlot_same ..

/-- PRESENCE_SETTLE_EXPIRY with a level that differs, for a slot that is not RELEASED (R121). -/
theorem expireSettle_unexpected (differs : (slotAt s i).raw ≠ (slotAt s i).settled)
    (locked : (slotAt s i).state ≠ .released) : expireSettle i s = unexpectedChange i (settledState i s) := by
  have state : (slotAt (settledState i s) i).state = (slotAt s i).state := by rw [slotAt_settledState]; rfl
  rw [expireSettle_eq, if_neg differs]
  change settledChange i (slotAt s i).raw (settledState i s) = _
  rw [settledChange, if_neg (by rw [state]; exact locked)]

end Presence

/-- Settles O44. -/
theorem presenceSettlesAndMovesTheSlot : Obligations.PresenceSettlesAndMovesTheSlot := by
  refine ⟨fun i level s => ?_, fun i s => ?_⟩
  · intro x
    refine congrArg Host.Outcome.next ?_
    change s.setSlot i (if x.raw = level then x else if s.resetHeld = true then { x with raw := level }
      else { x with raw := level, settleTimer := some ⟨s.cellTime, 20⟩ }) = _
    split
    · exact setSlot_slotAt s i
    split <;> rfl
  intro x out settles
  have due : out ↔ s.due x.settleTimer = true := State.due_iff.symm
  refine ⟨fun no => if_neg (due.not.mp no), fun yes same => ?_, fun yes differs => ?_⟩
  · refine (if_pos (due.mp yes)).trans (congrArg _ ?_)
    rw [expireSettle_eq, if_pos same, settledSlot, show (slotAt s i).raw = (slotAt s i).settled from same]
  have taken {y : Slot} {u : State} (locked : x.state ≠ .released)
      (h : unexpectedChange i (settledState i s) = raiseRack i (u.setSlot i { y with settled := x.raw, settleTimer := none })) :
      settles y u :=
    (if_pos (due.mp yes)).trans (congrArg _ ((expireSettle_unexpected differs locked).trans h))
  have here := slotAt_settledState i s
  refine ⟨fun state _ => taken (by rw [state]; nofun) ?_, fun state _ => taken (by rw [state]; nofun) ?_,
    fun state => taken (by rw [state]; nofun) ?_, fun state _ e he p hp => taken (by rw [state]; nofun) ?_⟩
  · have enters : unexpectedChange i (settledState i s) = raiseRack i (enterSlot i .unclaimed none (settledState i s)) := by
      rw [unexpectedChange, here]; simp only [settledSlot, show (slotAt s i).state = .vacant from state]
    rw [enters, enterSlot_settled _ _ _ here, settledState, setSlot_setSlot]; rfl
  · have enters : unexpectedChange i (settledState i s) = raiseRack i (enterSlot i .vacant none (settledState i s)) := by
      rw [unexpectedChange, here]; simp only [settledSlot, show (slotAt s i).state = .unclaimed from state]
    rw [enters, enterSlot_settled _ _ _ here, settledState, setSlot_setSlot]; rfl
  · rw [unexpectedChange, here]; simp only [settledSlot, show (slotAt s i).state = .blocked from state]; rfl
  · have lost : locateAny x.probe .missing (settledState i s) =
        (settledState i s).setEntry e (some { p with location := .missing }) := by
      rw [Option.mem_def.mp he, locateAny, Option.elim_some]
      exact locate_eq_setEntry (s := settledState i s) (Option.mem_def.mp hp) .missing
    have enters : unexpectedChange i (settledState i s) = raiseRack i (enterSlot i .blocked none
        ((settledState i s).setEntry e (some { p with location := .missing }))) := by
      rw [unexpectedChange, here, ← lost]; simp only [settledSlot, show (slotAt s i).state = .stored from state]; rfl
    have commutes : ((settledState i s).setEntry e (some { p with location := .missing })) =
        (s.setEntry e (some { p with location := .missing })).setSlot i (settledSlot x) := rfl
    have here' : slotAt ((settledState i s).setEntry e (some { p with location := .missing })) i =
        settledSlot (slotAt s i) := here
    rw [enters, enterSlot_settled _ _ _ here', commutes, setSlot_setSlot]; rfl

end Sys2Proof.Machine
end

section
/-! PROOFS. The deposit and the pick of a change completed by a settled level (R119, R127, R128, R134). -/

namespace Sys2Proof.Machine

/-! ### Probes by their ids -/

section Ids
variable {s : State} {e : Fin 14} {p : Probe} {id : Nat}

/-- The probe registered under an id is the one that carries it (R103). -/
theorem probeById_of_entryAt (hs : RegistrySound s) (hp : entryAt s e = some p) (hid : p.id.toNat = id) :
    probeById s id = some e := by
  refine find?_finRange_eq_some (by simp [hp, hid]) fun f hf => ?_
  obtain ⟨q, hq, same⟩ : ∃ q ∈ entryAt s f, q.id.toNat = id := by simpa [Option.any_eq_true] using hf
  have ids : q.id = p.id := BitVec.eq_of_toNat_eq (same.trans hid.symm)
  exact hs.ids f e q p hq hp ids

theorem entryAt_of_probeById (h : probeById s id = some e) : ∃ p, entryAt s e = some p ∧ p.id.toNat = id := by
  obtain ⟨p, hp, hid⟩ := (findProbe_some h).1
  exact ⟨p, hp, of_decide_eq_true hid⟩

end Ids

/-! ### The awaiting change -/

section Awaited
variable {arm : Arm} {i : Fin 12} {s : State} {seated : Bool}

theorem not_awaits_of_unreleasing (h : unreleasing s arm) : awaits s i seated arm = false := by
  rw [← Bool.not_eq_true, awaits_iff]
  rintro (⟨-, phase, -⟩ | ⟨-, phase, -⟩) <;> obtain idle | finish := h <;> simp_all

/-- A settled level is handed to the change that awaits it (R119). -/
theorem settledChange_awaited (released : (slotAt s i).state = .released) (awaited : awaits s i seated arm = true)
    (other : unreleasing s (otherArm arm)) : settledChange i seated s = advanceChange arm i seated s := by
  have off := not_awaits_of_unreleasing (i := i) (seated := seated) other
  rw [settledChange, if_pos released]
  cases arm with
  | a => rw [if_pos awaited]
  | b => rw [if_neg (by rw [Bool.not_eq_true]; exact off), if_pos awaited]

/-- PRESENCE_SETTLE_EXPIRY of a RELEASED slot with the level that a change awaits (R119). -/
theorem expireSettle_awaited (hs : RackOk s) (differs : (slotAt s i).raw ≠ (slotAt s i).settled)
    (awaited : awaits s i (slotAt s i).raw arm = true) :
    expireSettle i s = advanceChange arm i (slotAt s i).raw (settledState i s) := by
  have opened : (s.rack.changes.get arm).phase ≠ .idle := by
    obtain ⟨-, phase, -⟩ | ⟨-, phase, -⟩ := awaits_iff.mp awaited <;> rw [phase] <;> nofun
  have other := hs.other_unreleasing opened
  have released : (slotAt s i).state = .released := by
    rw [released_iff hs.releases other]
    obtain ⟨-, phase, slot⟩ | ⟨-, phase, slot⟩ := awaits_iff.mp awaited
    · exact (releasedFor_deposit phase slot).mpr rfl
    · exact (releasedFor_pick phase slot).mpr rfl
  rw [expireSettle_eq, if_neg differs]
  have still : (slotAt (settledState i s) i).state = .released := by rw [slotAt_settledState]; exact released
  exact settledChange_awaited still awaited other

end Awaited

/-! ### The change that goes on -/

section Advance
variable {arm : Arm} {s m : State} {d : ChangeContext}

theorem slotAt_advance (arm : Arm) (d : ChangeContext) (m : State) (j : Fin 12) :
    slotAt (raiseChange arm (m.setChange arm d)) j = slotAt m j := rfl

theorem entryAt_advance (arm : Arm) (d : ChangeContext) (m : State) (e : Fin 14) :
    entryAt (raiseChange arm (m.setChange arm d)) e = entryAt m e := rfl

/-- What an advance of a change leaves of its context and its attention (R134). -/
theorem advanced (hm : unchangedBut [.slots, .entries] s m) : let t := raiseChange arm (m.setChange arm d)
    t.rack.changes.get arm = d ∧
    (t.attn.arms.get arm).change = (s.attn.arms.get arm).change.raise (fun _ => some (d.phase, d.outcome)) ∧
    unchangedBut [.slots, .entries, .change arm, .changeSource arm] s t := by
  have source := hm (.changeSource arm) (by simp)
  have written : (m.setChange arm d).rack.changes.get arm = d := PerArm.get_set_same ..
  refine ⟨written, ?_, ?_⟩
  · rw [changeSource_raiseChange, written]
    exact congrArg _ source
  · exact unchangedBut_trans (unchangedBut_mono (by simp) hm) <|
      unchangedBut_trans (unchangedBut_mono (by simp) (setChange_unchangedBut m arm d)) <|
      unchangedBut_mono (by simp) (raiseChange_unchangedBut _ arm)

end Advance

section Deposit
variable {arm : Arm} {s : State} {c : ChangeContext} {i u : Fin 12} {q f : Fin 14} {p k : Probe}

/-- The take probe of a change stands STORED in its take slot (R127). -/
def readyAt (c : ChangeContext) (s : State) (u : Fin 12) (f : Fin 14) : Prop :=
  c.takeSlot = some u ∧ (slotAt s u).state = .stored ∧ ∃ k ∈ entryAt s f, k.id = c.takeId ∧ k.location = .slot u

theorem takeReady_eq_some (hs : RegistrySound s) (h : readyAt c s u f) : takeReady c s = some (u, f) := by
  obtain ⟨take, stored, k, hk, id, there⟩ := h
  have found : probeById s c.takeId.toNat = some f := probeById_of_entryAt hs hk (by rw [id])
  have location : (entryAt s f).map Probe.location = some (.slot u) := by rw [Option.mem_def.mp hk, ← there]; rfl
  simp only [takeReady, take, found]
  exact if_pos ⟨stored, location⟩

theorem readyAt_of_takeReady (h : takeReady c s = some (u, f)) : readyAt c s u f := by
  obtain ⟨take, stored, there⟩ := takeReady_some h
  obtain ⟨k, hk, there⟩ := Option.map_eq_some_iff.mp there
  refine ⟨take, stored, k, hk, ?_, there⟩
  rw [takeReady, take] at h
  split at h
  · next found =>
    split at h
    · cases h
      obtain ⟨k', hk', id⟩ := entryAt_of_probeById found
      cases hk.symm.trans hk'
      exact BitVec.eq_of_toNat_eq id
    · cases h
  · cases h

/-- The put slot with the deposited probe, before the change goes on (R127). -/
def depositState (arm : Arm) (i : Fin 12) (s : State) : State :=
  enterSlot i .stored (headProbe s arm) (locateAny (headProbe s arm) (.slot i) s)

/-- The change after its deposit: in FINISH, in PICK with the take slot released, or in FINISH with TAKE_LOST (R127). -/
def goesOn (arm : Arm) (c : ChangeContext) (s : State) : State :=
  if c.takeId = 0 then s.setChange arm { c with phase := .finish, outcome := .deposited }
  else
    match takeReady c s with
    | some (u, f) => (enterSlot u .released (some f) s).setChange arm { c with phase := .pick, outcome := .deposited }
    | none => s.setChange arm { c with phase := .finish, outcome := .takeLost, takeId := 0, takeSlot := none }

theorem completeDeposit_eq (arm : Arm) (i : Fin 12) (s : State) : completeDeposit arm i s =
    raiseChange arm (goesOn arm (s.rack.changes.get arm) (depositState arm i s)) := rfl

theorem goesOn_ready {c : ChangeContext} (take : c.takeId ≠ 0) (ready : takeReady c s = some (u, f)) : goesOn arm c s =
    (enterSlot u .released (some f) s).setChange arm { c with phase := .pick, outcome := .deposited } := by
  rw [goesOn, if_neg take, ready]

theorem goesOn_lost {c : ChangeContext} (take : c.takeId ≠ 0) (ready : takeReady c s = none) : goesOn arm c s =
    s.setChange arm { c with phase := .finish, outcome := .takeLost, takeId := 0, takeSlot := none } := by
  rw [goesOn, if_neg take, ready]

theorem depositState_unchangedBut (arm : Arm) (i : Fin 12) (s : State) :
    unchangedBut [.slots, .entries] s (depositState arm i s) :=
  unchangedBut_trans (unchangedBut_mono (by simp) (locateAny_unchangedBut _ _ s))
    (unchangedBut_mono (by simp) (enterSlot_unchangedBut i .stored _ _))

theorem settledState_unchangedBut (i : Fin 12) (s : State) : unchangedBut [.slots] s (settledState i s) :=
  fun b hb => by cases b <;> simp_all [Block.same, settledState]

theorem entryAt_depositState (found : headProbe s arm = some q) (hp : entryAt s q = some p) (g : Fin 14) :
    entryAt (depositState arm i s) g = if g = q then some { p with location := .slot i } else entryAt s g := by
  rw [depositState, found, locateAny, Option.elim_some, locate_eq_setEntry hp]
  exact entryAt_setEntry ..

theorem slotAt_depositState (found : headProbe s arm = some q) (j : Fin 12) : slotAt (depositState arm i s) j =
    if j = i then { slotAt s i with state := .stored, probe := some q, lock := true } else slotAt s j := by
  rw [depositState, found]
  exact slotAt_enterSlot ..

end Deposit

/-! ### The completed deposit (R127) -/

section Completed
variable {arm : Arm} {s : State} {i u : Fin 12} {q f : Fin 14} {p : Probe}

/-- The state after the level of the put slot is settled and the deposited probe is in it. -/
def depositedState (arm : Arm) (i : Fin 12) (s : State) : State := depositState arm i (settledState i s)

theorem depositedState_unchangedBut (arm : Arm) (i : Fin 12) (s : State) :
    unchangedBut [.slots, .entries] s (depositedState arm i s) :=
  unchangedBut_trans (unchangedBut_mono (by simp) (settledState_unchangedBut i s)) (depositState_unchangedBut arm i _)

theorem slotAt_depositedState (found : headProbe s arm = some q) (j : Fin 12) : slotAt (depositedState arm i s) j =
    if j = i then { settledSlot (slotAt s i) with state := .stored, probe := some q, lock := true } else slotAt s j := by
  rw [depositedState, slotAt_depositState (s := settledState i s) found]
  split
  · rw [slotAt_settledState]
  · next away => rw [settledState, slotAt_setSlot, if_neg away]

theorem entryAt_depositedState (found : headProbe s arm = some q) (hp : entryAt s q = some p) (g : Fin 14) :
    entryAt (depositedState arm i s) g = if g = q then some { p with location := .slot i } else entryAt s g :=
  entryAt_depositState (s := settledState i s) found hp g

/-- The deposit makes no probe ready to be taken, and leaves one that is (R127). -/
theorem readyAt_depositedState {c : ChangeContext} (apart : c.takeSlot ≠ some i) (found : headProbe s arm = some q)
    (hp : entryAt s q = some p) (head : p.location = .head arm) :
    readyAt c (depositedState arm i s) u f ↔ readyAt c s u f := by
  refine and_congr_right fun take => ?_
  have away : u ≠ i := fun same => apart (same ▸ take)
  rw [slotAt_depositedState found, if_neg away, entryAt_depositedState found hp]
  refine and_congr_right fun _ => ?_
  by_cases here : f = q
  · rw [if_pos here, here, hp]
    simp [head, away.symm]
  · rw [if_neg here]

theorem depositedState_registrySound (hs : RegistrySound s) : RegistrySound (depositedState arm i s) := by
  have placed : RegistrySound (settledState i s) := hs.congr rfl
  exact (placed.locateAny (headProbe (settledState i s) arm) (.slot i)).congr rfl

/-- The slot and the registry of a completed deposit (R127). -/
structure Seated (i : Fin 12) (q : Fin 14) (x : Slot) (p : Probe) (s t : State) : Prop where
  slot : slotAt t i = { x with state := .stored, probe := some q, lock := true, settled := true, settleTimer := none }
  entry : entryAt t q = some { p with location := .slot i }
  others : ∀ f : Fin 14, f ≠ q → entryAt t f = entryAt s f

theorem depositedState_seated (found : headProbe s arm = some q) (hp : entryAt s q = some p) (raw : (slotAt s i).raw = true) :
    Seated i q (slotAt s i) p s (depositedState arm i s) where
  slot := by rw [slotAt_depositedState found, if_pos rfl, settledSlot, raw]
  entry := by rw [entryAt_depositedState found hp, if_pos rfl]
  others f hf := by rw [entryAt_depositedState found hp, if_neg hf]

theorem Seated.of_kept {x : Slot} {t v : State} (h : Seated i q x p s t) (slot : slotAt v i = slotAt t i)
    (entry : ∀ f, entryAt v f = entryAt t f) : Seated i q x p s v :=
  ⟨slot.trans h.slot, (entry q).trans h.entry, fun f hf => (entry f).trans (h.others f hf)⟩

theorem Seated.advance {x : Slot} {m : State} (h : Seated i q x p s m) (arm : Arm) (d : ChangeContext) :
    Seated i q x p s (raiseChange arm (m.setChange arm d)) :=
  h.of_kept (slotAt_advance arm d m i) (entryAt_advance arm d m)

/-- PRESENCE_SETTLE_EXPIRY that completes a deposit (R127). -/
theorem exec_deposit (ok : RackOk s) (due : s.due (slotAt s i).settleTimer = true)
    (differs : (slotAt s i).raw ≠ (slotAt s i).settled) (deposit : (s.rack.changes.get arm).phase = .deposit)
    (put : (s.rack.changes.get arm).putSlot = some i) (raw : (slotAt s i).raw = true) :
    exec (.presenceSettleExpiry i) s =
      .next (raiseChange arm (goesOn arm (s.rack.changes.get arm) (depositedState arm i s))) := by
  have advances := expireSettle_awaited ok differs (awaits_iff.mpr (.inl ⟨raw, deposit, put⟩))
  rw [raw, advanceChange, if_pos rfl, completeDeposit_eq] at advances
  exact (if_pos due).trans (congrArg _ advances)

/-- PRESENCE_SETTLE_EXPIRY that completes a pick (R128). -/
theorem exec_pick (ok : RackOk s) (due : s.due (slotAt s i).settleTimer = true)
    (differs : (slotAt s i).raw ≠ (slotAt s i).settled) (pick : (s.rack.changes.get arm).phase = .pick)
    (take : (s.rack.changes.get arm).takeSlot = some i) (raw : (slotAt s i).raw = false) :
    exec (.presenceSettleExpiry i) s = .next (completePick arm i (settledState i s)) := by
  have advances := expireSettle_awaited ok differs (awaits_iff.mpr (.inr ⟨raw, pick, take⟩))
  rw [raw, advanceChange, if_neg Bool.false_ne_true] at advances
  exact (if_pos due).trans (congrArg _ advances)

/-- The take slot with its probe gone to the head (R128). -/
def pickedState (arm : Arm) (i : Fin 12) (s : State) : State :=
  enterSlot i .vacant none (locateAny (slotAt (settledState i s) i).probe (.head arm) (settledState i s))

theorem completePick_eq (arm : Arm) (i : Fin 12) (s : State) : completePick arm i (settledState i s) =
    raiseChange arm ((pickedState arm i s).setChange arm
      { s.rack.changes.get arm with phase := .finish, outcome := .picked }) := rfl

theorem pickedState_unchangedBut (arm : Arm) (i : Fin 12) (s : State) :
    unchangedBut [.slots, .entries] s (pickedState arm i s) :=
  unchangedBut_trans (unchangedBut_mono (by simp) (settledState_unchangedBut i s)) <|
    unchangedBut_trans (unchangedBut_mono (by simp) (locateAny_unchangedBut _ _ _))
      (unchangedBut_mono (by simp) (enterSlot_unchangedBut i .vacant _ _))

theorem pickedState_eq (held : (slotAt s i).probe = some q) (hp : entryAt s q = some p) : pickedState arm i s =
    enterSlot i .vacant none ((settledState i s).setEntry q (some { p with location := .head arm })) := by
  have held' : (slotAt (settledState i s) i).probe = some q := by rw [slotAt_settledState]; exact held
  rw [pickedState, held', locateAny, Option.elim_some, locate_eq_setEntry (s := settledState i s) hp]

theorem slotAt_pickedState (held : (slotAt s i).probe = some q) (hp : entryAt s q = some p) (j : Fin 12) :
    slotAt (pickedState arm i s) j =
      if j = i then { settledSlot (slotAt s i) with state := .vacant, probe := none, lock := true } else slotAt s j := by
  have slot (k : Fin 12) : slotAt ((settledState i s).setEntry q (some { p with location := .head arm })) k =
      slotAt (settledState i s) k := rfl
  rw [pickedState_eq held hp, slotAt_enterSlot, slot, slot]
  split
  · rw [slotAt_settledState]; rfl
  · next away => rw [settledState, slotAt_setSlot, if_neg away]

theorem entryAt_pickedState (held : (slotAt s i).probe = some q) (hp : entryAt s q = some p) (f : Fin 14) :
    entryAt (pickedState arm i s) f = if f = q then some { p with location := .head arm } else entryAt s f := by
  rw [pickedState_eq held hp]
  exact entryAt_setEntry (settledState i s) q f _

end Completed

/-- Settles O45: the awaited level completes the deposit, in the three ways that the change goes on, or the pick. -/
theorem awaitedPresenceAdvancesTheChange : Obligations.AwaitedPresenceAdvancesTheChange := by
  intro arm i s rack changes zones free out differs x c advanced'
  have ok : RackOk s := ⟨rack, changes, zones.1⟩
  have due : s.due (slotAt s i).settleTimer = true := State.due_iff.mpr ⟨free, out⟩
  refine ⟨fun deposit put raw q p hp head => ?_, fun pick take raw q p held hp => ?_⟩
  · intro here ready
    have found : headProbe s arm = some q :=
      headProbe_of_onHead ok.slots (show onHead s arm q by rw [onHead, hp, ← head]; rfl)
    have apart : c.takeSlot ≠ some i := (ok.context arm).distinct i put
    have advances := exec_deposit ok due differs deposit put raw
    have deposited := depositedState_unchangedBut arm i s
    have slots := slotAt_depositedState (i := i) found
    have seat := depositedState_seated found hp raw
    have isHere {t : State} (h : Seated i q x p s t) : here t := ⟨h.slot, h.entry, h.others⟩
    have isReady {u f} : ready u f ↔ readyAt c (depositedState arm i s) u f :=
      (readyAt_depositedState apart found hp head).symm
    have elsewhere (d : ChangeContext) (j : Fin 12) (hj : j ≠ i) :
        slotAt (raiseChange arm ((depositedState arm i s).setChange arm d)) j = slotAt s j := by
      rw [slotAt_advance, slots, if_neg hj]
    refine ⟨fun zero => ?_, fun registry take u f isready => ?_, fun registry take noready => ?_⟩
    · rw [goesOn, if_pos zero] at advances
      exact ⟨_, advances, isHere (seat.advance arm _), elsewhere _, advanced deposited⟩
    · have sound := depositedState_registrySound (arm := arm) (i := i) registry
      have away : u ≠ i := fun same => apart (same ▸ isready.1)
      rw [goesOn_ready take (takeReady_eq_some sound (isReady.mp isready))] at advances
      have taken : Seated i q x p s (enterSlot u .released (some f) (depositedState arm i s)) :=
        seat.of_kept (by rw [slotAt_enterSlot, if_neg away.symm]) fun _ => rfl
      refine ⟨_, advances, isHere (taken.advance arm _), ?_, fun j hi hu => ?_, advanced ?_⟩
      · rw [slotAt_advance, slotAt_enterSlot, if_pos rfl, slots, if_neg away]; rfl
      · rw [slotAt_advance, slotAt_enterSlot, if_neg hu, slots, if_neg hi]
      · exact unchangedBut_trans deposited (unchangedBut_mono (by simp) (enterSlot_unchangedBut u _ _ _))
    · have none : takeReady c (depositedState arm i s) = none := by
        cases h : takeReady c (depositedState arm i s) with
        | none => rfl
        | some uf => exact absurd (isReady.mpr (readyAt_of_takeReady h)) (noready uf.1 uf.2)
      rw [goesOn_lost take none] at advances
      exact ⟨_, advances, isHere (seat.advance arm _), elsewhere _, advanced deposited⟩
  · have slots := slotAt_pickedState (arm := arm) held hp
    have entries := entryAt_pickedState (arm := arm) held hp
    have advances := exec_pick ok due differs pick take raw
    rw [completePick_eq] at advances
    refine ⟨_, advances, ?_, fun j hj => ?_, ?_, fun f hf => ?_, advanced (pickedState_unchangedBut arm i s)⟩
    · rw [slotAt_advance, slots, if_pos rfl, settledSlot, show (slotAt s i).raw = false from raw]
    · rw [slotAt_advance, slots, if_neg hj]
    · rw [entryAt_advance, entries, if_pos rfl]
    · rw [entryAt_advance, entries, if_neg hf]

end Sys2Proof.Machine
end

section
/-! PROOFS. CHANGE_OPEN (R125, R126). -/

namespace Sys2Proof.Machine

/-! ### What the checks of Table 7.4 read -/

section Reads
variable {arm : Arm} {s : State} {n : Nat} {q : Probe}

/-- A property of the mounted probe (R104). -/
theorem headRecord_any (hs : SlotsSound s) (P : Probe → Bool) : (headRecord s arm).any P = true ↔
    ∃ e : Fin 14, ∃ q ∈ entryAt s e, q.location = .head arm ∧ P q = true := by
  constructor
  · intro h
    obtain ⟨q, hq, hP⟩ : ∃ q ∈ headRecord s arm, P q = true := by simpa [Option.any_eq_true] using h
    obtain ⟨e, found, hp⟩ := headRecord_some hq
    obtain ⟨q', hq', head⟩ := (findProbe_some found).1
    cases hp.symm.trans hq'
    exact ⟨e, q, hp, of_decide_eq_true head, hP⟩
  · rintro ⟨e, q, hq, head, hP⟩
    have found := headProbe_of_onHead hs (show onHead s arm e by rw [onHead, Option.mem_def.mp hq, ← head]; rfl)
    rw [headRecord, found, Option.bind_some, Option.mem_def.mp hq]
    exact hP

theorem headRecord_isSome_iff (hs : SlotsSound s) : (headRecord s arm).isSome = true ↔
    ∃ e : Fin 14, ∃ q ∈ entryAt s e, q.location = .head arm := by
  have all := headRecord_any (arm := arm) hs fun _ => true
  simp only [and_true] at all
  rw [← all]
  cases headRecord s arm <;> simp

theorem rackZone_eq_none_iff : rackZone s = none ↔
    ¬ ∃ z : Fin 16, (zoneAt s z).defined = true ∧ (zoneAt s z).kind = .rack := by
  simp [rackZone]

/-- The arm holds the RACK zone that CHANGE_OPEN finds (R61). -/
theorem rackZone_held_iff (hs : TableSound s) {z : Fin 16} (hz : rackZone s = some z) : (zoneAt s z).holder = some arm ↔
    ∃ z : Fin 16, (zoneAt s z).defined = true ∧ (zoneAt s z).kind = .rack ∧ (zoneAt s z).holder = some arm := by
  refine ⟨holdsRack_of_rackZone hz, fun ⟨w, defined, kind, holder⟩ => ?_⟩
  have found := List.find?_some hz
  rw [Bool.and_eq_true, decide_eq_true_eq] at found
  rw [hs.rack z w found.1 defined found.2 kind]
  exact holder

/-- The take probe carries the id (Table 7.4, check 8). -/
theorem takeProbe_id {e : Fin 14} {u : Fin 12} {p : Probe} (h : takeProbe s n = some (e, u, p)) : p.id.toNat = n := by
  rw [takeProbe] at h
  split at h; · cases h
  next found =>
  split at h; · cases h
  next hp =>
  obtain ⟨p', hp', id⟩ := entryAt_of_probeById found
  cases hp.symm.trans hp'
  split at h
  · split at h
    · cases h; exact id
    · cases h
  · cases h

theorem takeProbe_eq_some (hs : RegistrySound s) {e : Fin 14} {p : Probe} {u : Fin 12} (hp : entryAt s e = some p)
    (id : p.id.toNat = n) (there : p.location = .slot u) (stored : (slotAt s u).state = .stored) :
    takeProbe s n = some (e, u, p) := by
  simp only [takeProbe, probeById_of_entryAt hs hp id, hp, there]
  exact if_pos stored

/-- The take probe of Table 7.4, check 8. -/
theorem takeProbe_isSome_iff (hs : RegistrySound s) : (takeProbe s n).isSome = true ↔
    ∃ e : Fin 14, ∃ q ∈ entryAt s e, q.id.toNat = n ∧ ∃ u : Fin 12, q.location = .slot u ∧ (slotAt s u).state = .stored := by
  rw [Option.isSome_iff_exists]
  constructor
  · rintro ⟨⟨e, u, p⟩, h⟩
    obtain ⟨hp, there, stored⟩ := takeProbe_some h
    exact ⟨e, p, hp, takeProbe_id h, u, there, stored⟩
  · rintro ⟨e, p, hp, id, u, there, stored⟩
    exact ⟨_, takeProbe_eq_some hs hp id there stored⟩

/-- The reservation of the take probe (Table 7.4, check 9). -/
theorem takeProbe_reserved_iff (hs : RegistrySound s) (found : (takeProbe s n).isSome = true) {other : Arm} :
    ((takeProbe s n).any fun t => decide (t.2.2.reservation = some other)) = true ↔
      ∃ e : Fin 14, ∃ q ∈ entryAt s e, q.id.toNat = n ∧ q.reservation = some other := by
  obtain ⟨⟨e, u, p⟩, h⟩ := Option.isSome_iff_exists.mp found
  have id := takeProbe_id h
  have hp := (takeProbe_some h).1
  have reserved : ((takeProbe s n).any fun t => decide (t.2.2.reservation = some other)) = true ↔ p.reservation = some other := by
    rw [h]; exact decide_eq_true_iff
  rw [reserved]
  refine ⟨fun there => ⟨e, p, hp, id, there⟩, fun ⟨f, q, hq, idq, there⟩ => ?_⟩
  have same := hs.ids f e q p hq hp (BitVec.eq_of_toNat_eq (idq.trans id.symm))
  cases (same ▸ Option.mem_def.mp hq).symm.trans hp
  exact there

end Reads

/-! ### The request -/

section Open
variable {arm : Arm} {r : Request} {s : State} {n : Nat}

/-- The first check of Table 7.4 that CHANGE_OPEN fails. -/
def openRefusal (arm : Arm) (n : Nat) (s : State) : Option ResultCode :=
  if (s.sup.get arm).state ≠ .running then some .state
  else if ¬ ∃ z : Fin 16, (zoneAt s z).defined = true ∧ (zoneAt s z).kind = .rack then some .notReady
  else if ¬ ∃ z : Fin 16, (zoneAt s z).defined = true ∧ (zoneAt s z).kind = .rack ∧
      (zoneAt s z).holder = some arm then some .notHeld
  else if (s.rack.changes.get arm).phase ≠ .idle then some .busy
  else if 65535 < n then some .outOfRange
  else if n = 0 ∧ ¬ ∃ e : Fin 14, ∃ q ∈ entryAt s e, q.location = .head arm then some .outOfRange
  else if ∃ e : Fin 14, ∃ q ∈ entryAt s e, q.location = .head arm ∧ q.id.toNat = n then some .state
  else if n ≠ 0 ∧ ¬ ∃ e : Fin 14, ∃ q ∈ entryAt s e, q.id.toNat = n ∧
      ∃ u : Fin 12, q.location = .slot u ∧ (slotAt s u).state = .stored then some .noProbe
  else if ∃ e : Fin 14, ∃ q ∈ entryAt s e, q.id.toNat = n ∧ q.reservation = some (otherArm arm) then some .reserved
  else if ∃ e : Fin 14, ∃ q ∈ entryAt s e, q.location = .head arm ∧ (slotAt s q.home).state ≠ .vacant then
    some .slotBusy
  else none

/-- The change opened by a request that passes every check (R126). -/
def openedState (arm : Arm) (n : Nat) (s : State) : State :=
  openChange arm (headRecord s arm) (BitVec.ofNat 16 n) (if n = 0 then none else takeProbe s n) s

/-- No probe carries the id 0 (R103). -/
theorem not_id_zero (hs : RegistrySound s) :
    ¬ ∃ e : Fin 14, ∃ q ∈ entryAt s e, q.id.toNat = 0 ∧ q.reservation = some (otherArm arm) := by
  rintro ⟨e, q, hq, id, -⟩
  exact (hs.probes e q hq).id (BitVec.eq_of_toNat_eq id)

/-- The checks of CHANGE_OPEN from check 8 on (Table 7.4). -/
def openLate (arm : Arm) (n : Nat) (s : State) : Option ResultCode :=
  if n ≠ 0 ∧ ¬ ∃ e : Fin 14, ∃ q ∈ entryAt s e, q.id.toNat = n ∧
      ∃ u : Fin 12, q.location = .slot u ∧ (slotAt s u).state = .stored then some .noProbe
  else if ∃ e : Fin 14, ∃ q ∈ entryAt s e, q.id.toNat = n ∧ q.reservation = some (otherArm arm) then some .reserved
  else if ∃ e : Fin 14, ∃ q ∈ entryAt s e, q.location = .head arm ∧ (slotAt s q.home).state ≠ .vacant then
    some .slotBusy
  else none

/-- An outcome of CHANGE_OPEN: a refusal or the change opened. -/
def openOutcome (arm : Arm) (n : Nat) (s : State) (refusal : Option ResultCode) : Act :=
  refusal.elim (changeAct .ok arm (openedState arm n s)) fun code => changeAct code arm s

theorem openChecked_eq (slots : SlotsSound s) (hs : RegistrySound s) :
    openChecked arm n (headRecord s arm) s = openOutcome arm n s (openLate arm n s) := by
  have busy : ((headRecord s arm).any fun q => decide ((slotAt s q.home).state ≠ .vacant)) = true ↔
      ∃ e : Fin 14, ∃ q ∈ entryAt s e, q.location = .head arm ∧ (slotAt s q.home).state ≠ .vacant := by
    rw [headRecord_any slots]; simp only [decide_eq_true_eq]
  simp only [openChecked, openLate, ← busy, ← takeProbe_isSome_iff hs]
  by_cases zero : n = 0
  · have none := not_id_zero (arm := arm) hs
    subst zero
    simp only [ne_eq, not_true_eq_false, false_and, if_false, none]
    split <;> rfl
  · simp only [ne_eq, zero, not_false_eq_true, true_and]
    cases found : (takeProbe s n).isSome with
    | false => rw [if_pos (by simpa using found), if_pos Bool.false_ne_true]; rfl
    | true =>
      simp only [← takeProbe_reserved_iff hs found]
      rw [if_neg (by simpa [Option.isSome_iff_ne_none] using found), if_neg (not_not.mpr trivial)]
      split
      · rfl
      split
      · rfl
      · simp only [openOutcome, openedState, zero]; rfl

theorem changeOpenBy_eq (table : TableSound s) (slots : SlotsSound s) (hs : RegistrySound s) :
    changeOpenBy arm r s = openOutcome arm r.d0.toNat s (openRefusal arm r.d0.toNat s) := by
  have same : ((headRecord s arm).any fun q => decide (q.id.toNat = r.d0.toNat)) = true ↔
      ∃ e : Fin 14, ∃ q ∈ entryAt s e, q.location = .head arm ∧ q.id.toNat = r.d0.toNat := by
    rw [headRecord_any slots]; simp only [decide_eq_true_eq]
  have late := openChecked_eq (arm := arm) (n := r.d0.toNat) slots hs
  rw [openRefusal, ← openLate]
  simp only [changeOpenBy, ← same, ← headRecord_isSome_iff slots]
  by_cases running : (s.sup.get arm).state ≠ .running
  · rw [if_pos running, if_pos running]; rfl
  rw [if_neg running, if_neg running]
  cases hz : rackZone s with
  | none => rw [if_pos (rackZone_eq_none_iff.mp hz)]; rfl
  | some z =>
    have zone : ¬ ¬ ∃ z : Fin 16, (zoneAt s z).defined = true ∧ (zoneAt s z).kind = .rack := by
      rw [← rackZone_eq_none_iff, hz]; nofun
    have held := rackZone_held_iff (arm := arm) table hz
    have idle : changeOpen s arm = true ↔ (s.rack.changes.get arm).phase ≠ .idle := decide_eq_true_iff
    have off : (headRecord s arm).isNone = true ↔ ¬ (headRecord s arm).isSome = true := by cases headRecord s arm <;> simp
    rw [if_neg zone]
    simp only [← held, idle, off, late, apply_ite (openOutcome arm r.d0.toNat s)]
    rfl

/-- A CHANGE_OPEN that passes every check finds its take probe (Table 7.4, check 8). -/
theorem takeProbe_of_openRefusal (hs : RegistrySound s) (h : openRefusal arm n s = none) (take : n ≠ 0) :
    (takeProbe s n).isSome = true := by
  rw [takeProbe_isSome_iff hs]
  by_contra no
  simp only [openRefusal, ne_eq, take, no, not_false_eq_true, and_self, if_true] at h
  split_ifs at h

/-- The checks of Table 7.4 read nothing that the acceptance of their frame changes. -/
theorem openRefusal_acceptFrame (l : Link) : openRefusal arm n (acceptFrame l s) = openRefusal arm n s := by
  simp only [openRefusal, (acceptFrame_moves l s arm).state, zoneAt_acceptFrame, acceptFrame_rack, entryAt_acceptFrame,
    slotAt_acceptFrame]

theorem headRecord_acceptFrame (l : Link) : headRecord (acceptFrame l s) arm = headRecord s arm := by
  have entry : entryAt (acceptFrame l s) = entryAt s := funext (entryAt_acceptFrame l s)
  rw [headRecord, headProbe_congr (s := s) (by rw [acceptFrame_registry]), entry, headRecord]

theorem takeProbe_acceptFrame (l : Link) : takeProbe (acceptFrame l s) n = takeProbe s n := by
  have entry : entryAt (acceptFrame l s) = entryAt s := funext (entryAt_acceptFrame l s)
  have slot : slotAt (acceptFrame l s) = slotAt s := funext (slotAt_acceptFrame l s)
  simp only [takeProbe, probeById, findProbe, entry, slot]

end Open

section Opened
variable {arm : Arm} {r : Request} {s : State}

theorem changeOpenBy_accepted (rack : RackSound s) (registry : RegistrySound s) (zones : ZonesSound s) :
    changeOpenBy arm r (acceptFrame (linkOf arm) s) =
      openOutcome arm r.d0.toNat (acceptFrame (linkOf arm) s) (openRefusal arm r.d0.toNat s) := by
  have table : TableSound (acceptFrame (linkOf arm) s) := zones.1.congr (by rw [acceptFrame_zones])
  have slots : SlotsSound (acceptFrame (linkOf arm) s) :=
    (rackSound_iff.mp rack).1.congr (by rw [acceptFrame_rack]) (by rw [acceptFrame_registry])
  rw [changeOpenBy_eq table slots (registry.congr (acceptFrame_registry _ _)), openRefusal_acceptFrame]

/-- The context of a change just opened (R126). -/
def openedContext (s : State) (phase : Phase) (put : Option (Fin 12)) (deposited : Option Half) (take : Option (Fin 12))
    (n : Nat) : ChangeContext :=
  { phase := phase, putSlot := put, depositedId := deposited, takeSlot := take, takeId := BitVec.ofNat 16 n,
    outcome := .opened, timer := some ⟨s.cellTime, s.rack.changeTimeout * 1000⟩ }

/-- A slot released for a change of the arm and its context written (R126). -/
def releasedState (arm : Arm) (i : Fin 12) (probe : Option (Fin 14)) (d : ChangeContext) (s : State) : State :=
  (enterSlot i .released probe (acceptFrame (linkOf arm) s)).setChange arm d

theorem releasedState_unchangedBut (arm : Arm) (i : Fin 12) (probe : Option (Fin 14)) (d : ChangeContext) (s : State) :
    unchangedBut [.slots, .change arm] (acceptFrame (linkOf arm) s) (releasedState arm i probe d s) :=
  unchangedBut_append (l := [.slots]) (enterSlot_unchangedBut i .released probe _) (setChange_unchangedBut _ arm d)

theorem slotAt_releasedState (arm : Arm) (i j : Fin 12) (probe : Option (Fin 14)) (d : ChangeContext) (s : State) :
    slotAt (releasedState arm i probe d s) j =
      if j = i then { slotAt s i with state := .released, probe := probe, lock := false } else slotAt s j := by
  have slot : slotAt (releasedState arm i probe d s) j =
      slotAt (enterSlot i .released probe (acceptFrame (linkOf arm) s)) j := rfl
  rw [slot, slotAt_enterSlot, slotAt_acceptFrame, slotAt_acceptFrame]
  rfl

/-- CHANGE_OPEN that passes every check releases one slot (R126). -/
theorem changeOpen_released (ha : onArm arm r s) {i : Fin 12} {probe : Option (Fin 14)} {d : ChangeContext}
    (taken : changeOpenBy arm r (acceptFrame (linkOf arm) s) =
      changeAct .ok arm (raiseChange arm (releasedState arm i probe d s))) :
    let t := changedState arm s (releasedState arm i probe d s)
    exec (.changeOpen r) s = .next t ∧
    slotAt t i = { slotAt s i with state := .released, probe := probe, lock := false } ∧
    (∀ j : Fin 12, j ≠ i → slotAt t j = slotAt s j) ∧ ChangeEnd arm d s t ∧
    unchangedBut [.port (linkOf arm), .slots, .change arm, .changeSource arm, .supervisor arm, .permitSource arm] s t := by
  intro t
  have reached := releasedState_unchangedBut arm i probe d s
  have slot (j : Fin 12) : slotAt t j = slotAt (releasedState arm i probe d s) j :=
    congrArg (vget · j) (changedState_left arm s _ (b := .slots) (by simp))
  refine ⟨congrArg Host.Outcome.next (handleRequest_onArm ha (fun arm => changeOpenBy arm r) taken), ?_, fun j hj => ?_,
    changedState_end reached (by simp [protocolBlocks]) (PerArm.get_set_same ..),
    unchangedBut_mono (by simp) (changedState_unchangedBut reached (by simp [protocolBlocks]))⟩
  · rw [slot, slotAt_releasedState, if_pos rfl]
  · rw [slot, slotAt_releasedState, if_neg hj]

end Opened

section Openings
variable {arm : Arm} {n : Nat} {s : State} {take : Option (Fin 12 × Fin 14)}

/-- The probe that the statement names is the take probe of the checks. -/
theorem takeProbe_named (hs : RegistrySound s) (h : openRefusal arm n s = none) (take : n ≠ 0) {k : Fin 12 × Fin 14} {p : Probe}
    (hp : entryAt s k.2 = some p) (id : p.id.toNat = n) (there : p.location = .slot k.1) :
    takeProbe s n = some (k.2, k.1, p) := by
  obtain ⟨⟨e, u, q⟩, found⟩ := Option.isSome_iff_exists.mp (takeProbe_of_openRefusal hs h take)
  obtain ⟨hq, at_, -⟩ := takeProbe_some found
  have same := hs.ids e k.2 q p hq hp (BitVec.eq_of_toNat_eq ((takeProbe_id found).trans id.symm))
  subst same
  cases hq.symm.trans hp
  cases at_.symm.trans there
  exact found

/-- A change opened with a probe on the head releases its home slot (R126). -/
theorem openedState_deposit {e : Fin 14} {q : Probe} (slots : SlotsSound s) (hq : entryAt s e = some q)
    (head : q.location = .head arm) (found : (if n = 0 then none else takeProbe s n).map (fun t => t.2.1) = take.map Prod.fst) :
    openedState arm n (acceptFrame (linkOf arm) s) = raiseChange arm (releasedState arm q.home none
      (openedContext s .deposit (some q.home) (some q.id) (take.map Prod.fst) n) s) := by
  have mounted : headRecord s arm = some q := by
    rw [headRecord, headProbe_of_onHead slots (show onHead s arm e by rw [onHead, hq, ← head]; rfl)]
    exact hq
  rw [openedState, headRecord_acceptFrame, takeProbe_acceptFrame, mounted, releasedState, openedContext, ← found]
  simp only [openChange, State.timer, acceptFrame_cellTime, acceptFrame_rack]

/-- A change opened with an empty head releases the slot of the take probe (R126). -/
theorem openedState_pick {k : Fin 12 × Fin 14} {p : Probe} (free : headRecord s arm = none)
    (found : (if n = 0 then none else takeProbe s n) = some (k.2, k.1, p)) :
    openedState arm n (acceptFrame (linkOf arm) s) = raiseChange arm (releasedState arm k.1 (some k.2)
      (openedContext s .pick none none (some k.1) n) s) := by
  rw [openedState, headRecord_acceptFrame, takeProbe_acceptFrame, free, found, releasedState, openedContext]
  simp only [openChange, State.timer, acceptFrame_cellTime, acceptFrame_rack]
  rfl

end Openings

/-- Settles O46: the refusals are those of `openRefusal`, and either opening releases one slot. -/
theorem changeOpenReleasesASlot : Obligations.ChangeOpenReleasesASlot := by
  intro arm r s ha rack registry zones l n words refusal opened timer
  have hwords (code : ResultCode) (u : State) : words code u = changeWords code arm u := (changeWords_eq code arm u).symm
  have outcome := changeOpenBy_accepted (arm := arm) (r := r) rack registry zones
  have slots := (rackSound_iff.mp rack).1
  refine ⟨fun code h => ?_, fun h take zero some => ?_⟩
  · rw [show openRefusal arm r.d0.toNat s = Option.some code from h] at outcome
    rw [hwords]
    exact congrArg Host.Outcome.next (handleRequest_changeAct ha (fun arm => changeOpenBy arm r) outcome)
  have passed : openRefusal arm n s = none := h
  rw [show openRefusal arm r.d0.toNat s = none from h] at outcome
  have isOpened {t : State} {d : ChangeContext} (hd : d.outcome = .opened) (ends : ChangeEnd arm d s t)
      (kept : unchangedBut [.port l, .slots, .change arm, .changeSource arm, .supervisor arm, .permitSource arm] s t) :
      opened t d :=
    ⟨ends.change, by rw [hwords]; exact ends.port, ends.sup, by rw [← hd]; exact ends.source, kept⟩
  refine ⟨fun e q hq head => ?_, fun free k hk => ?_⟩
  · have found : (if n = 0 then none else takeProbe s n).map (fun t => t.2.1) = take.map Prod.fst := by
      by_cases none : n = 0
      · rw [if_pos none, zero none]; rfl
      · obtain ⟨k, hk, p, hp, id, there⟩ := some none
        rw [if_neg none, takeProbe_named registry passed none hp id there, Option.mem_def.mp hk]
        rfl
    have opens := openedState_deposit (take := take) slots hq head found
    obtain ⟨exec, slot, others, ends, kept⟩ := changeOpen_released ha (outcome.trans (congrArg (changeAct .ok arm) opens))
    exact ⟨_, exec, slot, others, isOpened rfl ends kept⟩
  · have unmounted : headRecord s arm = none := by
      rw [← Option.not_isSome_iff_eq_none, headRecord_isSome_iff slots]
      rintro ⟨e, q, hq, head⟩
      exact free e q hq head
    have takes : n ≠ 0 := by
      intro no
      rw [zero no] at hk
      cases hk
    obtain ⟨k', hk', p, hp, id, there⟩ := some takes
    cases (Option.mem_def.mp hk').symm.trans hk
    have opens := openedState_pick unmounted ((if_neg takes).trans (takeProbe_named registry passed takes hp id there))
    obtain ⟨exec, slot, others, ends, kept⟩ := changeOpen_released ha (outcome.trans (congrArg (changeAct .ok arm) opens))
    exact ⟨_, exec, slot, others, isOpened rfl ends kept⟩

end Sys2Proof.Machine
end

section
/-! PROOFS. The attention units: events, ATTN_ENABLE, ATTN_TAKE and ATTN_DONE (R150 to R155). -/

namespace Sys2Proof.Machine

/-! ### A request that rewrites the unit of its link -/

section Units
variable {s : State} {arm : Arm} {act : State → Act} {reply : Reply} {v : ArmUnit}

/-- The state after a request on the Cell link that rewrites its unit. -/
theorem handleRequest_cellUnit {u : CellUnit} (ht : takesFrame .cell s = true)
    (h : act (acceptFrame .cell s) = ⟨(acceptFrame .cell s).modCellUnit fun _ => u, reply, .plain⟩) :
    handleRequest .allLinks .cell act s = answered .cell reply { s with attn := { s.attn with cell := u } } := by
  rw [handleRequest_permitted ht rfl, h]
  exact writeReply_conclude_cell (t := s.modCellUnit fun _ => u) rfl reply

/-- The state after a request on an arm link that rewrites its unit to `v`. -/
def writtenUnit (arm : Arm) (reply : Reply) (v : ArmUnit) (s : State) : State :=
  endEvent (linkOf arm) reply s ((acceptFrame (linkOf arm) s).setArmUnit arm v)

/-- What a request that rewrites the unit of an arm link to `v` leaves: the judgement at the end of the frame is that of
every accepted frame, and PERMIT is raised upon `v` where it changes the command (R101). -/
structure UnitEnd (arm : Arm) (reply : Reply) (v : ArmUnit) (s t : State) : Prop where
  port : t.ports.get (linkOf arm) = answeredPort reply
  sup : t.sup.get arm = (frameEnded (linkOf arm) s).sup.get arm
  unit : t.attn.arms.get arm = { v with
    permit := if (t.sup.get arm).command = (s.sup.get arm).command then v.permit
      else v.permit.raise fun _ => some ((t.sup.get arm).command, (t.sup.get arm).state) }

theorem handleRequest_armUnit (ht : takesFrame (linkOf arm) s = true)
    (h : act (acceptFrame (linkOf arm) s) = ⟨(acceptFrame (linkOf arm) s).setArmUnit arm v, reply, .plain⟩) :
    handleRequest .allLinks (linkOf arm) act s = writtenUnit arm reply v s := by
  rw [handleRequest_permitted ht rfl, h]
  rfl

/-- What reaches no source of an arm link's unit but PERMIT. -/
theorem armUnit_of_unchangedBut {s t : State} {bs : List Block} (h : unchangedBut bs s t)
    (apart : ∀ b ∈ [Block.armMaster arm, .changeSource arm, .claimSource arm, .compSource arm], b ∉ bs) :
    t.attn.arms.get arm = { s.attn.arms.get arm with permit := (t.attn.arms.get arm).permit } := by
  have master : (t.attn.arms.get arm).master = (s.attn.arms.get arm).master := h (.armMaster arm) (apart _ (by simp))
  have change : (t.attn.arms.get arm).change = (s.attn.arms.get arm).change := h (.changeSource arm) (apart _ (by simp))
  have claim : (t.attn.arms.get arm).claim = (s.attn.arms.get arm).claim := h (.claimSource arm) (apart _ (by simp))
  have comp : (t.attn.arms.get arm).comp = (s.attn.arms.get arm).comp := h (.compSource arm) (apart _ (by simp))
  simp only [← master, ← change, ← claim, ← comp]

theorem writtenUnit_end (arm : Arm) (reply : Reply) (v : ArmUnit) (s : State) :
    UnitEnd arm reply v s (writtenUnit arm reply v s) := by
  have kept := endEvent_unchangedBut (linkOf arm) reply s ((acceptFrame (linkOf arm) s).setArmUnit arm v)
  have written : ((acceptFrame (linkOf arm) s).setArmUnit arm v).attn.arms.get arm = v := PerArm.get_set_same ..
  have command : ((acceptFrame (linkOf arm) s).sup.get arm).command = (s.sup.get arm).command := by rw [acceptFrame_own]
  have source := (conclude_permit s .plain ((acceptFrame (linkOf arm) s).setArmUnit arm v) arm).source
  rw [State.setArmUnit_sup, command, written] at source
  have sup : (writtenUnit arm reply v s).sup.get arm = (frameEnded (linkOf arm) s).sup.get arm := by
    rw [writtenUnit, endEvent_sup, frameEnded]
    exact conclude_sup_congr (by rw [State.setArmUnit_sup]) (State.setArmUnit_cellTime ..) s .plain
  refine ⟨endEvent_port (by rw [State.setArmUnit_ports]) reply, sup, ?_⟩
  rw [writtenUnit, armUnit_of_unchangedBut kept (by cases arm <;> decide), written, endEvent_sup]
  exact congrArg (fun p => { v with permit := p }) source

theorem writtenUnit_unchangedBut (arm : Arm) (reply : Reply) (v : ArmUnit) (s : State) :
    unchangedBut [.port (linkOf arm), .supervisor arm, .armMaster arm, .permitSource arm, .changeSource arm,
      .claimSource arm, .compSource arm] s (writtenUnit arm reply v s) := by
  have other : ((acceptFrame (linkOf arm) s).setArmUnit arm v).sup.get (otherArm arm) = s.sup.get (otherArm arm) := by
    rw [State.setArmUnit_sup, acceptFrame_sup_other]
  refine unchangedBut_trans (unchangedBut_mono (by simp) (acceptFrame_arm_unchangedBut arm s)) <|
    unchangedBut_trans (unchangedBut_mono (by simp) (setArmUnit_unchangedBut (acceptFrame (linkOf arm) s) arm v)) <|
    unchangedBut_mono (by simp) (endEvent_unchangedBut_of_other_same other (linkOf arm) reply)

/-- A unit rewritten with its master enable kept. -/
theorem writtenUnit_unchangedBut_sources (master : v.master = (s.attn.arms.get arm).master) (reply : Reply) :
    unchangedBut [.port (linkOf arm), .supervisor arm, .permitSource arm, .changeSource arm, .claimSource arm,
      .compSource arm] s (writtenUnit arm reply v s) := by
  intro b hb
  by_cases own : b = .armMaster arm
  · subst own
    exact (congrArg ArmUnit.master (writtenUnit_end arm reply v s).unit).trans master
  · refine writtenUnit_unchangedBut arm reply v s b fun hin => hb ?_
    simp only [List.mem_cons, List.not_mem_nil, or_false, own, false_or] at hin ⊢
    exact hin

end Units

/-! ### Marks and enables (R151, R155) -/

/-- A member added to a set (R151). -/
theorem addMark_getLsbD_iff {n k : Nat} (set : BitVec n) (i : Nat) (hk : k < n) :
    (addMark set i).getLsbD k = true ↔ set.getLsbD k = true ∨ k = i := by
  rw [addMark_getLsbD set i hk, Bool.or_eq_true, decide_eq_true_iff]

theorem enabled_eq {δ : Type} (on : Bool) (empty : δ) (src : Source δ) : src.enabled on empty =
    { enable := on, pending := src.pending && on, inService := src.inService
      detail := if on then src.detail else empty } := by
  cases on <;> simp [Source.enabled]

theorem listMarks_lt (bs : List Bool) : listMarks bs < 2 ^ bs.length := by
  induction bs with
  | nil => simp [listMarks]
  | cons b bs ih =>
    have : flag b ≤ 1 := by cases b <;> decide
    simp only [listMarks, List.length_cons, pow_succ]
    omega

/-- The sets of a unit of at most eight sources, the in-service set in byte 1 (Table A.5). -/
theorem unitSets_eq {fs : List SourceFlags} (h : fs.length ≤ 8) : unitSets fs =
    packed [(0, listMarks (fs.map SourceFlags.pending)), (8, listMarks (fs.map SourceFlags.inService))] := by
  have small : listMarks (fs.map SourceFlags.pending) < 2 ^ 8 := by
    refine (listMarks_lt _).trans_le (Nat.pow_le_pow_right (by decide) ?_)
    rwa [List.length_map]
  rw [unitSets, at_zero, packed_or_at (by simpa using small)]
  rfl

end Sys2Proof.Machine
end

section
/-! PROOFS. ATTN_ENABLE, ATTN_TAKE and ATTN_DONE on the units of the links (R153 to R155). -/

namespace Sys2Proof.Machine

section Requests
variable {r : Request} {s : State} {arm : Arm}

/-! ### ATTN_ENABLE (R155) -/

theorem cellSets_eq (v : CellUnit) : unitSets v.flags =
    packed [(0, flag v.fault.pending), (1, flag v.rack.pending), (2, flag v.model.pending), (3, flag v.sensor.pending),
      (4, flag v.probe.pending), (5, flag v.touch.pending), (8, flag v.fault.inService), (9, flag v.rack.inService),
      (10, flag v.model.inService), (11, flag v.sensor.inService), (12, flag v.probe.inService),
      (13, flag v.touch.inService)] := by
  rw [unitSets_eq (by simp [CellUnit.flags]), packed, packed]
  simp only [CellUnit.flags, Source.flags, List.map_cons, List.map_nil, listMarks, List.sum_cons, List.sum_nil]
  congr 1
  omega

theorem armSets_eq (v : ArmUnit) : unitSets v.flags =
    packed [(0, flag v.permit.pending), (1, flag v.change.pending), (2, flag v.claim.pending), (3, flag v.comp.pending),
      (8, flag v.permit.inService), (9, flag v.change.inService), (10, flag v.claim.inService),
      (11, flag v.comp.inService)] := by
  rw [unitSets_eq (by simp [ArmUnit.flags]), packed, packed]
  simp only [ArmUnit.flags, Source.flags, List.map_cons, List.map_nil, listMarks, List.sum_cons, List.sum_nil]
  congr 1
  omega

theorem attnEnable_onCellLink (hl : r.link = .cell) : attnEnable r s =
    if 1 < r.d0.toNat ∨ 63 < r.d1.toNat then refuse .outOfRange s
    else okay (s.modCellUnit (enableCell (decide (r.d0 = 1)) r.d1)) r.d0 r.d1
      (unitSets (enableCell (decide (r.d0 = 1)) r.d1 s.attn.cell).flags) := by
  simp only [attnEnable, hl, armOf]
  rfl

theorem attnEnable_onArmLink (hl : r.link = linkOf arm) : attnEnable r s =
    if 1 < r.d0.toNat ∨ 15 < r.d1.toNat then refuse .outOfRange s
    else okay (s.modArmUnit arm (enableArm (decide (r.d0 = 1)) r.d1)) r.d0 r.d1
      (unitSets (enableArm (decide (r.d0 = 1)) r.d1 (s.attn.arms.get arm)).flags) := by
  have flags (u : ArmUnit) : unitFlags (s.setArmUnit arm u) (linkOf arm) = u.flags := by
    simp [unitFlags, armOf_linkOf]
  simp only [attnEnable, hl, armOf_linkOf, State.modArmUnit, flags]
  rfl

/-! ### The sources of a unit -/

theorem unitFlags_acceptFrame (l k : Link) (s : State) : unitFlags (acceptFrame l s) k = unitFlags s k := by
  simp only [unitFlags, acceptFrame_attn]

theorem eligibleCode_acceptFrame (l k : Link) (s : State) : eligibleCode (acceptFrame l s) k = eligibleCode s k := by
  rw [eligibleCode, unitFlags_acceptFrame, eligibleCode]

theorem unitFlags_arm (arm : Arm) (s : State) : unitFlags s (linkOf arm) = (s.attn.arms.get arm).flags := by
  rw [unitFlags, armOf_linkOf]

theorem attnTake_none {l : Link} (h : eligibleCode s l = none) :
    attnTake l (acceptFrame l s) = refuse .none (acceptFrame l s) := by
  rw [attnTake, eligibleCode_acceptFrame, h]

/-- ATTN_TAKE with an eligible source on the Cell link (R153). -/
theorem attnTake_onCell {code : Nat} (hc : onCell r s) (h : eligibleCode s .cell = some code) :
    exec (.attnTake r) s = .next (answered .cell
      { code := .ok, d0 := packed [(0, code)], d1 := (takeCell code s.attn.cell).2.1
        d2 := (takeCell code s.attn.cell).2.2 }
      { s with attn := { s.attn with cell := (takeCell code s.attn.cell).1 } }) := by
  obtain ⟨hl, ht⟩ := hc
  refine congrArg Host.Outcome.next ?_
  rw [hl]
  refine handleRequest_cellUnit ht ?_
  simp only [attnTake, eligibleCode_acceptFrame, h, armOf, at_zero]
  rfl

/-- ATTN_TAKE with an eligible source on an arm link (R153). -/
theorem attnTake_onArm {code : Nat} (ha : onArm arm r s) (h : eligibleCode s (linkOf arm) = some code) :
    exec (.attnTake r) s = .next (writtenUnit arm
      { code := .ok, d0 := packed [(0, code)], d1 := (takeArm code (s.attn.arms.get arm)).2.1
        d2 := (takeArm code (s.attn.arms.get arm)).2.2 } (takeArm code (s.attn.arms.get arm)).1 s) := by
  obtain ⟨hl, ht⟩ := ha
  refine congrArg Host.Outcome.next ?_
  rw [hl]
  refine handleRequest_armUnit ht ?_
  simp only [attnTake, eligibleCode_acceptFrame, h, armOf_linkOf, acceptFrame_attn, at_zero]
  rfl

/-- ATTN_DONE with a source in service on the Cell link (R154). -/
theorem attnDone_onCell {code : Nat} (hc : onCell r s) (h : inServiceFrom 1 s.attn.cell.flags = some code) :
    exec (.attnDone r) s = .next (answered .cell { code := .ok, d0 := packed [(0, code)], d1 := 0, d2 := 0 }
      { s with attn := { s.attn with cell := doneCell code s.attn.cell } }) := by
  obtain ⟨hl, ht⟩ := hc
  refine congrArg Host.Outcome.next ?_
  rw [hl]
  refine handleRequest_cellUnit ht ?_
  have flags : unitFlags (acceptFrame .cell s) .cell = s.attn.cell.flags := rfl
  simp only [attnDone, flags, h, armOf, at_zero]
  rfl

/-- ATTN_DONE with a source in service on an arm link (R154). -/
theorem attnDone_onArm {code : Nat} (ha : onArm arm r s)
    (h : inServiceFrom 1 (s.attn.arms.get arm).flags = some code) :
    exec (.attnDone r) s = .next (writtenUnit arm { code := .ok, d0 := packed [(0, code)], d1 := 0, d2 := 0 }
      (doneArm code (s.attn.arms.get arm)) s) := by
  obtain ⟨hl, ht⟩ := ha
  refine congrArg Host.Outcome.next ?_
  rw [hl]
  refine handleRequest_armUnit ht ?_
  simp only [attnDone, unitFlags_arm, h, armOf_linkOf, State.modArmUnit, acceptFrame_attn, at_zero]
  rfl

/-- ATTN_DONE with no source in service (R154). -/
theorem attnDone_none {l : Link} (h : inServiceFrom 1 (unitFlags s l) = none) :
    attnDone l (acceptFrame l s) = refuse .none (acceptFrame l s) := by
  rw [attnDone, unitFlags_acceptFrame, h]

/-- The source of highest rank in service on the Cell link (Table 9.1). -/
theorem inService_cell (u : CellUnit) : inServiceFrom 1 u.flags =
    if u.fault.inService then some 1 else if u.rack.inService then some 2 else if u.model.inService then some 3
    else if u.sensor.inService then some 4 else if u.probe.inService then some 5
    else if u.touch.inService then some 6 else none := rfl

/-- The source of highest rank in service on an arm link (Table 9.1). -/
theorem inService_arm (u : ArmUnit) : inServiceFrom 1 u.flags =
    if u.permit.inService then some 1 else if u.change.inService then some 2 else if u.claim.inService then some 3
    else if u.comp.inService then some 4 else none := rfl

theorem setAt_zero {n : Nat} (h : n ≤ 32) (set : BitVec n) : setAt 0 set = packed [(0, set.toNat)] := by
  apply BitVec.eq_of_toNat_eq
  simp [setAt, packed, Nat.mod_eq_of_lt (set.isLt.trans_le (Nat.pow_le_pow_right (by decide) h))]

theorem SupState.num_lt (st : SupState) : st.num < 256 := by cases st <;> decide

theorem permitDetail_eq (d : Option (Bool × SupState)) :
    permitDetail d = d.elim 0 fun d => packed [(0, flag d.1), (8, d.2.num)] := by
  cases d with
  | none => rfl
  | some d =>
    have : flag d.1 < 256 := by cases d.1 <;> decide
    rw [permitDetail, at_zero, packed_or_at (by simpa using this)]
    rfl

theorem changeDetail_eq (d : Option (Phase × ChangeOutcome)) :
    changeDetail d = d.elim 0 fun d => packed [(0, d.1.num), (8, d.2.num)] := by
  cases d with
  | none => rfl
  | some d =>
    rw [changeDetail, at_zero, packed_or_at (by simpa using d.1.num_lt)]
    rfl

theorem takeArm_master (code : Nat) (u : ArmUnit) : (takeArm code u).1.master = u.master := by
  simp only [takeArm]; split <;> rfl

theorem doneArm_master (code : Nat) (u : ArmUnit) : (doneArm code u).master = u.master := by
  simp only [doneArm]; split <;> rfl

/-- A request on an arm link without a source to act on. -/
theorem attn_arm_none {act : Link → State → Act} (ha : onArm arm r s)
    (h : act (linkOf arm) (acceptFrame (linkOf arm) s) = refuse .none (acceptFrame (linkOf arm) s)) :
    handleRequest .allLinks r.link (act r.link) s =
      answered (linkOf arm) { code := .none, d0 := 0, d1 := 0, d2 := 0 } (frameEnded (linkOf arm) s) := by
  obtain ⟨hl, ht⟩ := ha
  rw [hl]
  exact handleRequest_answered ht rfl h

/-- A request on the Cell link without a source to act on. -/
theorem attn_cell_none {act : Link → State → Act} (hc : onCell r s)
    (h : act .cell (acceptFrame .cell s) = refuse .none (acceptFrame .cell s)) :
    handleRequest .allLinks r.link (act r.link) s = refusedOnCell .none s := by
  obtain ⟨hl, ht⟩ := hc
  rw [hl, handleRequest_permitted ht rfl, h]
  exact writeReply_conclude_cell rfl _

end Requests

/-- Settles O53: each operation on a source is its own equation, and ATTN_ENABLE rewrites the unit of its link. -/
theorem eventsAndEnablesMoveTheSources : Obligations.EventsAndEnablesMoveTheSources := by
  refine ⟨⟨fun δ update src => ⟨fun off => ?_, fun on => ?_⟩, fun n k set i hk => addMark_getLsbD_iff set i hk,
    fun _ _ => rfl, fun _ _ => rfl, fun _ _ => rfl⟩, fun r s => ⟨fun δ => enabled_eq, fun hc => ?_, fun arm ha => ?_⟩⟩
  · rw [Source.raise, off]; rfl
  · rw [Source.raise, if_pos on]; exact ⟨rfl, rfl, on, rfl⟩
  · obtain ⟨hl, ht⟩ := hc
    have act := attnEnable_onCellLink (s := acceptFrame .cell s) hl
    refine congrArg Host.Outcome.next ?_
    by_cases bad : 1 < r.d0.toNat ∨ 63 < r.d1.toNat
    · rw [if_pos bad] at act ⊢
      rw [hl, handleRequest_permitted ht rfl, act]
      exact writeReply_conclude_cell rfl _
    · rw [if_neg bad, cellSets_eq] at act
      rw [if_neg bad, hl]
      exact handleRequest_cellUnit ht act
  · obtain ⟨hl, ht⟩ := ha
    intro l u v
    have act := attnEnable_onArmLink (s := acceptFrame l s) hl
    refine ⟨fun bad => congrArg Host.Outcome.next ?_, fun master marks => ?_⟩
    · rw [hl]
      exact handleRequest_answered ht rfl (act.trans (if_pos bad))
    · rw [if_neg (by omega), armSets_eq, State.modArmUnit, acceptFrame_attn] at act
      obtain ⟨port, sup, unit⟩ := writtenUnit_end arm { code := .ok, d0 := r.d0, d1 := r.d1, d2 := _ } v s
      refine ⟨_, ?_, port, sup, unit, writtenUnit_unchangedBut _ _ _ _⟩
      refine congrArg Host.Outcome.next ?_
      rw [hl]
      exact handleRequest_armUnit ht act

/-- Settles O54: the unit of the link is rewritten at the source that its flags single out. -/
theorem sourcesAreTakenAndDone : Obligations.SourcesAreTakenAndDone := by
  constructor
  · intro r s hc u took finished
    have finish {code : Nat} (h : inServiceFrom 1 u.flags = some code) : finished code (doneCell code u) :=
      attnDone_onCell hc h
    rw [inService_cell] at finish
    have take {code : Nat} (h : eligibleCode s .cell = some code) :
        took code (takeCell code u).2.1 (takeCell code u).2.2 (takeCell code u).1 := attnTake_onCell hc h
    refine ⟨fun h => congrArg _ (attn_cell_none hc (attnTake_none h)), fun h => ?_, fun h => ?_, fun h => ?_,
      fun h => ?_, fun h => ?_, fun h => ?_, ?_⟩
    · rw [← setAt_zero (by decide)]; exact take h
    · rw [← setAt_zero (by decide)]; exact take h
    · rw [← at_zero]; exact take h
    · rw [← setAt_zero (by decide)]; exact take h
    · rw [← setAt_zero (by decide)]; exact take h
    · rw [← setAt_zero (by decide)]; exact take h
    · split_ifs with h1 h2 h3 h4 h5 h6
      · exact finish (if_pos h1)
      · exact finish (by rw [if_neg h1, if_pos h2])
      · exact finish (by rw [if_neg h1, if_neg h2, if_pos h3])
      · exact finish (by rw [if_neg h1, if_neg h2, if_neg h3, if_pos h4])
      · exact finish (by rw [if_neg h1, if_neg h2, if_neg h3, if_neg h4, if_pos h5])
      · exact finish (by rw [if_neg h1, if_neg h2, if_neg h3, if_neg h4, if_neg h5, if_pos h6])
      · refine congrArg _ (attn_cell_none hc (attnDone_none ?_))
        have flags : unitFlags s .cell = u.flags := rfl
        rw [flags, inService_cell, if_neg h1, if_neg h2, if_neg h3, if_neg h4, if_neg h5, if_neg h6]
  · intro arm r s ha l u ended none3 done
    have ends {i : Instr} {reply : Reply} {v : ArmUnit} (master : v.master = u.master)
        (h : exec i s = .next (writtenUnit arm reply v s)) : ended i reply v := by
      obtain ⟨port, sup, unit⟩ := writtenUnit_end arm reply v s
      exact ⟨_, h, port, sup, unit, writtenUnit_unchangedBut_sources master reply⟩
    have take {code : Nat} (h : eligibleCode s l = some code) :
        ended (.attnTake r) ⟨.ok, packed [(0, code)], (takeArm code u).2.1, (takeArm code u).2.2⟩ (takeArm code u).1 :=
      ends (takeArm_master code u) (attnTake_onArm ha h)
    have number (w : Word) : packed [(0, w.toNat)] = w := by simp [packed]
    refine ⟨fun h => congrArg _ (attn_arm_none ha (attnTake_none h)), fun h => ?_, fun h => ?_, fun h => ?_,
      fun h => ?_, ?_⟩
    · rw [← permitDetail_eq, ← number 1]; exact take h
    · rw [← changeDetail_eq, ← number 2]; exact take h
    · rw [← at_zero, ← at_zero, ← number 3]; exact take h
    · rw [← at_zero, ← number 4]; exact take h
    · have finish {code : Nat} (h : inServiceFrom 1 u.flags = some code) :
          ended (.attnDone r) (done code) (doneArm code u) := ends (doneArm_master code u) (attnDone_onArm ha h)
      rw [inService_arm] at finish
      split_ifs with h1 h2 h3 h4
      · exact finish (if_pos h1)
      · exact finish (by rw [if_neg h1, if_pos h2])
      · exact finish (by rw [if_neg h1, if_neg h2, if_pos h3])
      · exact finish (by rw [if_neg h1, if_neg h2, if_neg h3, if_pos h4])
      · refine congrArg _ (attn_arm_none ha (attnDone_none ?_))
        rw [unitFlags_arm, inService_arm, if_neg h1, if_neg h2, if_neg h3, if_neg h4]

end Sys2Proof.Machine
end

section
/-! PROOFS. The requests on one registered probe: its tips, its qualification, its reservation and its removal
(R108 to R113). -/

namespace Sys2Proof.Machine

/-! ### The fields of PROBE_TIP_WRITE (R174) -/

section Fields
variable {r : Request}

/-- A 25-bit offset is its number less 2^25 from 2^24 on. -/
theorem offset25_eq (w : Word) : offset25 w =
    if w.toNat % 2 ^ 25 < 2 ^ 24 then ((w.toNat % 2 ^ 25 : Nat) : Int) else (w.toNat % 2 ^ 25 : Nat) - 2 ^ 25 := by
  have low : (w.extractLsb' 0 25).toNat = w.toNat % 2 ^ 25 := by simp [BitVec.extractLsb'_toNat]
  rw [offset25, BitVec.toInt_eq_toNat_cond, low]
  split_ifs <;> omega

theorem tipWriteId_toNat (r : Request) : (tipWriteId r).toNat =
    r.d0.toNat / 2 ^ 25 + 128 * (r.d1.toNat / 2 ^ 25) + 16384 * (r.d2.toNat / 2 ^ 25 % 4) := by
  have h0 := r.d0.isLt
  have h1 := r.d1.isLt
  simp only [tipWriteId, BitVec.toNat_append, BitVec.extractLsb'_toNat, Nat.shiftRight_eq_div_pow]
  rw [← Nat.shiftLeft_add_eq_or_of_lt (by omega), ← Nat.shiftLeft_add_eq_or_of_lt (by omega)]
  simp only [Nat.shiftLeft_eq]
  omega

theorem unusedBits_iff (w : Word) : w.extractLsb' 27 5 ≠ 0#5 ↔ w.toNat / 2 ^ 27 ≠ 0 := by
  have h := w.isLt
  have high : (w.extractLsb' 27 5).toNat = w.toNat / 2 ^ 27 := by
    rw [BitVec.extractLsb'_toNat, Nat.shiftRight_eq_div_pow]
    omega
  rw [← high, ne_eq, ne_eq, ← BitVec.toNat_inj]
  rfl

theorem tipInRange_iff (t : Axes Int) : tipInRange t = true ↔
    ¬ (t.x < -10000000 ∨ 10000000 < t.x) ∧ ¬ (t.y < -10000000 ∨ 10000000 < t.y) ∧
      ¬ (t.z < -10000000 ∨ 10000000 < t.z) := by
  rw [tipInRange, decide_eq_true_iff]
  omega

/-- A tip written within the list or at its end (R108). -/
theorem writeTip_eq {tips : List (Axes Int)} {index : Nat} (h : index ≤ tips.length) (t : Axes Int) :
    writeTip tips index t = tips.take index ++ t :: tips.drop (index + 1) := by
  rw [writeTip]
  split_ifs with lt
  · rw [List.set_eq_take_append_cons_drop, if_pos lt]
  · have same : index = tips.length := by omega
    rw [same, List.take_length, List.drop_eq_nil_of_le (by omega)]

end Fields

/-! ### The probe that an id names -/

section Named
variable {s : State} {e : Fin 14} {p : Probe} {id : Nat}

theorem probeById_absent (h : ∀ e : Fin 14, ∀ p ∈ entryAt s e, p.id.toNat ≠ id) : probeById s id = none := by
  rw [← Option.not_isSome_iff_eq_none, probeById_isSome_iff]
  rintro ⟨e, p, hp, same⟩
  exact h e p hp same

/-- A probe is engaged on the head of an arm with an open change or in a RELEASED slot (R108). -/
theorem engaged_iff : engaged s p = true ↔
    (∃ arm : Arm, p.location = .head arm ∧ (s.rack.changes.get arm).phase ≠ .idle) ∨
      ∃ i : Fin 12, p.location = .slot i ∧ (slotAt s i).state = .released := by
  rw [engaged]
  cases hl : p.location <;> simp [slotAt]

theorem armOfSel_isSome {sel : Byte} (h : sel.toNat < 2) : ∃ arm, armOfSel sel = some arm := by
  obtain zero | one : sel.toNat = 0 ∨ sel.toNat = 1 := by omega
  · exact ⟨.a, armOfSel_eq_some zero.symm⟩
  · exact ⟨.b, armOfSel_eq_some one.symm⟩

theorem freeToChange_absent (h : ∀ e : Fin 14, ∀ p ∈ entryAt s e, p.id.toNat ≠ id) :
    freeToChange s id = .error .noProbe := by
  rw [freeToChange, probeById_absent h]

theorem freeToChange_of_entryAt (hs : RegistrySound s) (hp : entryAt s e = some p) (hid : p.id.toNat = id) :
    freeToChange s id = if engaged s p then .error .state else .ok (e, p) := by
  simp only [freeToChange, probeById_of_entryAt hs hp hid, hp]

end Named

/-! ### What each request does with the probe that it names -/

section Acts
variable {r : Request} {s : State} {e : Fin 14} {p : Probe}

theorem probeTipWrite_unused (h : r.d2.toNat / 2 ^ 27 ≠ 0) : probeTipWrite r s = refuse .outOfRange s := by
  rw [probeTipWrite, if_pos ((unusedBits_iff r.d2).mpr h)]

theorem probeTipWrite_error {code : ResultCode} (h : r.d2.toNat / 2 ^ 27 = 0)
    (he : freeToChange s (tipWriteId r).toNat = .error code) : probeTipWrite r s = refuse code s := by
  simp only [probeTipWrite, (unusedBits_iff r.d2).not.mpr (not_not.mpr h), if_false, he]

/-- PROBE_TIP_WRITE of a probe that is free to change (R108). -/
theorem probeTipWrite_ok (h : r.d2.toNat / 2 ^ 27 = 0) (he : freeToChange s (tipWriteId r).toNat = .ok (e, p)) :
    probeTipWrite r s =
      if 4 < r.sel.toNat ∨ p.tips.length < r.sel.toNat then refuse .badSelector s
      else if ¬ tipInRange (tipOffsets r) then refuse .outOfRange s
      else okProbe e (s.setEntry e (some
        { p with tips := writeTip p.tips r.sel.toNat (tipOffsets r), qual := .unqualified, tcal := none })) := by
  simp only [probeTipWrite, (unusedBits_iff r.d2).not.mpr (not_not.mpr h), if_false, he]

/-- PROBE_QUALIFY of a probe that is free to change (R110). -/
theorem probeQualify_ok (he : freeToChange s r.d0.toNat = .ok (e, p)) :
    probeQualify r s =
      if p.tips = [] then refuse .notReady s
      else (rackTemperature s).elim (refuse .noTemp s) fun t =>
        okProbe e (s.setEntry e (some { p with tcal := some t, useCount := 0, qual := .qualified })) := by
  simp only [probeQualify, he, List.isEmpty_iff]
  cases rackTemperature s <;> rfl

/-- PROBE_REMOVE of a registered probe by its location (R113). -/
theorem probeRemove_of_slot {i : Fin 12} (he : probeById s r.d0.toNat = some e) (hp : entryAt s e = some p)
    (hl : p.location = .slot i) : probeRemove r s =
      if (slotAt s i).state = .released ∨ (slotAt s i).state = .blocked then refuse .inUse s
      else okay (if (slotAt s i).state = .stored then enterSlot i .unclaimed none (s.setEntry e none)
        else s.setEntry e none) (at_ 0 e.val) := by
  simp only [probeRemove, he, hp, Option.map_some, hl]

theorem probeRemove_of_head {arm : Arm} (he : probeById s r.d0.toNat = some e) (hp : entryAt s e = some p)
    (hl : p.location = .head arm) : probeRemove r s = refuse .inUse s := by
  simp only [probeRemove, he, hp, Option.map_some, hl]

theorem probeRemove_of_missing (he : probeById s r.d0.toNat = some e) (hp : entryAt s e = some p)
    (hl : p.location = .missing) : probeRemove r s = okay (s.setEntry e none) (at_ 0 e.val) := by
  simp only [probeRemove, he, hp, Option.map_some, hl]

end Acts

section Requests
variable {r : Request} {s : State} {e : Fin 14} {p q : Probe}

/-- A Cell request that rewrites one entry of the registry. -/
theorem handleRequest_cell_of_entry {act : State → Act} (hc : onCell r s)
    (h : act (acceptFrame .cell s) = okProbe e ((acceptFrame .cell s).setEntry e (some q))) :
    handleRequest .cellLink r.link act s = answered .cell (probeWords .ok e q) (s.setEntry e (some q)) :=
  handleRequest_cell_of_okProbe hc rfl (by simp) h

end Requests

/-- Settles O40: a request acts on the probe that is free to change, by its own checks. -/
theorem tipsAndQualification : Obligations.TipsAndQualification := by
  intro r s hc hs low wrote wroteId far took no
  have refused {act : State → Act} {code : ResultCode} (h : act (acceptFrame .cell s) = refuse code (acceptFrame .cell s)) :
      handleRequest .cellLink r.link act s = refusedOnCell code s := handleRequest_cell_of_refuse hc h
  have offset (w : Word) : offset25 w = low w := offset25_eq w
  have offsets : tipOffsets r = wrote := by simp only [tipOffsets, offset, wrote]
  have id : (tipWriteId r).toNat = wroteId := tipWriteId_toNat r
  have absent {id : Nat} (h : ∀ e : Fin 14, ∀ p ∈ entryAt s e, p.id.toNat ≠ id) :
      freeToChange (acceptFrame .cell s) id = .error .noProbe := freeToChange_absent h
  refine ⟨fun unused => congrArg _ (refused (probeTipWrite_unused unused)), fun used none => ?_, fun none => ⟨?_, ?_⟩,
    fun e p hp => ?_⟩
  · exact congrArg _ (refused (probeTipWrite_error used (id ▸ absent none)))
  · exact congrArg _ (refused (by simp only [probeTipClear, absent none]))
  · exact congrArg _ (refused (by simp only [probeQualify, absent none]))
  intro busy index
  have named {id : Nat} (hid : p.id.toNat = id) : freeToChange (acceptFrame .cell s) id =
      if engaged s p then .error .state else .ok (e, p) :=
    (freeToChange_of_entryAt hs hp hid : freeToChange s _ = _)
  have engagedWhen : engaged s p = true ↔ busy := engaged_iff
  have error {id : Nat} (hid : p.id.toNat = id) (hb : busy) : freeToChange (acceptFrame .cell s) id = .error .state := by
    rw [named hid, if_pos (engagedWhen.mpr hb)]
  have ok {id : Nat} (hid : p.id.toNat = id) (hb : ¬ busy) : freeToChange (acceptFrame .cell s) id = .ok (e, p) := by
    rw [named hid, if_neg (engagedWhen.not.mpr hb)]
  refine ⟨fun used hid => ?_, fun hid => ?_⟩
  · refine ⟨fun hb => ?_, fun hb bad => ?_, fun hb four within => ⟨fun beyond => ?_, fun hx hy hz => ?_⟩⟩
    · exact congrArg _ (refused (probeTipWrite_error used (id ▸ error hid hb)))
    all_goals
      have act := probeTipWrite_ok (s := acceptFrame .cell s) used (id ▸ ok hid hb)
    · exact congrArg _ (refused (act.trans (if_pos bad)))
    all_goals
      rw [if_neg (by omega), offsets] at act
    · refine congrArg _ (refused (act.trans (if_pos fun inRange => ?_)))
      obtain ⟨hx, hy, hz⟩ := (tipInRange_iff wrote).mp inRange
      exact beyond.elim hx (Or.elim · hy hz)
    · rw [if_neg (not_not.mpr ((tipInRange_iff wrote).mpr ⟨hx, hy, hz⟩)), writeTip_eq within] at act
      exact congrArg Host.Outcome.next (handleRequest_cell_of_entry hc act)
  · refine ⟨fun hb => ⟨?_, ?_⟩, fun hb => ?_, fun hb tips => ?_, fun hb tips temp => ?_, fun hb tips t ht => ?_⟩
    · exact congrArg _ (refused (by simp only [probeTipClear, error hid hb]))
    · exact congrArg _ (refused (by simp only [probeQualify, error hid hb]))
    · exact congrArg Host.Outcome.next (handleRequest_cell_of_entry hc (by simp only [probeTipClear, ok hid hb]))
    all_goals
      have act := probeQualify_ok (ok hid hb)
    · exact congrArg _ (refused (act.trans (if_pos tips)))
    all_goals
      rw [if_neg tips] at act
    · have temp : rackTemperature (acceptFrame .cell s) = none := temp
      rw [temp] at act
      exact congrArg _ (refused act)
    · have temp : rackTemperature (acceptFrame .cell s) = some t := ht
      rw [temp] at act
      exact congrArg Host.Outcome.next (handleRequest_cell_of_entry hc act)

/-- Settles O41: each request acts on the entry that holds the id, and the removal by the probe's location. -/
theorem reservationAndRemoval : Obligations.ReservationAndRemoval := by
  intro r s hc hs no
  have refused {act : State → Act} {code : ResultCode} (h : act (acceptFrame .cell s) = refuse code (acceptFrame .cell s)) :
      handleRequest .cellLink r.link act s = refusedOnCell code s := handleRequest_cell_of_refuse hc h
  refine ⟨fun hsel => congrArg _ (refused (by simp only [probeReserve, armOfSel_eq_none hsel])), fun unknown => ?_,
    fun e p hp hid => ?_⟩
  · have absent : probeById (acceptFrame .cell s) r.d0.toNat = none := probeById_absent unknown
    refine ⟨fun hsel => ?_, ?_, ?_⟩
    · obtain ⟨arm, harm⟩ := armOfSel_isSome hsel
      exact congrArg _ (refused (by simp only [probeReserve, harm, absent]))
    · exact congrArg _ (refused (by simp only [probeUnreserve, absent]))
    · exact congrArg _ (refused (by simp only [probeRemove, absent]))
  intro took removed
  have found : probeById (acceptFrame .cell s) r.d0.toNat = some e :=
    (probeById_of_entryAt hs hp hid : probeById s _ = _)
  have held : entryAt (acceptFrame .cell s) e = some p := hp
  have rewritten (f : Probe → Probe) : (acceptFrame .cell s).modProbe e f = (acceptFrame .cell s).setEntry e (some (f p)) := by
    rw [State.modProbe, held]
    rfl
  have removes {t : State} (same : t.sup = s.sup)
      (h : probeRemove r (acceptFrame .cell s) = okay (acceptFrame .cell t) (at_ 0 e.val)) : removed t := by
    rw [at_zero] at h
    exact congrArg Host.Outcome.next (handleRequest_cell_of_okay hc same h)
  refine ⟨fun arm harm => ?_, ?_, fun arm hl => ?_, fun hl => ?_, fun i hl => ⟨fun hi => ?_, fun hi => ?_⟩⟩
  · refine congrArg Host.Outcome.next (handleRequest_cell_of_entry hc ?_)
    simp only [probeReserve, armOfSel_eq_some harm.symm, found, rewritten]
  · refine congrArg Host.Outcome.next (handleRequest_cell_of_entry hc ?_)
    simp only [probeUnreserve, found, rewritten]
  · exact congrArg _ (refused (probeRemove_of_head found held hl))
  · exact removes rfl (probeRemove_of_missing found held hl)
  · exact congrArg _ (refused ((probeRemove_of_slot found held hl).trans (if_pos hi)))
  · have slot : (slotAt (acceptFrame .cell s) i).state = .stored := hi
    refine removes rfl ((probeRemove_of_slot found held hl).trans ?_)
    rw [slot, if_neg (by decide), if_pos rfl]
    rfl

end Sys2Proof.Machine
end

section
/-! PROOFS. The reads of the registry and of the rack: READ_PROBE, READ_SLOT and READ_CHANGE (R117, R137). -/

namespace Sys2Proof.Machine

/-! ### A read at the end of its own frame (R162) -/

section Reads
variable {l : Link} {s : State} {access : Access}

@[simp] theorem frameEnded_cellTime (l : Link) (s : State) : (frameEnded l s).cellTime = s.cellTime := by simp [frameEnded]
@[simp] theorem frameEnded_temp (l : Link) (s : State) : (frameEnded l s).temp = s.temp := by simp [frameEnded]
@[simp] theorem frameEnded_model (l : Link) (s : State) : (frameEnded l s).model = s.model := by simp [frameEnded]
@[simp] theorem frameEnded_lastPos (l : Link) (s : State) : (frameEnded l s).lastPos = s.lastPos := by simp [frameEnded]
@[simp] theorem frameEnded_zones (l : Link) (s : State) : (frameEnded l s).zones = s.zones := by simp [frameEnded]
@[simp] theorem frameEnded_registry (l : Link) (s : State) : (frameEnded l s).registry = s.registry := by simp [frameEnded]
@[simp] theorem frameEnded_rack (l : Link) (s : State) : (frameEnded l s).rack = s.rack := by simp [frameEnded]
@[simp] theorem frameEnded_freeIndex (l : Link) (s : State) : (frameEnded l s).freeIndex = s.freeIndex := by simp [frameEnded]

@[simp] theorem entryAt_frameEnded (l : Link) (s : State) (e : Fin 14) : entryAt (frameEnded l s) e = entryAt s e := by
  simp [entryAt]

@[simp] theorem slotAt_frameEnded (l : Link) (s : State) (i : Fin 12) : slotAt (frameEnded l s) i = slotAt s i := by
  simp [slotAt]

@[simp] theorem headProbe_frameEnded (l : Link) (s : State) (arm : Arm) : headProbe (frameEnded l s) arm = headProbe s arm :=
  headProbe_congr (by rw [frameEnded_registry]) arm

/-- A read is of the state at the end of its frame. -/
theorem handleRead_eq (read : State → State × Reply) (ht : takesFrame l s = true) :
    handleRead .allLinks l read s = writeReply l (read (frameEnded l s)).2 (read (frameEnded l s)).1 := by
  have permits : Access.permits .allLinks l = true := rfl
  rw [handleRead, if_pos permits, handleFrame_permitted ht permits]
  rfl

/-- A read that answers with words and moves nothing. -/
theorem handleRead_of_words {read : State → State × Reply} {reply : Reply} (ht : takesFrame l s = true)
    (h : read (frameEnded l s) = (frameEnded l s, reply)) :
    handleRead .allLinks l read s = answered l reply (frameEnded l s) := by
  rw [handleRead_eq read ht, h]
  exact writeReply_frameEnded l reply s

/-- A read that answers with `n` free values (log entry 7). -/
theorem handleRead_of_free {read : State → State × Reply} {reply : Reply} {n : Nat} (ht : takesFrame l s = true)
    (h : read (frameEnded l s) = ({ frameEnded l s with freeIndex := s.freeIndex + n }, reply)) :
    handleRead .allLinks l read s = { answered l reply (frameEnded l s) with freeIndex := s.freeIndex + n } := by
  rw [handleRead_eq read ht, h, ← writeReply_frameEnded]
  rfl

end Reads

/-! ### Sets, selectors and parts -/

theorem setNum_lt {n : Nat} (p : Fin n → Bool) : setNum p < 2 ^ n := by
  rw [setNum_eq_ofBits]
  exact Nat.ofBits_lt_two_pow p

/-- A set of marks in the places from a bit on. -/
theorem setAt_eq {n : Nat} (bit : Nat) (p : Fin n → Bool) : setAt bit (marksOf p) = at_ bit (setNum p) := by
  have zero : setAt 0 (marksOf p) = at_ 0 (setNum p) := by rw [setAt_marksOf, at_zero]
  simp only [setAt, at_, BitVec.shiftLeft_zero] at zero ⊢
  rw [zero]

/-- The number of occupied entries of a table. -/
theorem length_filter_finRange {n : Nat} (p : Fin n → Bool) :
    ((List.finRange n).filter p).length = (Finset.univ.filter fun i => p i = true).card := by
  have same : (Finset.univ.filter fun i => p i = true) = ((List.finRange n).filter p).toFinset := by
    ext i; simp
  rw [same, List.toFinset_card_of_nodup ((List.nodup_finRange n).filter p)]

theorem signedOrAbsent_eq (x : Option Int) : signedOrAbsent x = x.elim 0x80000000#32 (BitVec.ofInt 32) := by
  cases x <;> rfl

theorem fieldsFit_one {x w : Nat} (h : x < 2 ^ w) : fieldsFit [(0, x)] w := by simpa [fieldsFit] using h

/-! ### READ_PROBE (R117) -/

section Probes
variable {r : Request} {s u : State} {e : Fin 14} {p : Probe}

theorem Qualification.num_lt (q : Qualification) : q.num < 2 ^ 2 := by cases q <;> decide

theorem Location.num_lt (l : Location) : l.num < 2 ^ 8 := by
  rcases l with n | (_ | _) | _
  · exact n.isLt.trans (by decide)
  all_goals decide

theorem armFieldNum_eq (a : Option Arm) : armFieldNum a = a.elim 0 fun owner => 1 + armIndex owner := by
  rcases a with _ | _ | _ <;> rfl

/-- The words of part 0 field by field (Table 6.6). -/
theorem probeWords_eq (hp : ProbeSound p) (code : ResultCode) (e : Fin 14) : probeWords code e p =
    { code := code
      d0 := packed [(0, p.id.toNat), (16, e.val), (25, p.qual.num),
        (27, p.reservation.elim 0 fun owner => 1 + armIndex owner)]
      d1 := packed [(0, p.home.val), (4, p.tips.length), (8, p.location.num), (16, p.useCount)]
      d2 := p.tcal.elim 0x80000000#32 (BitVec.ofInt 32) } := by
  have fit16 : fieldsFit [(0, p.id.toNat)] 16 := fieldsFit_one p.id.isLt
  have fit25 := fieldsFit_append (w := 9) (x := e.val) fit16 (e.isLt.trans (by decide))
  have fit27 := fieldsFit_append fit25 p.qual.num_lt
  have fit4 : fieldsFit [(0, p.home.val)] 4 := fieldsFit_one (p.home.isLt.trans (by decide))
  have fit8 := fieldsFit_append (w := 4) (x := p.tips.length) fit4 (hp.tips.trans_lt (by decide))
  have fit16' := fieldsFit_append fit8 p.location.num_lt
  rw [probeWords, at_zero, at_zero, packed_or_at fit16, packed_or_at fit25, packed_or_at fit27, packed_or_at fit4,
    packed_or_at fit8, packed_or_at fit16', signedOrAbsent_eq, armFieldNum_eq]
  rfl

theorem readProbe_badSelector (h : 14 < r.sel.toNat ∨ (r.sel = 14 ∧ r.d0 ≠ 0) ∨ 5 < r.d0.toNat) :
    readProbe r s = (s, .zeros .badSelector) := by
  cases found : indexOf 14 r.sel.toNat with
  | some e =>
    have inside : r.sel.toNat < 14 := by
      by_contra beyond
      rw [indexOf_eq_none (by omega)] at found
      cases found
    have large : 5 < r.d0.toNat := by
      obtain beyond | ⟨last, -⟩ | large := h
      · omega
      · rw [last] at inside; exact absurd inside (by decide)
      · exact large
    simp only [readProbe, found]
    rw [if_pos large]
  | none =>
    simp only [readProbe, found]
    refine if_neg fun ⟨last, zero⟩ => ?_
    obtain beyond | ⟨-, part⟩ | large := h
    · omega
    · exact part (BitVec.eq_of_toNat_eq zero)
    · omega

/-- The summary of the registry (Table 6.6). -/
theorem readProbe_summary (hs : RegistrySound s) (hsel : r.sel = 14) (part : r.d0 = 0) : readProbe r s =
    (s, { code := .ok
          d0 := packed [(0, setNum fun e => (entryAt s e).isSome),
            (16, (Finset.univ.filter fun e => (entryAt s e).isSome = true).card)]
          d1 := packed [(0, (headProbe s .a).elim 255 Fin.val), (8, (headProbe s .b).elim 255 Fin.val)]
          d2 := packed [(0, s.registry.useLimit), (16, s.registry.driftLimit)] }) := by
  have none : indexOf 14 r.sel.toNat = none := indexOf_eq_none (by rw [hsel]; decide)
  have occupied : fieldsFit [(0, setNum fun e => (entryAt s e).isSome)] 16 :=
    fieldsFit_one ((setNum_lt _).trans (by decide))
  have head : fieldsFit [(0, numberOrAbsent (headProbe s .a))] 8 := fieldsFit_one (numberOrAbsent_lt (by decide) _)
  have limit : fieldsFit [(0, s.registry.useLimit)] 16 := fieldsFit_one (Nat.lt_succ_of_le hs.limits.2.1)
  simp only [readProbe, none]
  rw [if_pos ⟨by rw [hsel]; rfl, by rw [part]; rfl⟩, setAt_marksOf, packed_or_at occupied, at_zero, at_zero,
    packed_or_at head, packed_or_at limit, length_filter_finRange, numberOrAbsent_eq, numberOrAbsent_eq]
  rfl

theorem readProbe_record (hp : entryAt s e = some p) (he : e.val = r.sel.toNat) (part : r.d0 = 0) :
    readProbe r s = (s, probeWords .ok e p) := by
  simp [readProbe, indexOf_eq_some he, part, hp]

theorem readProbe_free (hp : entryAt s e = none) (he : e.val = r.sel.toNat) (part : r.d0 = 0) :
    readProbe r s = readFreeEntry e s := by
  simp [readProbe, indexOf_eq_some he, part, hp]

theorem readProbe_tip {n : Nat} (he : e.val = r.sel.toNat) (hn : n < 5) (part : r.d0.toNat = n + 1) :
    readProbe r s = (s, tipWords ((entryAt s e).bind fun p => p.tips[n]?)) := by
  simp only [readProbe, indexOf_eq_some he, part]
  rw [if_neg (by omega), if_neg (by omega)]
  rfl

/-- The stated fields of a free entry, with the unstated bits left free (log entry 7). -/
theorem readFreeEntry_stated (w : Word) (e : Fin 14) :
    (at_ 16 e.val ||| at_ 24 1 ||| (w &&& 0x1E000000#32)) &&& 0xE1FFFFFF#32 = packed [(16, e.val), (24, 1)] := by
  have stated : (at_ 16 e.val ||| at_ 24 1) &&& 0xE1FFFFFF#32 = packed [(16, e.val), (24, 1)] := by
    revert e; decide
  have apart : 0x1E000000#32 &&& 0xE1FFFFFF#32 = 0#32 := rfl
  have distrib (x y z : Word) : (x ||| y) &&& z = x &&& z ||| y &&& z := by ext; simp [Bool.and_or_distrib_right]
  rw [distrib, stated, BitVec.and_assoc, apart, BitVec.and_zero, BitVec.or_zero]

end Probes

/-! ### READ_SLOT and READ_CHANGE (R137) -/

section Rack
variable {r : Request} {s : State} {i : Fin 12} {arm : Arm}

theorem slotsIn_eq (s : State) (st : SlotState) (bit : Nat) :
    setAt bit (slotsIn s st) = at_ bit (setNum fun i => decide ((slotAt s i).state = st)) := setAt_eq ..

theorem slotSet_fits (p : Fin 12 → Bool) : fieldsFit [(0, setNum p)] 12 := fieldsFit_one (setNum_lt p)

theorem slotSet_fits16 (p : Fin 12 → Bool) : fieldsFit [(0, setNum p)] 16 :=
  fieldsFit_one ((setNum_lt p).trans (by decide))

/-- The summary of the rack (Table 7.7). -/
theorem readSlotWords_summary (hsel : r.sel = 12) : readSlotWords r s =
    { code := .ok
      d0 := packed [(0, setNum fun i => (slotAt s i).settled), (16, setNum fun i => (slotAt s i).lock)]
      d1 := packed [(0, setNum fun i => decide ((slotAt s i).state = .blocked)),
        (16, setNum fun i => decide ((slotAt s i).state = .unclaimed))]
      d2 := packed [(0, setNum fun i => decide ((slotAt s i).state = .vacant)),
        (12, setNum fun i => decide ((slotAt s i).state = .released)), (24, s.rack.changeTimeout)] } := by
  have none : indexOf 12 r.sel.toNat = none := indexOf_eq_none (by rw [hsel]; decide)
  have vacant := slotSet_fits fun i => decide ((slotAt s i).state = .vacant)
  have released := fieldsFit_append (w := 12) vacant (setNum_lt fun i => decide ((slotAt s i).state = .released))
  simp only [readSlotWords, none, slotsIn_eq, setAt_eq]
  rw [if_pos (by rw [hsel]; rfl), at_zero, at_zero, at_zero, packed_or_at (slotSet_fits16 _),
    packed_or_at (slotSet_fits16 _), packed_or_at vacant, packed_or_at released]
  rfl

theorem readSlotWords_badSelector (h : 12 < r.sel.toNat) : readSlotWords r s = .zeros .badSelector := by
  simp only [readSlotWords, indexOf_eq_none h.le]
  exact if_neg (by omega)

theorem readSlotWords_slot (hi : i.val = r.sel.toNat) : readSlotWords r s = slotWords i s := by
  simp only [readSlotWords, indexOf_eq_some hi]

theorem readSlotWords_frameEnded (l : Link) (r : Request) (s : State) :
    readSlotWords r (frameEnded l s) = readSlotWords r s := by
  have entries : entryAt (frameEnded l s) = entryAt s := funext fun e => entryAt_frameEnded l s e
  simp only [readSlotWords, slotWords, slotsIn, slotAt_frameEnded, entries, frameEnded_rack]

theorem readChangeWords_badSelector (h : 2 ≤ r.sel.toNat ∨ 1 < r.d0.toNat) :
    readChangeWords r s = .zeros .badSelector := by
  obtain sel | part := h
  · simp only [readChangeWords, armOfSel_eq_none sel]
  · obtain ⟨n, above⟩ := Nat.exists_eq_add_of_le' part
    cases named : armOfSel r.sel <;> simp [readChangeWords, named, above]

theorem readChangeWords_context (harm : armIndex arm = r.sel.toNat) (part : r.d0 = 0) :
    readChangeWords r s = changeWords .ok arm s := by
  simp [readChangeWords, armOfSel_eq_some harm, part]

theorem readChangeWords_timer (harm : armIndex arm = r.sel.toNat) (part : r.d0 = 1) : readChangeWords r s =
    { code := .ok, d0 := packed [(0, flag (s.rack.changes.get arm).timer.isSome)]
      d1 := packed [(0, (s.rack.changes.get arm).timer.elim 0 fun t => t.duration - (s.cellTime - t.start).toNat)]
      d2 := packed [(0, (headProbe s arm).elim 255 Fin.val)] } := by
  simp [readChangeWords, armOfSel_eq_some harm, part, at_zero, State.timeLeft_eq, numberOrAbsent_eq]

theorem readChangeWords_frameEnded (l : Link) (r : Request) (s : State) :
    readChangeWords r (frameEnded l s) = readChangeWords r s := by
  simp only [readChangeWords, changeWords, State.timeLeft_eq, frameEnded_rack, frameEnded_cellTime, headProbe_frameEnded]

/-- The drift test fails exactly on a rack temperature within the limit of Tcal (R114). -/
theorem drifts_eq_false_iff {p : Probe} : drifts s p = false ↔ ∃ t c : Int, rackTemperature s = some t ∧
    p.tcal = some c ∧ t - c ≤ s.registry.driftLimit ∧ c - t ≤ s.registry.driftLimit := by
  rw [drifts]
  cases rackTemperature s <;> cases p.tcal <;> simp
  omega

end Rack

/-- Settles O42: each read is the words of its unit at the end of its frame, field by field. -/
theorem probeAndRackReadsShowTheirRecords : Obligations.ProbeAndRackReadsShowTheirRecords := by
  refine ⟨fun r s ht hs => ?_, fun r s ht hs => ?_, fun s arm hs => ⟨fun e => ?_, fun p => drifts_eq_false_iff⟩⟩
  · intro s1 replies head
    have reads {reply : Reply} (h : readProbe r s1 = (s1, reply)) : exec (.readProbe r) s = .next (answered r.link reply s1) :=
      congrArg Host.Outcome.next (handleRead_of_words ht h)
    have sound : RegistrySound s1 := registrySound_frameStable.judge _ _ _ (registrySound_frameStable.accept _ _ hs)
    have entry (e : Fin 14) : entryAt s1 e = entryAt s e := entryAt_frameEnded r.link s e
    have probe (arm : Arm) : headProbe s1 arm = headProbe s arm := headProbe_frameEnded r.link s arm
    refine ⟨fun bad => reads (readProbe_badSelector bad), fun hsel part => ?_, fun e he =>
      ⟨fun p hp part => ?_, fun empty part => ?_, fun n hn part => ⟨fun t found => ?_, fun none => ?_⟩⟩⟩
    · have summary := reads (readProbe_summary sound hsel part)
      simp only [entry, probe, s1, frameEnded_registry] at summary
      exact summary
    · have record := reads (readProbe_record ((entry e).trans hp) he part)
      rw [probeWords_eq (hs.probes e p hp)] at record
      exact record
    · have read := readProbe_free ((entry e).trans empty) he part
      rw [readFreeEntry, frameEnded_freeIndex] at read
      exact ⟨_, _, congrArg Host.Outcome.next (handleRead_of_free ht read), readFreeEntry_stated _ e⟩
    · have tip := reads (readProbe_tip he hn part)
      rw [entry, Option.mem_def.mp found] at tip
      exact tip
    · have tip := reads (readProbe_tip he hn part)
      rw [entry, none] at tip
      exact tip
  · intro s1 replies sslots inState
    have slot {reply : Reply} (h : readSlotWords r s = reply) : exec (.readSlot r) s = .next (answered r.link reply s1) := by
      refine congrArg Host.Outcome.next (handleRead_of_words ht ?_)
      rw [readSlotWords_frameEnded, h]
    have change {reply : Reply} (h : readChangeWords r s = reply) :
        exec (.readChange r) s = .next (answered r.link reply s1) := by
      refine congrArg Host.Outcome.next (handleRead_of_words ht ?_)
      rw [readChangeWords_frameEnded, h]
    refine ⟨fun bad => slot (readSlotWords_badSelector bad), fun hsel => slot (readSlotWords_summary hsel), fun i hi => ?_,
      fun bad => change (readChangeWords_badSelector bad), fun arm harm => ⟨fun part => ?_, fun part => ?_⟩⟩
    · exact slot ((readSlotWords_slot hi).trans (slotWords_eq i s))
    · exact change ((readChangeWords_context harm.symm part).trans (changeWords_eq ..))
    · exact change (readChangeWords_timer harm.symm part)
  · constructor
    · intro found
      exact Option.map_eq_some_iff.mp (onHead_headProbe found)
    · intro located
      exact headProbe_of_onHead (rackSound_iff.mp hs).1 (Option.map_eq_some_iff.mpr located)

end Sys2Proof.Machine
end

section
/-! PROOFS. The reads of the temperature unit and of the model store (R23, R40). -/

namespace Sys2Proof.Machine

/-! ### READ_TEMP (R23) -/

section Temp
variable {r : Request} {s : State} {i : Fin 16} {x : Sensor}

theorem SensorState.num_lt (st : SensorState) : st.num < 2 ^ 8 := by cases st <;> decide

theorem Role.num_lt (role : Role) : role.num < 2 ^ 4 := by cases role <;> decide

theorem historyAge_eq (x : Sensor) (n : Nat) :
    historyAge x n = (x.history[n]?).elim 0 fun e => (x.ordinal - e).toNat := by
  rw [historyAge]; cases x.history[n]? <;> rfl

/-- A failure of the history lies within the last 64 conversions (R16). -/
theorem historyAge_lt (hx : SensorSound x) (n : Nat) : historyAge x n < 2 ^ 8 := by
  rw [historyAge_eq]
  cases found : x.history[n]? with
  | none => simp
  | some e => exact (hx.recent e (List.mem_of_getElem? found)).trans (by decide)

theorem readTempWords_badSelector (h : 16 ≤ r.sel.toNat ∨ 2 < r.d0.toNat) : readTempWords r s = .zeros .badSelector := by
  obtain sel | part := h
  · simp only [readTempWords, indexOf_eq_none sel]
  · obtain ⟨n, above⟩ := Nat.exists_eq_add_of_le' part
    cases named : indexOf 16 r.sel.toNat <;> simp [readTempWords, named, above]

theorem readTempWords_sample (hi : i.val = r.sel.toNat) (part : r.d0.toNat = 0) : readTempWords r s =
    let x := vget s.temp.sensors i
    { code := .ok, d0 := packed [(0, x.lastCode.toNat), (16, x.state.num), (24, x.role.num), (28, x.lastClass.num)]
      d1 := BitVec.ofInt 32 x.tf, d2 := x.ordinal } := by
  have fit16 : fieldsFit [(0, (vget s.temp.sensors i).lastCode.toNat)] 16 := fieldsFit_one (BitVec.isLt _)
  have fit24 := fieldsFit_append fit16 (vget s.temp.sensors i).state.num_lt
  have fit28 := fieldsFit_append fit24 (vget s.temp.sensors i).role.num_lt
  simp only [readTempWords, indexOf_eq_some hi, part, at_zero]
  rw [packed_or_at fit16, packed_or_at fit24, packed_or_at fit28]
  rfl

theorem readTempWords_settings (hx : SensorSound (vget s.temp.sensors i)) (hi : i.val = r.sel.toNat) (part : r.d0.toNat = 1) :
    readTempWords r s =
    let x := vget s.temp.sensors i
    { code := .ok, d0 := packed [(0, x.c0.toNat), (16, x.k.toNat)]
      d1 := packed [(0, x.n.toNat), (8, x.nonGoodRun), (16, x.goodRun), (24, flag x.leftValid.isSome)]
      d2 := x.leftValid.getD 0 } := by
  have fit16 : fieldsFit [(0, (vget s.temp.sensors i).c0.toNat)] 16 := fieldsFit_one (BitVec.isLt _)
  have fit8 : fieldsFit [(0, (vget s.temp.sensors i).n.toNat)] 8 := fieldsFit_one ((BitVec.isLt _).trans (by decide))
  have fit16' := fieldsFit_append (w := 8) fit8 (hx.runs.1.trans_lt (by decide))
  have fit24 := fieldsFit_append (w := 8) fit16' (hx.runs.2.trans_lt (by decide))
  simp only [readTempWords, indexOf_eq_some hi, part, at_zero]
  rw [packed_or_at fit16, packed_or_at fit8, packed_or_at fit16', packed_or_at fit24]
  rfl

theorem readTempWords_history (hx : SensorSound (vget s.temp.sensors i)) (hi : i.val = r.sel.toNat)
    (part : r.d0.toNat = 2) : readTempWords r s =
    let x := vget s.temp.sensors i
    let age (n : Nat) : Nat := (x.history[n]?).elim 0 fun e => (x.ordinal - e).toNat
    { code := .ok, d0 := packed [(0, x.history.length), (8, age 0), (16, age 1), (24, age 2)]
      d1 := packed [(0, age 3), (8, age 4), (16, age 5)], d2 := 0 } := by
  have fit8 : fieldsFit [(0, (vget s.temp.sensors i).history.length)] 8 :=
    fieldsFit_one (hx.history.trans_lt (by decide))
  have fit16 := fieldsFit_append fit8 (historyAge_lt hx 0)
  have fit24 := fieldsFit_append fit16 (historyAge_lt hx 1)
  have fit8' := fieldsFit_one (historyAge_lt hx 3)
  have fit16' := fieldsFit_append fit8' (historyAge_lt hx 4)
  simp only [readTempWords, indexOf_eq_some hi, part, at_zero]
  rw [packed_or_at fit8, packed_or_at fit16, packed_or_at fit24, packed_or_at fit8', packed_or_at fit16']
  simp only [List.cons_append, List.nil_append, historyAge_eq]

theorem readTempWords_frameEnded (l : Link) (r : Request) (s : State) :
    readTempWords r (frameEnded l s) = readTempWords r s := by
  simp only [readTempWords, frameEnded_temp]

end Temp

/-! ### READ_GROUPS (R23) -/

section Groups
variable {r : Request} {s : State}

theorem readGroupsWords_badSelector (h : 5 < r.sel.toNat) : readGroupsWords r s = .zeros .badSelector := by
  obtain ⟨n, above⟩ := Nat.exists_eq_add_of_le' h
  simp [readGroupsWords, above]

theorem readGroupsWords_workpiece (h : r.sel.toNat = 0) : readGroupsWords r s =
    { code := .ok, d0 := (workpieceMean s).elim 0x80000000#32 (BitVec.ofInt 32)
      d1 := (workpieceSpread s).elim 0x80000000#32 (BitVec.ofInt 32), d2 := packed [(0, workpieceCount s)] } := by
  simp only [readGroupsWords, h, at_zero, signedOrAbsent_eq]

theorem readGroupsWords_air (h : r.sel.toNat = 1) : readGroupsWords r s =
    { code := .ok, d0 := (airMean s).elim 0x80000000#32 (BitVec.ofInt 32)
      d1 := (rackReading s).1.elim 0x80000000#32 (BitVec.ofInt 32), d2 := packed [(0, (rackReading s).2.num)] } := by
  simp only [readGroupsWords, h, at_zero, signedOrAbsent_eq]

theorem SeqState.num_lt (st : SeqState) : st.num < 2 ^ 8 := by cases st <;> decide

theorem ConvKind.num_lt (kind : ConvKind) : kind.num < 2 ^ 8 := by cases kind <;> decide

theorem readGroupsWords_sequencer (hq : SequencerSound s.temp.seq) (h : r.sel.toNat = 2) : readGroupsWords r s =
    let q := s.temp.seq
    { code := .ok, d0 := packed [(0, q.state.num), (8, q.list.length), (16, q.position)]
      d1 := packed [(0, q.inFlight.elim 255 fun c => c.sensor.val), (8, q.inFlight.elim 0 fun c => c.kind.num),
        (16, q.pendingSingle.elim 255 Fin.val)]
      d2 := packed [(0, q.period)] } := by
  have fit8 := fieldsFit_one s.temp.seq.state.num_lt
  have fit16 := fieldsFit_append (w := 8) fit8 (hq.list.trans_lt (by decide))
  have sensor := fieldsFit_one (w := 8) (numberOrAbsent_lt (by decide) (s.temp.seq.inFlight.map fun c => c.sensor))
  have small : (s.temp.seq.inFlight.elim 0 fun c => c.kind.num) < 2 ^ 8 := by
    cases s.temp.seq.inFlight with
    | none => simp
    | some c => exact c.kind.num_lt
  have kind := fieldsFit_append sensor small
  have absent : numberOrAbsent (s.temp.seq.inFlight.map fun c => c.sensor) =
      s.temp.seq.inFlight.elim 255 fun c => c.sensor.val := by
    rw [numberOrAbsent_eq, Option.elim_map]; rfl
  simp only [readGroupsWords, h, at_zero]
  rw [packed_or_at fit8, packed_or_at fit16, packed_or_at sensor, packed_or_at kind, absent, numberOrAbsent_eq]
  rfl

theorem readGroupsWords_settings (h : r.sel.toNat = 3) : readGroupsWords r s =
    { code := .ok, d0 := packed [(0, s.temp.hold)], d1 := packed [(0, s.temp.spreadLimit)]
      d2 := packed [(0, s.temp.deglitch)] } := by
  simp only [readGroupsWords, h, at_zero]

theorem listByte_lt (q : Sequencer) (pos : Nat) : listByte q pos < 2 ^ 8 := by
  rw [listByte]
  cases q.list[pos]? with
  | none => simp
  | some i => exact i.isLt.trans (by decide)

/-- Four entries of the sequence list, one to a byte (Table 1.9). -/
theorem listWord_eq (q : Sequencer) (pos : Nat) : listWord q pos =
    packed [(0, (q.list[pos]?).elim 255 Fin.val), (8, (q.list[pos + 1]?).elim 255 Fin.val),
      (16, (q.list[pos + 2]?).elim 255 Fin.val), (24, (q.list[pos + 3]?).elim 255 Fin.val)] := by
  have fit8 := fieldsFit_one (listByte_lt q pos)
  have fit16 := fieldsFit_append fit8 (listByte_lt q (pos + 1))
  have fit24 := fieldsFit_append fit16 (listByte_lt q (pos + 2))
  rw [listWord, at_zero, packed_or_at fit8, packed_or_at fit16, packed_or_at fit24]
  rfl

theorem readGroupsWords_list {pos : Nat} (h : r.sel.toNat = 4 ∧ pos = 0 ∨ r.sel.toNat = 5 ∧ pos = 12) :
    readGroupsWords r s = { code := .ok, d0 := listWord s.temp.seq pos, d1 := listWord s.temp.seq (pos + 4)
                            d2 := listWord s.temp.seq (pos + 8) } := by
  obtain ⟨sel, rfl⟩ | ⟨sel, rfl⟩ := h <;> simp only [readGroupsWords, sel]

theorem validTfs_frameEnded (l : Link) (s : State) (role : Role) : validTfs (frameEnded l s) role = validTfs s role := by
  simp only [validTfs, frameEnded_temp]

theorem readGroupsWords_frameEnded (l : Link) (r : Request) (s : State) :
    readGroupsWords r (frameEnded l s) = readGroupsWords r s := by
  simp only [readGroupsWords, workpieceMean, workpieceSpread, workpieceCount, airMean, rackReading,
    validTfs_frameEnded, frameEnded_temp]

end Groups

/-! ### READ_MODEL (R40) -/

section Model
variable {r : Request} {s : State}

theorem CheckResult.num_lt (result : CheckResult) : result.num < 2 ^ 8 := by cases result <;> decide

theorem emptyMark_eq (active : Option Image) : flag active.isNone = if active = none then 1 else 0 := by
  cases active <;> rfl

theorem readModelWords_badSelector (h : 2 < r.sel.toNat) : readModelWords r s = .zeros .badSelector := by
  obtain ⟨n, above⟩ := Nat.exists_eq_add_of_le' h
  simp [readModelWords, above]

theorem readModelWords_check (h : r.sel.toNat = 0) : readModelWords r s =
    let m := s.model
    { code := .ok, d0 := m.active.elim 0 fun im => imageWord im 0
      d1 := packed [(0, flag m.check.isSome), (8, if m.active = none then 1 else 0)]
      d2 := packed [(0, m.last.result.num), (8, m.last.failingScale.elim 255 Fin.val),
        (16, flag m.last.computed.isSome)] } := by
  have check : fieldsFit [(0, flag s.model.check.isSome)] 8 := fieldsFit_one ((flag_lt _).trans (by decide))
  have result := fieldsFit_one s.model.last.result.num_lt
  have failing := fieldsFit_append (w := 8) result (numberOrAbsent_lt (by decide) s.model.last.failingScale)
  simp only [readModelWords, h, at_zero]
  rw [packed_or_at check, packed_or_at result, packed_or_at failing, emptyMark_eq, numberOrAbsent_eq]
  rfl

theorem readModelWords_crc (h : r.sel.toNat = 1) : readModelWords r s =
    { code := .ok, d0 := s.model.last.expected.getD 0, d1 := s.model.last.computed.getD 0, d2 := s.model.commitCount } := by
  simp only [readModelWords, h]

theorem readModelWords_beyond (h : r.sel.toNat = 2) (large : 229 < r.d0.toNat) :
    readModelWords r s = .zeros .outOfRange := by
  simp only [readModelWords, h]
  exact if_pos large

theorem imageWord_eq_vget (im : Image) (i : Fin 230) : imageWord im i.val = vget im i := by
  simp [imageWord, vget]

theorem readModelWords_word {i : Fin 230} (h : r.sel.toNat = 2) (hi : i.val = r.d0.toNat) : readModelWords r s =
    let m := s.model
    { code := .ok, d0 := vget m.staging i, d1 := m.active.elim 0 fun im => imageWord im i.val
      d2 := packed [(0, if m.active = none then 1 else 0)] } := by
  simp only [readModelWords, h, at_zero, emptyMark_eq]
  rw [if_neg (by omega), ← hi, imageWord_eq_vget]

theorem readModelWords_frameEnded (l : Link) (r : Request) (s : State) :
    readModelWords r (frameEnded l s) = readModelWords r s := by
  simp only [readModelWords, frameEnded_model]

end Model

/-- Settles O19: each read is the words of its unit at the end of its frame, field by field. -/
theorem temperatureAndModelReadsShowTheirUnits : Obligations.TemperatureAndModelReadsShowTheirUnits := by
  have number {n k : Nat} {w : BitVec n} (h : w = BitVec.ofNat n k) (hk : k < 2 ^ n) : w.toNat = k := by
    rw [h, BitVec.toNat_ofNat, Nat.mod_eq_of_lt hk]
  refine ⟨fun r s ht hs hq => ?_, fun r s ht => ?_⟩
  · intro replies q entry entries signed
    have temp {reply : Reply} (h : readTempWords r s = reply) :
        replies (.readTemp r) reply.code reply.d0 reply.d1 reply.d2 := by
      refine congrArg Host.Outcome.next (handleRead_of_words ht ?_)
      rw [readTempWords_frameEnded, h]
    have groups {reply : Reply} (h : readGroupsWords r s = reply) :
        replies (.readGroups r) reply.code reply.d0 reply.d1 reply.d2 := by
      refine congrArg Host.Outcome.next (handleRead_of_words ht ?_)
      rw [readGroupsWords_frameEnded, h]
    refine ⟨fun bad => temp (readTempWords_badSelector bad), fun i hi => ⟨fun part => ?_, fun part => ?_, fun part => ?_⟩,
      fun bad => groups (readGroupsWords_badSelector bad), fun sel => ?_, fun sel => ?_, fun sel => ?_, fun sel => ?_,
      fun sel => ?_, fun sel => ?_⟩
    · exact temp (readTempWords_sample hi (number part (by decide)))
    · exact temp (readTempWords_settings (hs.1 i) hi (number part (by decide)))
    · exact temp (readTempWords_history (hs.1 i) hi (number part (by decide)))
    · exact groups (readGroupsWords_workpiece (number sel (by decide)))
    · exact groups (readGroupsWords_air (number sel (by decide)))
    · exact groups (readGroupsWords_sequencer hq (number sel (by decide)))
    · exact groups (readGroupsWords_settings (number sel (by decide)))
    · have words := groups (readGroupsWords_list (.inl ⟨number sel (by decide), rfl⟩))
      rw [listWord_eq, listWord_eq, listWord_eq] at words
      exact words
    · have words := groups (readGroupsWords_list (.inr ⟨number sel (by decide), rfl⟩))
      rw [listWord_eq, listWord_eq, listWord_eq] at words
      exact words
  · intro replies m activeWord emptyMark
    have model {reply : Reply} (h : readModelWords r s = reply) : replies reply.code reply.d0 reply.d1 reply.d2 := by
      refine congrArg Host.Outcome.next (handleRead_of_words ht ?_)
      rw [readModelWords_frameEnded, h]
    refine ⟨fun bad => model (readModelWords_badSelector bad), fun sel => ?_, fun sel => ?_, fun sel large => ?_,
      fun sel i hi => ?_⟩
    · exact model (readModelWords_check (number sel (by decide)))
    · exact model (readModelWords_crc (number sel (by decide)))
    · exact model (readModelWords_beyond (number sel (by decide)) large)
    · exact model (readModelWords_word (number sel (by decide)) hi)

end Sys2Proof.Machine
end

section
/-! PROOFS. The reads of the zone table and of an arm: READ_ZONE and READ_ARM (R80, R102). -/

namespace Sys2Proof.Machine

/-! ### READ_ZONE (R80) -/

section Zones
variable {r : Request} {s : State} {z : Fin 16} {arm : Arm} {rack : Nat}

theorem zoneAt_frameEnded (l : Link) (s : State) (z : Fin 16) : zoneAt (frameEnded l s) z = zoneAt s z := by
  simp [zoneAt]

theorem armFieldNum_lt (a : Option Arm) : armFieldNum a < 2 ^ 8 := by
  rcases a with _ | _ | _ <;> decide

theorem ZoneKind.num_eq (kind : ZoneKind) : kind.num = if kind = .rack then 1 else 0 := by cases kind <;> rfl

theorem readZoneWords_zone (hz : z.val = r.sel.toNat) : readZoneWords r s =
    { code := .ok
      d0 := packed [(0, flag (zoneAt s z).defined), (8, if (zoneAt s z).kind = .rack then 1 else 0),
        (16, armFieldNum (zoneAt s z).holder), (24, armFieldNum (zoneAt s z).waiter)]
      d1 := BitVec.ofInt 32 (zoneAt s z).lower, d2 := BitVec.ofInt 32 (zoneAt s z).upper } := by
  have fit8 : fieldsFit [(0, flag (zoneAt s z).defined)] 8 := fieldsFit_one ((flag_lt _).trans (by decide))
  have fit16 := fieldsFit_append (w := 8) (x := (zoneAt s z).kind.num) fit8 (by cases (zoneAt s z).kind <;> decide)
  have fit24 := fieldsFit_append fit16 (armFieldNum_lt (zoneAt s z).holder)
  simp only [readZoneWords, indexOf_eq_some hz, at_zero]
  rw [packed_or_at fit8, packed_or_at fit16, packed_or_at fit24, ZoneKind.num_eq]
  rfl

theorem readZoneWords_badSelector (h : 18 < r.sel.toNat) : readZoneWords r s = .zeros .badSelector := by
  have outside : indexOf 16 r.sel.toNat = none := indexOf_eq_none (by omega)
  obtain ⟨n, above⟩ := Nat.exists_eq_add_of_le' h
  simp only [readZoneWords, outside]
  simp [above]

/-- The RACK zone by number, 255 when no zone is one. -/
theorem rackZone_number (found : ∀ z : Fin 16, (zoneAt s z).defined = true → (zoneAt s z).kind = .rack → rack = z.val)
    (absent : (∀ z : Fin 16, (zoneAt s z).defined = true → (zoneAt s z).kind = .body) → rack = 255) :
    numberOrAbsent (rackZone s) = rack := by
  rw [numberOrAbsent_eq]
  cases hz : rackZone s with
  | none =>
    refine (absent fun z defined => ?_).symm
    cases kind : (zoneAt s z).kind with
    | body => rfl
    | rack => exact absurd ⟨z, defined, kind⟩ (rackZone_eq_none_iff.mp hz)
  | some z =>
    have sat := List.find?_some hz
    rw [Bool.and_eq_true, decide_eq_true_iff] at sat
    exact (found z sat.1 sat.2).symm

/-- The fields of a claim fit their bytes. -/
theorem claimFields {c : Option Claim} (hc : ∀ k ∈ c, k.first + k.count ≤ 16) :
    claimFirst c < 2 ^ 8 ∧ claimCount c < 2 ^ 8 := by
  cases c with
  | none => exact ⟨by decide, by decide⟩
  | some k =>
    have := hc k rfl
    exact ⟨by simp only [claimFirst, Option.elim]; omega, by simp only [claimCount, Option.elim]; omega⟩

theorem ZonesSound.claimFits (hs : ZonesSound s) (arm : Arm) : ∀ k ∈ s.zones.claims.get arm, k.first + k.count ≤ 16 :=
  fun k hk => (hs.2.range arm k hk).2.2.1

theorem readZoneWords_summary (hs : ZonesSound s) (hsel : r.sel.toNat = 16) : readZoneWords r s =
    { code := .ok
      d0 := packed [(0, setNum fun z => (zoneAt s z).defined), (16, numberOrAbsent (rackZone s))]
      d1 := packed [(0, setNum fun z => decide ((zoneAt s z).holder = some .a)),
        (16, setNum fun z => decide ((zoneAt s z).holder = some .b))]
      d2 := packed [(0, s.zones.claims.a.elim 255 Claim.first), (8, s.zones.claims.a.elim 0 Claim.count),
        (16, s.zones.claims.b.elim 255 Claim.first), (24, s.zones.claims.b.elim 0 Claim.count)] } := by
  have set (p : Fin 16 → Bool) : fieldsFit [(0, setNum p)] 16 := fieldsFit_one (setNum_lt p)
  obtain ⟨firstA, countA⟩ := claimFields (hs.claimFits .a)
  obtain ⟨firstB, -⟩ := claimFields (hs.claimFits .b)
  have fit8 := fieldsFit_one firstA
  have fit16 := fieldsFit_append fit8 countA
  have fit24 := fieldsFit_append fit16 firstB
  have held (arm : Arm) (bit : Nat) : setAt bit (heldSet s arm) =
      at_ bit (setNum fun z => decide ((zoneAt s z).holder = some arm)) := setAt_eq ..
  simp only [PerArm.get] at fit8 fit16 fit24
  simp only [readZoneWords, hsel, held, setAt_eq, at_zero]
  rw [packed_or_at (set _), packed_or_at (set _), packed_or_at fit8, packed_or_at fit16, packed_or_at fit24]
  rfl

theorem boundWord_eq (x : Int) : boundWord x =
    BitVec.ofInt 32 (if x < -2147483648 then -2147483648 else if 2147483647 < x then 2147483647 else x) := by
  rw [boundWord, signedWord]
  congr 1
  split_ifs <;> omega

/-- Three flags in one field are three fields. -/
theorem packed_three (fields : List (Nat × Nat)) (b x y z : Nat) :
    packed (fields ++ [(b, x + 2 * y + 4 * z)]) = packed (fields ++ [(b, x), (b + 1, y), (b + 2, z)]) := by
  have sum : (x + 2 * y + 4 * z) * 2 ^ b = x * 2 ^ b + (y * 2 ^ (b + 1) + z * 2 ^ (b + 2)) := by ring
  simp [packed, sum]

theorem readGuard_some {g : GuardRecord} (h : s.zones.guards.get arm = some g) : readGuard arm s =
    { code := .ok
      d0 := packed [(0, g.needed.toNat), (16, 1), (24, flag g.violated), (25, flag g.intruding), (26, flag g.margin)]
      d1 := boundWord g.lower, d2 := boundWord g.upper } := by
  have fit16 : fieldsFit [(0, g.needed.toNat)] 16 := fieldsFit_one g.needed.isLt
  have fit24 := fieldsFit_append (w := 8) (x := 1) fit16 (by decide)
  simp only [readGuard, h]
  rw [setAt_zero (by decide), packed_or_at fit16, packed_or_at fit24, packed_three]
  rfl

theorem readGuard_none (h : s.zones.guards.get arm = none) : readGuard arm s =
    { code := .ok, d0 := 0, d1 := 0x80000000#32, d2 := 0x80000000#32 } := by
  simp only [readGuard, h]
  rfl

theorem readZoneWords_guard (h : r.sel.toNat = 17 + armIndex arm) : readZoneWords r s = readGuard arm s := by
  simp only [readZoneWords, indexOf_eq_none (show 16 ≤ r.sel.toNat by omega)]
  cases arm <;> simp only [h, armIndex]

theorem readZoneWords_frameEnded (l : Link) (r : Request) (s : State) :
    readZoneWords r (frameEnded l s) = readZoneWords r s := by
  have rack : rackZone (frameEnded l s) = rackZone s := by simp only [rackZone, zoneAt_frameEnded]
  simp only [readZoneWords, readGuard, heldSet, rack, zoneAt_frameEnded, frameEnded_zones]

end Zones

/-! ### READ_ARM (R102) -/

section Arms
variable {r : Request} {s : State} {arm : Arm} {p : PosRecord}

theorem readArm_badSelector (h : 2 ≤ r.sel.toNat ∨ 5 < r.d0.toNat) : readArm r s = (s, .zeros .badSelector) := by
  obtain sel | part := h
  · simp only [readArm, armOfSel_eq_none sel]
  · obtain ⟨n, above⟩ := Nat.exists_eq_add_of_le' part
    cases named : armOfSel r.sel <;> simp [readArm, named, above]

theorem readArm_state (harm : armIndex arm = r.sel.toNat) (part : r.d0.toNat = 0) : readArm r s =
    (s, let v := s.sup.get arm
        { code := .ok
          d0 := packed [(0, v.state.num), (8, flag v.command), (9, flag v.sense), (10, flag v.window.isSome),
            (11, flag v.reportTimer.isSome)]
          d1 := packed [(0, causeNum v.present)], d2 := packed [(0, causeNum v.recorded)] }) := by
  have fit8 := fieldsFit_one (w := 8) (s.sup.get arm).state.num_lt
  simp only [readArm, armOfSel_eq_some harm, part, at_zero, causeMarks_eq_packed]
  rw [packed_or_at fit8]
  simp only [packed, List.cons_append, List.nil_append, List.map_cons, List.map_nil, List.sum_cons, List.sum_nil]
  ring_nf

theorem Mode.num_lt (m : Mode) : m.num < 2 ^ 4 := by cases m <;> decide

theorem modesWord_eq (v : Supervisor) : modesWord v =
    packed [(0, v.settings.modes.guard.num), (4, v.settings.modes.overdue.num), (8, v.settings.modes.compLost.num),
      (12, v.settings.modes.link.num)] := by
  have fit4 := fieldsFit_one v.settings.modes.guard.num_lt
  have fit8 := fieldsFit_append fit4 v.settings.modes.overdue.num_lt
  have fit12 := fieldsFit_append fit8 v.settings.modes.compLost.num_lt
  have mismatch : (v.mode .permitMismatch).num = 0 := rfl
  have fault : (v.mode .changeFault).num = 0 := rfl
  have empty (bit : Nat) : at_ bit 0 = 0#32 := by simp [at_]
  rw [modesWord, mismatch, fault, empty, empty, BitVec.or_zero, BitVec.or_zero, at_zero]
  simp only [Supervisor.mode, modeOf]
  rw [packed_or_at fit4, packed_or_at fit8, packed_or_at fit12]
  simp only [List.cons_append, List.nil_append, Nat.reduceAdd]

theorem readArm_modes (harm : armIndex arm = r.sel.toNat) (part : r.d0.toNat = 1) : readArm r s =
    (s, let v := s.sup.get arm
        { code := .ok
          d0 := packed [(0, v.settings.modes.guard.num), (4, v.settings.modes.overdue.num),
            (8, v.settings.modes.compLost.num), (12, v.settings.modes.link.num)]
          d1 := packed [(0, v.settings.timeoutCode.toNat), (8, flag v.settings.reportAny)]
          d2 := packed [(0, v.reportTimer.elim 0 fun t => t.duration - (s.cellTime - t.start).toNat)] }) := by
  have fit8 : fieldsFit [(0, (s.sup.get arm).settings.timeoutCode.toNat)] 8 :=
    fieldsFit_one ((BitVec.isLt _).trans (by decide))
  simp only [readArm, armOfSel_eq_some harm, part, at_zero, State.timeLeft_eq]
  rw [packed_or_at fit8, modesWord_eq]
  rfl

theorem readArm_reach (harm : armIndex arm = r.sel.toNat) (part : r.d0.toNat = 2) : readArm r s =
    (s, let v := (s.sup.get arm).settings
        { code := .ok, d0 := BitVec.ofInt 32 v.halfWidth, d1 := BitVec.ofInt 32 v.freeReach
          d2 := BitVec.ofInt 32 v.margin }) := by
  simp only [readArm, armOfSel_eq_some harm, part, signedWord]

theorem readArm_record (harm : armIndex arm = r.sel.toNat) (part : r.d0.toNat = 3) :
    readArm r s = readArmRecord arm s := by
  simp only [readArm, armOfSel_eq_some harm, part]

theorem readArm_corrected (harm : armIndex arm = r.sel.toNat) (part : r.d0.toNat = 4) : readArm r s =
    (s, let c := ((s.lastPos.get arm).map PosRecord.corrected).getD ⟨0, 0, 0⟩
        { code := .ok, d0 := BitVec.ofInt 32 c.x, d1 := BitVec.ofInt 32 c.y, d2 := BitVec.ofInt 32 c.z }) := by
  simp only [readArm, armOfSel_eq_some harm, part, signedWord]

theorem readArm_quality (harm : armIndex arm = r.sel.toNat) (part : r.d0.toNat = 5) :
    readArm r s = readArmQuality arm s := by
  simp only [readArm, armOfSel_eq_some harm, part]

/-- The claim in bytes 0 and 1 of part 3. -/
def claimPlaces (c : Option Claim) : List (Nat × Nat) := [(0, c.elim 255 Claim.first), (8, c.elim 0 Claim.count)]

theorem claimWord_eq {c : Option Claim} (hc : ∀ k ∈ c, k.first + k.count ≤ 16) :
    at_ 0 (claimFirst c) ||| at_ 8 (claimCount c) = packed (claimPlaces c) := by
  rw [at_zero, packed_or_at (fieldsFit_one (claimFields hc).1)]
  rfl

theorem claimPlaces_fit {c : Option Claim} (hc : ∀ k ∈ c, k.first + k.count ≤ 16) : fieldsFit (claimPlaces c) 16 :=
  fieldsFit_append (fieldsFit_one (claimFields hc).1) (claimFields hc).2

section Record
variable (hc : ∀ k ∈ s.zones.claims.get arm, k.first + k.count ≤ 16)
include hc

theorem readArmRecord_tagged {tag : Word} (hp : s.lastPos.get arm = some p) (ht : p.tag = some tag) :
    readArmRecord arm s =
      (s, { code := .ok, d0 := packed (claimPlaces (s.zones.claims.get arm) ++ [(16, 1)]), d1 := p.time, d2 := tag }) := by
  simp only [readArmRecord, hp, ht]
  rw [claimWord_eq hc, packed_or_at (claimPlaces_fit hc)]

theorem readArmRecord_untagged (hp : s.lastPos.get arm = some p) (ht : p.tag = none) :
    readArmRecord arm s = ({ s with freeIndex := s.freeIndex + 1 },
      { code := .ok, d0 := packed (claimPlaces (s.zones.claims.get arm) ++ [(16, 1), (24, 1)]), d1 := p.time
        d2 := Config.unstatedWord s.freeIndex }) := by
  have fit24 := fieldsFit_append (w := 8) (x := 1) (claimPlaces_fit hc) (by decide)
  simp only [readArmRecord, hp, ht]
  rw [claimWord_eq hc, packed_or_at (claimPlaces_fit hc), packed_or_at fit24, List.append_assoc]
  rfl

theorem readArmRecord_absent (hp : s.lastPos.get arm = none) :
    readArmRecord arm s = ({ s with freeIndex := s.freeIndex + 2 },
      { code := .ok, d0 := packed (claimPlaces (s.zones.claims.get arm)), d1 := Config.unstatedWord s.freeIndex
        d2 := Config.unstatedWord (s.freeIndex + 1) }) := by
  simp only [readArmRecord, hp]
  rw [claimWord_eq hc]

end Record

theorem readArmQuality_some (hp : s.lastPos.get arm = some p) : readArmQuality arm s =
    (s, { code := .ok
          d0 := packed [(0, p.quality.x.rank), (8, p.quality.y.rank), (16, p.quality.z.rank), (24, p.worst.rank)]
          d1 := packed [(0, flag p.sat.x), (1, flag p.sat.y), (2, flag p.sat.z), (8, p.twQuality.rank)]
          d2 := p.tw.elim 0x80000000#32 (BitVec.ofInt 32) }) := by
  have byte (q : Quality) : q.rank < 2 ^ 8 := q.rank_lt.trans (by decide)
  have fit8 := fieldsFit_one (byte p.quality.x)
  have fit16 := fieldsFit_append fit8 (byte p.quality.y)
  have fit24 := fieldsFit_append fit16 (byte p.quality.z)
  have fit1 := fieldsFit_one (flag_lt p.sat.x)
  have fit2 := fieldsFit_append fit1 (flag_lt p.sat.y)
  have fit8' := fieldsFit_append (w := 6) fit2 ((flag_lt p.sat.z).trans (by decide))
  simp only [readArmQuality, hp, at_zero, signedOrAbsent_eq]
  rw [packed_or_at fit8, packed_or_at fit16, packed_or_at fit24, packed_or_at fit1, packed_or_at fit2,
    packed_or_at fit8']
  rfl

theorem readArmQuality_none (hp : s.lastPos.get arm = none) : readArmQuality arm s =
    ({ s with freeIndex := s.freeIndex + 2 },
      { code := .ok, d0 := Config.unstatedWord s.freeIndex
        d1 := Config.unstatedWord (s.freeIndex + 1) &&& 0x0000FF00#32, d2 := 0x80000000#32 }) := by
  simp only [readArmQuality, hp, signedOrAbsent]

end Arms

/-- Settles O30: each read is the words of its records at the end of its frame, field by field. -/
theorem zoneAndArmReadsShowTheirRecords : Obligations.ZoneAndArmReadsShowTheirRecords := by
  have number {n k : Nat} {w : BitVec n} (h : w = BitVec.ofNat n k) (hk : k < 2 ^ n) : w.toNat = k := by
    rw [h, BitVec.toNat_ofNat, Nat.mod_eq_of_lt hk]
  refine ⟨fun r s ht hs => ?_, fun r s ht hs => ?_⟩
  · intro replies arm01 zset clamp
    have zone {reply : Reply} (h : readZoneWords r s = reply) :
        exec (.readZone r) s = .next (answered r.link reply (frameEnded r.link s)) := by
      refine congrArg Host.Outcome.next (handleRead_of_words ht ?_)
      rw [readZoneWords_frameEnded, h]
    refine ⟨fun bad => zone (readZoneWords_badSelector bad), fun z hz => ?_, fun sel rack found absent => ?_,
      fun arm sel => ⟨fun g hg => ?_, fun none => ?_⟩⟩
    · exact zone (readZoneWords_zone hz)
    · have summary := readZoneWords_summary hs sel
      rw [rackZone_number found absent] at summary
      exact zone summary
    · have guard := readGuard_some hg
      rw [boundWord_eq, boundWord_eq] at guard
      exact zone ((readZoneWords_guard sel).trans guard)
    · exact zone ((readZoneWords_guard sel).trans (readGuard_none none))
  · intro s1 replies free
    have reads {reply : Reply} (h : readArm r s1 = (s1, reply)) : exec (.readArm r) s = .next (answered r.link reply s1) :=
      congrArg Host.Outcome.next (handleRead_of_words ht h)
    refine ⟨fun bad => reads (readArm_badSelector bad), fun arm harm => ?_⟩
    intro v left mode claim
    have harm := harm.symm
    have hc : ∀ k ∈ s1.zones.claims.get arm, k.first + k.count ≤ 16 := by
      rw [frameEnded_zones]; exact hs.claimFits arm
    have claimEq : claimPlaces (s1.zones.claims.get arm) = claim := by rw [frameEnded_zones]; rfl
    have lastPos : s1.lastPos.get arm = s.lastPos.get arm := by rw [frameEnded_lastPos]
    refine ⟨fun part => ?_, fun part => ?_, fun part => ?_, fun p hp => ⟨fun part tag htag => ?_, fun part none => ?_,
      fun part => ?_, fun part => ?_⟩, fun none => ⟨fun part => ?_, fun part => ?_, fun part => ?_⟩⟩
    · exact reads (readArm_state harm (number part (by decide)))
    · have modes := reads (readArm_modes harm (number part (by decide)))
      rw [frameEnded_cellTime] at modes
      exact modes
    · exact reads (readArm_reach harm (number part (by decide)))
    · have record := readArmRecord_tagged hc (lastPos.trans hp) htag
      rw [claimEq] at record
      exact reads ((readArm_record harm (number part (by decide))).trans record)
    · have record := readArmRecord_untagged hc (lastPos.trans hp) none
      rw [claimEq, frameEnded_freeIndex] at record
      exact ⟨_, congrArg Host.Outcome.next (handleRead_of_free ht
        ((readArm_record harm (number part (by decide))).trans record))⟩
    · have words := reads (readArm_corrected harm (number part (by decide)))
      rw [lastPos, Option.mem_def.mp hp] at words
      exact words
    · exact reads ((readArm_quality harm (number part (by decide))).trans (readArmQuality_some (lastPos.trans hp)))
    · have record := readArmRecord_absent hc (lastPos.trans none)
      rw [claimEq, frameEnded_freeIndex] at record
      exact ⟨_, _, congrArg Host.Outcome.next (handleRead_of_free ht
        ((readArm_record harm (number part (by decide))).trans record))⟩
    · have words := reads (readArm_corrected harm (number part (by decide)))
      rw [lastPos, none] at words
      exact words
    · have quality := readArmQuality_none (lastPos.trans none)
      rw [frameEnded_freeIndex] at quality
      refine ⟨_, _, ?_, congrArg Host.Outcome.next (handleRead_of_free ht
        ((readArm_quality harm (number part (by decide))).trans quality))⟩
      rw [BitVec.and_assoc]
      exact BitVec.and_zero

end Sys2Proof.Machine
end

section
/-! PROOFS. CLAIM and CLAIM_WITHDRAW: the checks, the range granted or left waiting, and the claim removed (R66 to R71). -/

namespace Sys2Proof.Machine

/-! ### The checks of a CLAIM (R66 to R68) -/

section Checks
variable {arm : Arm} {r : Request} {s : State}

/-- A CLAIM can be granted at once: its range is held whole, or nothing of it is the other arm's or waited on by it. -/
def claimFree (arm : Arm) (r : Request) (s : State) : Prop :=
  (∀ z : Fin 16, (r.sel.toNat ≤ z.val ∧ z.val < r.sel.toNat + r.d0.toNat) → (zoneAt s z).holder = some arm) ∨
    ∀ z : Fin 16, (r.sel.toNat ≤ z.val ∧ z.val < r.sel.toNat + r.d0.toNat) →
      (zoneAt s z).holder ≠ some (otherArm arm) ∧ (zoneAt s z).waiter ≠ some (otherArm arm)

theorem holder_free_iff {holder : Option Arm} : (holder = none ∨ holder = some arm) ↔ holder ≠ some (otherArm arm) := by
  cases holder with
  | none => simp
  | some k => cases k <;> cases arm <;> decide

theorem grantable_iff : grantable s arm (namedRange r) = true ↔ claimFree arm r s := by
  simp only [grantable, Bool.or_eq_true, allCovered_iff, covers_iff, namedRange, decide_eq_true_iff, holder_free_iff,
    claimFree]
  exact or_comm

/-- The first check that a CLAIM fails (R66 to R68). -/
def claimRefusal (arm : Arm) (r : Request) (s : State) : Option ResultCode :=
  let first := r.sel.toNat
  let count := r.d0.toNat
  if (s.sup.get arm).state = .disabled then some .state
  else if count < 1 ∨ 16 < count ∨ 16 < first + count ∨
      ∃ z : Fin 16, (first ≤ z.val ∧ z.val < first + count) ∧ (zoneAt s z).defined = false then some .badSelector
  else if (s.zones.claims.get arm).isSome then some .busy
  else if (∃ z : Fin 16, (first ≤ z.val ∧ z.val < first + count) ∧ (zoneAt s z).holder ≠ some arm) ∧
      (∃ z : Fin 16, (first ≤ z.val ∧ z.val < first + count) ∧ ((zoneAt s z).holder = some (otherArm arm) ∨
        (zoneAt s z).waiter = some (otherArm arm))) ∧ (s.zones.claims.get (otherArm arm)).isSome then some .conflict
  else none

/-- A CLAIM meets the other arm's claim when it cannot be granted at once. -/
theorem claimConflict_iff : ((∃ z : Fin 16, (r.sel.toNat ≤ z.val ∧ z.val < r.sel.toNat + r.d0.toNat) ∧
      (zoneAt s z).holder ≠ some arm) ∧
    (∃ z : Fin 16, (r.sel.toNat ≤ z.val ∧ z.val < r.sel.toNat + r.d0.toNat) ∧
      ((zoneAt s z).holder = some (otherArm arm) ∨ (zoneAt s z).waiter = some (otherArm arm))) ∧
    (s.zones.claims.get (otherArm arm)).isSome = true) ↔
      ¬ claimFree arm r s ∧ (s.zones.claims.get (otherArm arm)).isSome = true := by
  simp only [claimFree, not_or, not_forall, not_and_or, not_not, exists_prop, and_assoc, ne_eq]

/-- The state of a CLAIM granted at once (R67). -/
def granted (arm : Arm) (r : Request) (s : State) : State := judgeVerdict arm (holdRange arm (namedRange r) s)

/-- The state of a CLAIM left waiting (R68). -/
def waiting (arm : Arm) (r : Request) (s : State) : State :=
  markWaiter arm (namedRange r) (s.setClaim arm (some (namedRange r)))

/-- The first failing check decides. -/
theorem claimBy_of_refusal {code : ResultCode} (h : claimRefusal arm r s = some code) :
    claimBy arm r s = zoneAct code arm s := by
  simp only [claimRefusal, claimConflict_iff, ← grantable_iff] at h
  simp only [claimBy, definedRange_eq]
  split_ifs at h with disabled range busy conflict <;> cases h
  · rw [if_pos disabled]
  · rw [if_neg disabled, if_pos range]
  · rw [if_neg disabled, if_neg range]; exact if_pos busy
  · rw [if_neg disabled, if_neg range]
    exact (if_neg busy).trans ((if_neg conflict.1).trans (if_pos conflict.2))

theorem claimBy_of_free (h : claimRefusal arm r s = none) (free : claimFree arm r s) :
    claimBy arm r s = zoneAct .granted arm (granted arm r s) := by
  simp only [claimRefusal] at h
  simp only [claimBy, definedRange_eq]
  split_ifs at h with disabled range busy conflict
  rw [if_neg disabled, if_neg range]
  exact (if_neg busy).trans (if_pos (grantable_iff.mpr free))

theorem claimBy_of_held (h : claimRefusal arm r s = none) (held : ¬ claimFree arm r s) :
    claimBy arm r s = zoneAct .pending arm (waiting arm r s) := by
  simp only [claimRefusal] at h
  simp only [claimBy, definedRange_eq]
  split_ifs at h with disabled range busy conflict
  have alone (other : (s.zones.claims.get (otherArm arm)).isSome = true) : False :=
    conflict (claimConflict_iff.mpr ⟨held, other⟩)
  rw [if_neg disabled, if_neg range]
  exact (if_neg busy).trans ((if_neg (grantable_iff.not.mpr held)).trans (if_neg alone))

theorem claimRefusal_acceptFrame (arm : Arm) (r : Request) (s : State) :
    claimRefusal arm r (acceptFrame (linkOf arm) s) = claimRefusal arm r s := by
  have state : ((acceptFrame (linkOf arm) s).sup.get arm).state = (s.sup.get arm).state := by rw [acceptFrame_own]
  simp only [claimRefusal, zoneAt_acceptFrame, acceptFrame_zones, state]

theorem claimFree_acceptFrame (l : Link) : claimFree arm r (acceptFrame l s) ↔ claimFree arm r s := by
  simp only [claimFree, zoneAt_acceptFrame]

end Checks

/-! ### The range granted or waited for -/

section Outcomes
variable (arm : Arm) (r : Request) (s : State)

theorem holdRange_unchangedBut (c : Claim) : unchangedBut [.zoneTable] s (holdRange arm c s) :=
  setZoneTable_unchangedBut _ _

theorem zoneAt_granted (z : Fin 16) : zoneAt (granted arm r s) z =
    if r.sel.toNat ≤ z.val ∧ z.val < r.sel.toNat + r.d0.toNat then { zoneAt s z with holder := some arm }
    else zoneAt s z := by
  rw [granted, zoneAt_judgeVerdict, zoneAt_holdRange]
  simp only [covers_iff, namedRange]

theorem granted_unchangedBut : unchangedBut [.zoneTable, .guard arm, .supervisor arm, .faultSource] s (granted arm r s) :=
  unchangedBut_append (holdRange_unchangedBut arm s _) (judgeVerdict_unchangedBut arm _)

theorem granted_sup_other : (granted arm r s).sup.get (otherArm arm) = s.sup.get (otherArm arm) := by
  rw [granted, judgeVerdict_sup_other, holdRange, mapZones_sup]

theorem zoneAt_waiting (z : Fin 16) : zoneAt (waiting arm r s) z =
    if (r.sel.toNat ≤ z.val ∧ z.val < r.sel.toNat + r.d0.toNat) ∧ (zoneAt s z).holder ≠ some arm then
      { zoneAt s z with waiter := some arm }
    else zoneAt s z := by
  rw [waiting, zoneAt_markWaiter]
  simp only [covers_iff, namedRange, zoneAt_setClaim]

theorem waiting_unchangedBut : unchangedBut [.zoneTable, .claim arm] s (waiting arm r s) :=
  unchangedBut_mono (by simp) (unchangedBut_append (setClaim_unchangedBut s arm _) (markWaiter_unchangedBut arm _ _))

theorem holder_waiting (z : Fin 16) : (zoneAt (waiting arm r s) z).holder = (zoneAt s z).holder := by
  rw [zoneAt_waiting]; split <;> rfl

/-- The answer of R69 reads holders alone. -/
theorem zoneReply_congr {s t : State} (holders : ∀ z, (zoneAt t z).holder = (zoneAt s z).holder) (code : ResultCode)
    (arm : Arm) : zoneReply code arm t = zoneReply code arm s := by
  simp only [zoneReply_eq, holders]

end Outcomes

/-! ### The requests -/

section Requests
variable {arm : Arm} {r : Request} {s : State}

theorem exec_claim_of_refusal {code : ResultCode} (ha : onArm arm r s) (h : claimRefusal arm r s = some code) :
    exec (.claim r) s = .next (answered (linkOf arm) (zoneReply code arm s) (frameEnded (linkOf arm) s)) := by
  refine congrArg Host.Outcome.next ?_
  rw [← endEvent_acceptFrame, ← zoneReply_congr (t := acceptFrame (linkOf arm) s) fun z => by rw [zoneAt_acceptFrame]]
  exact handleRequest_onArm ha (fun arm => claimBy arm r) (claimBy_of_refusal (by rw [claimRefusal_acceptFrame, h]))

theorem exec_claim_of_free (ha : onArm arm r s) (h : claimRefusal arm r s = none) (free : claimFree arm r s) :
    exec (.claim r) s = .next (endEvent (linkOf arm) (zoneReply .granted arm (granted arm r (acceptFrame (linkOf arm) s))) s
      (granted arm r (acceptFrame (linkOf arm) s))) :=
  congrArg Host.Outcome.next (handleRequest_onArm ha (fun arm => claimBy arm r) (claimBy_of_free
    (by rw [claimRefusal_acceptFrame, h]) ((claimFree_acceptFrame _).mpr free)))

theorem exec_claim_of_held (ha : onArm arm r s) (h : claimRefusal arm r s = none) (held : ¬ claimFree arm r s) :
    exec (.claim r) s = .next (endEvent (linkOf arm) (zoneReply .pending arm (waiting arm r (acceptFrame (linkOf arm) s))) s
      (waiting arm r (acceptFrame (linkOf arm) s))) :=
  congrArg Host.Outcome.next (handleRequest_onArm ha (fun arm => claimBy arm r) (claimBy_of_held
    (by rw [claimRefusal_acceptFrame, h]) ((claimFree_acceptFrame _).not.mpr held)))

theorem exec_claimWithdraw (ha : onArm arm r s) :
    exec (.claimWithdraw r) s = .next (endEvent (linkOf arm)
      (zoneReply .ok arm (removeClaim arm (acceptFrame (linkOf arm) s))) s
      (removeClaim arm (acceptFrame (linkOf arm) s))) :=
  congrArg Host.Outcome.next (handleRequest_onArm ha (fun arm s1 => zoneAct .ok arm (removeClaim arm s1)) rfl)

/-- The end of an event that leaves the supervisors and the ports as the accepted frame has them. -/
theorem endEvent_ownBlocks {m : State} {blocks : List Block}
    (apart : ∀ b ∈ (ofArms .supervisor ++ ofArms .settings ++ ofArms .sense) ++ [.port (linkOf arm), .time], b ∉ blocks)
    (hm : unchangedBut blocks (acceptFrame (linkOf arm) s) m) (reply : Reply) :
    (endEvent (linkOf arm) reply s m).ports.get (linkOf arm) = answeredPort reply ∧
    (endEvent (linkOf arm) reply s m).sup.get arm = (frameEnded (linkOf arm) s).sup.get arm ∧
    unchangedBut ([.port (linkOf arm), .supervisor arm] ++
      (blocks ++ [.supervisor arm, .permitSource arm, .port (linkOf arm)])) s (endEvent (linkOf arm) reply s m) := by
  have sup : m.sup = (acceptFrame (linkOf arm) s).sup :=
    sup_of_unchangedBut hm fun b hb => apart b (List.mem_append_left _ hb)
  have time : m.cellTime = (acceptFrame (linkOf arm) s).cellTime := hm .time (apart _ (by simp))
  have other : m.sup.get (otherArm arm) = s.sup.get (otherArm arm) := by rw [sup, acceptFrame_sup_other]
  refine ⟨endEvent_port (hm (.port (linkOf arm)) (apart _ (by simp))) reply, ?_, ?_⟩
  · rw [endEvent_sup]
    exact conclude_sup_congr (by rw [sup]) time s .plain
  · exact unchangedBut_append (acceptFrame_arm_unchangedBut arm s) <|
      unchangedBut_append hm (endEvent_unchangedBut_of_other_same other (linkOf arm) reply)

/-- The end of an event of the zone arbiter that leaves the supervisors as the accepted frame has them. -/
theorem endEvent_zoneBlocks {m : State} (reply : Reply)
    (hm : unchangedBut [.zoneTable, .claim arm] (acceptFrame (linkOf arm) s) m) :
    (endEvent (linkOf arm) reply s m).ports.get (linkOf arm) = answeredPort reply ∧
    (endEvent (linkOf arm) reply s m).sup.get arm = (frameEnded (linkOf arm) s).sup.get arm ∧
    unchangedBut [.port (linkOf arm), .zoneTable, .claim arm, .supervisor arm, .permitSource arm] s
      (endEvent (linkOf arm) reply s m) := by
  obtain ⟨port, sup, kept⟩ := endEvent_ownBlocks (by cases arm <;> decide) hm reply
  exact ⟨port, sup, unchangedBut_mono (by simp) kept⟩

/-- The end of a CLAIM granted at once: the verdict of the claimant is judged again (R67, R79). -/
theorem granted_unchangedBut_frame (reply : Reply) :
    unchangedBut [.port (linkOf arm), .zoneTable, .guard arm, .supervisor arm, .faultSource, .permitSource arm] s
      (endEvent (linkOf arm) reply s (granted arm r (acceptFrame (linkOf arm) s))) := by
  have other : (granted arm r (acceptFrame (linkOf arm) s)).sup.get (otherArm arm) = s.sup.get (otherArm arm) := by
    rw [granted_sup_other, acceptFrame_sup_other]
  exact unchangedBut_trans (unchangedBut_mono (by simp) (acceptFrame_arm_unchangedBut arm s)) <|
    unchangedBut_trans (unchangedBut_mono (by simp) (granted_unchangedBut arm r _)) <|
    unchangedBut_mono (by simp) (endEvent_unchangedBut_of_other_same other (linkOf arm) reply)

/-- The verdict of the claimant judged on the zones granted (R79). -/
theorem granted_verdict :
    (s.zones.guards.get arm = none → (granted arm r s).zones.guards.get arm = none ∧
      ((granted arm r s).sup.get arm).present = { (s.sup.get arm).present with guard := false }) ∧
    (∀ g ∈ s.zones.guards.get arm, ∃ v : Bool, (granted arm r s).zones.guards.get arm = some { g with violated := v } ∧
      (v = true ↔ ∃ z : Fin 16, g.needed.getLsbD z.val = true ∧ (zoneAt (granted arm r s) z).holder ≠ some arm) ∧
      ((granted arm r s).sup.get arm).present = { (s.sup.get arm).present with guard := v }) := by
  have guards : (holdRange arm (namedRange r) s).zones.guards.get arm = s.zones.guards.get arm :=
    holdRange_unchangedBut arm s _ (.guard arm) (by simp)
  have sup : (holdRange arm (namedRange r) s).sup = s.sup := mapZones_sup ..
  refine ⟨fun absent => ?_, fun g hg => ?_⟩
  · have judged := judgeVerdict_absent (guards.trans absent)
    rwa [sup] at judged
  · have judged := judgeVerdict_present (guards.trans hg)
    rw [sup] at judged
    simpa only [granted, zoneAt_judgeVerdict] using judged

end Requests

/-- Settles O27: the first failing check, or the range granted or waited for; and the claim removed. -/
theorem claimsAreGrantedWaitOrAreWithdrawn : Obligations.ClaimsAreGrantedWaitOrAreWithdrawn := by
  constructor
  · intro arm r s ha l first count inRange held words refusal free
    have hrefusal : refusal = claimRefusal arm r s := rfl
    have hwords (code : ResultCode) (u : State) : words code u = zoneReply code arm u := (zoneReply_eq code arm u).symm
    have present : ((acceptFrame l s).sup.get arm).present = { (s.sup.get arm).present with link := false } := by
      rw [acceptFrame_own]
    have port : (granted arm r (acceptFrame l s)).ports.get l = (acceptFrame l s).ports.get l :=
      granted_unchangedBut arm r _ (.port l) (by simp)
    obtain ⟨absent, judged⟩ := granted_verdict (arm := arm) (r := r) (s := acceptFrame l s)
    rw [acceptFrame_zones, present] at absent
    simp only [acceptFrame_zones, present] at judged
    rw [hrefusal]
    refine ⟨fun code h => ?_, fun h free => ⟨_, exec_claim_of_free ha h free, ?_, fun z => ⟨fun inside => ?_,
      fun outside => ?_⟩, fun none => ?_, fun g hg => ?_, granted_unchangedBut_frame _⟩,
      fun h notFree => ⟨_, exec_claim_of_held ha h notFree, ?_⟩⟩
    · rw [hwords]; exact exec_claim_of_refusal ha h
    · rw [hwords]
      refine (endEvent_port port _).trans (congrArg answeredPort (zoneReply_congr (fun z => ?_) _ arm).symm)
      rw [zoneAt_endEvent]
    · rw [zoneAt_endEvent, zoneAt_granted, if_pos inside, zoneAt_acceptFrame]
    · rw [zoneAt_endEvent, zoneAt_granted, if_neg outside, zoneAt_acceptFrame]
    · simpa only [endEvent_zones, endEvent_present] using absent none
    · simpa only [endEvent_zones, endEvent_present, zoneAt_endEvent] using judged g hg
    · obtain ⟨port, sup, kept⟩ := endEvent_zoneBlocks (zoneReply .pending arm (waiting arm r (acceptFrame l s)))
        (waiting_unchangedBut arm r (acceptFrame l s))
      have claim : (waiting arm r (acceptFrame l s)).zones.claims.get arm = some ⟨first, count⟩ :=
        (markWaiter_unchangedBut arm _ _ (.claim arm) (by simp)).trans (PerArm.get_set_same ..)
      refine ⟨?_, ?_, fun z => ⟨fun inside notHeld => ?_, fun outside => ?_⟩, sup, kept⟩
      · rw [port, hwords, zoneReply_congr (s := s) fun z => by rw [holder_waiting, zoneAt_acceptFrame]]
      · rw [endEvent_zones]; exact claim
      · rw [zoneAt_endEvent, zoneAt_waiting, zoneAt_acceptFrame, if_pos ⟨inside, notHeld⟩]
      · rw [zoneAt_endEvent, zoneAt_waiting, zoneAt_acceptFrame, if_neg]
        rintro ⟨inside, notHeld⟩
        exact outside.elim (absurd inside) notHeld
  · intro arm r s ha l held
    have hm := removeClaim_unchangedBut arm (acceptFrame l s)
    obtain ⟨port, sup, kept⟩ := endEvent_zoneBlocks (zoneReply .ok arm (removeClaim arm (acceptFrame l s))) hm
    refine ⟨_, exec_claimWithdraw ha, ?_, ?_, fun z => ?_, sup, kept⟩
    · rw [port, zoneReply_congr (s := s) fun z => by rw [holder_removeClaim, zoneAt_acceptFrame], zoneReply_eq]
    · rw [endEvent_zones, claims_removeClaim, PerArm.get_set_same]
    · rw [zoneAt_endEvent, zoneAt_removeClaim, zoneAt_acceptFrame, acceptFrame_zones]

end Sys2Proof.Machine
end

section
/-! PROOFS. The sequencer at a completion and at the expiry of the round timer (R8 to R12), and the left-valid time
(R19). -/

namespace Sys2Proof.Machine

/-! ### The next convertible entry as a position (R8) -/

section Next
variable {s : State} {list : List (Fin 16)} {k n : Nat} {i : Fin 16}

/-- The first position at or after another whose sensor is not UNUSED. -/
def nextPosition (s : State) (list : List (Fin 16)) (k : Nat) : Option Nat :=
  (List.range list.length).find? fun m => decide (k ≤ m) && (list[m]?).any (convertible s)

theorem nextPosition_beyond (h : list.length ≤ k) : nextPosition s list k = none := by
  refine List.find?_eq_none.mpr fun m hm => ?_
  have := List.mem_range.mp hm
  simp [show ¬ k ≤ m by omega]

theorem nextPosition_here (hk : list[k]? = some i) (hi : convertible s i = true) : nextPosition s list k = some k := by
  obtain ⟨inside, -⟩ := List.getElem?_eq_some_iff.mp hk
  refine List.find?_range_eq_some.mpr ⟨by simp [hk, hi], List.mem_range.mpr inside, fun m hm => ?_⟩
  simp [show ¬ k ≤ m by omega]

theorem nextPosition_later (hk : list[k]? = some i) (hi : convertible s i = false) :
    nextPosition s list k = nextPosition s list (k + 1) := by
  refine congrArg (List.find? · _) (funext fun m => ?_)
  by_cases same : m = k
  · subst same; simp [hk, hi]
  · have later : decide (k ≤ m) = decide (k + 1 ≤ m) := decide_eq_decide.mpr (by omega)
    rw [later]

theorem nextEntry_beyond (h : list.length ≤ k) : nextEntry s list k = none := by
  rw [nextEntry, List.drop_eq_nil_of_le h]; rfl

theorem nextEntry_at (hk : list[k]? = some i) :
    nextEntry s list k = if convertible s i then some (k, i) else nextEntry s list (k + 1) := by
  obtain ⟨inside, rfl⟩ := List.getElem?_eq_some_iff.mp hk
  rw [nextEntry, List.drop_eq_getElem_cons inside, List.zipIdx_cons, List.findSome?_cons, nextEntry]
  cases convertible s list[k] <;> rfl

/-- The next entry is the one at the next position. -/
theorem nextEntry_eq (s : State) (list : List (Fin 16)) (k : Nat) : nextEntry s list k =
    (nextPosition s list k).bind fun n => (list[n]?).map fun i => (n, i) := by
  by_cases inside : k < list.length
  · have hk : list[k]? = some list[k] := List.getElem?_eq_getElem inside
    rw [nextEntry_at hk]
    cases hi : convertible s list[k] with
    | true => rw [nextPosition_here hk hi]; simp [hk]
    | false => rw [nextPosition_later hk hi, ← nextEntry_eq s list (k + 1)]; rfl
  · rw [nextEntry_beyond (by omega), nextPosition_beyond (by omega)]; rfl
termination_by list.length - k

theorem nextEntry_of_position (h : nextPosition s list k = some n) :
    ∃ i, list[n]? = some i ∧ nextEntry s list k = some (n, i) := by
  have inside := List.mem_range.mp (List.mem_of_find?_eq_some h)
  have hn : list[n]? = some list[n] := List.getElem?_eq_getElem inside
  exact ⟨_, hn, by rw [nextEntry_eq, h, Option.bind_some, hn]; rfl⟩

theorem nextEntry_of_no_position (h : nextPosition s list k = none) : nextEntry s list k = none := by
  rw [nextEntry_eq, h]; rfl

theorem convertible_congr {t : State} (roles : ∀ i, (vget t.temp.sensors i).role = (vget s.temp.sensors i).role) :
    convertible t = convertible s := by
  funext i; rw [convertible, roles, convertible]

end Next

/-! ### The sequencer after a completion (R8 to R12) -/

section After
variable {s : State} {q : Sequencer} {c : Conversion} {n : Nat} {i : Fin 16}

/-- The sequencer with the conversion completed and its entry passed (R8). -/
def passed (s : State) (q : Sequencer) (c : Conversion) : Sequencer :=
  if c.kind = .list then passEntry s { q with inFlight := none } else { q with inFlight := none }

theorem afterCompletion_eq (s : State) (q : Sequencer) (c : Conversion) : afterCompletion s q c =
    (passed s q c).pendingSingle.elim
      (if (passed s q c).state = .running then resumeList s (passed s q c)
       else if (passed s q c).state = .stopping then stopSequencer (passed s q c)
       else if (passed s q c).state = .single then { passed s q c with state := .stopped } else passed s q c)
      (startPending s (passed s q c)) := by
  have whole : (if c.kind = .list then passEntry s { q with inFlight := none } else { q with inFlight := none }) =
      passed s q c := rfl
  simp only [afterCompletion, whole]
  cases (passed s q c).pendingSingle with
  | some i => rfl
  | none => cases (passed s q c).state <;> rfl

/-- Passing an entry moves the position and ends the conversion, and may end the round. -/
theorem passed_fields (s : State) (q : Sequencer) (c : Conversion) :
    passed s q c = { q with inFlight := none, position := (passed s q c).position, inRound := (passed s q c).inRound } := by
  rw [passed]
  split_ifs
  · rw [passEntry]; split <;> rfl
  · rfl

theorem passed_eq_elim (s : State) (q : Sequencer) (c : Conversion) : passed s q c =
    if c.kind = .single then { q with inFlight := none }
    else (nextPosition s q.list (q.position + 1)).elim { q with position := 0, inRound := false, inFlight := none }
      fun n => { q with position := n, inFlight := none } := by
  rw [passed]
  cases c.kind with
  | single => rfl
  | list =>
    rw [if_pos rfl, if_neg (by decide), passEntry]
    cases hn : nextPosition s q.list (q.position + 1) with
    | none => rw [nextEntry_of_no_position hn]; rfl
    | some n => obtain ⟨i, -, entry⟩ := nextEntry_of_position hn; rw [entry]; rfl

theorem startRound_of_position (h : nextPosition s q.list q.position = some n) : startRound s q =
    { q with expired := false, inRound := true, position := n
             roundTimer := if q.period = 0 then none else some ⟨s.cellTime, q.period⟩
             inFlight := (q.list[n]?).map fun i => ⟨i, .list, s.cellTime⟩ } := by
  obtain ⟨i, hn, entry⟩ := nextEntry_of_position h
  rw [startRound, entry, hn]
  rfl

theorem resumeList_of_position (round : q.inRound = true) (h : nextPosition s q.list q.position = some n) :
    resumeList s q = { q with position := n, inFlight := (q.list[n]?).map fun i => ⟨i, .list, s.cellTime⟩ } := by
  obtain ⟨i, hn, entry⟩ := nextEntry_of_position h
  rw [resumeList, if_pos round, entry, hn]
  rfl

theorem resumeList_of_waiting (round : q.inRound = false) (expired : q.expired = false) (period : q.period ≠ 0) :
    resumeList s q = q := by
  rw [resumeList, if_neg (by rw [round]; decide), betweenRounds, if_neg (by simp [expired, period])]

theorem resumeList_of_ended (round : q.inRound = false) (again : q.expired = true ∨ q.period = 0) :
    resumeList s q = startRound s q := by
  rw [resumeList, if_neg (by rw [round]; decide), betweenRounds, if_pos again]

end After

/-- A completion writes the judged record, with or without SENSOR attention, and then the sequencer. -/
theorem completeConversion_cases (code : Half) (c : Conversion) (s : State) :
    let judged := s.setSensor c.sensor (completeSample s.temp.deglitch s.cellTime code (vget s.temp.sensors c.sensor))
    ∃ u : State, (u = judged ∨ u = raiseSensor c.sensor judged) ∧
      (completeConversion code c s).temp.seq = afterCompletion u u.temp.seq c := by
  simp only [completeConversion]
  split_ifs
  · exact ⟨_, .inr rfl, rfl⟩
  · exact ⟨_, .inl rfl, rfl⟩

/-- The sequencer that a completion leaves is read from the roles, which a sample does not move. -/
theorem seq_completeConversion (code : Half) (c : Conversion) (s : State) :
    ∃ u : State, u.cellTime = s.cellTime ∧ convertible u = convertible s ∧
      (completeConversion code c s).temp.seq = afterCompletion u s.temp.seq c := by
  obtain ⟨u, kept, seq⟩ := completeConversion_cases code c s
  have roles (i : Fin 16) : (vget u.temp.sensors i).role = (vget s.temp.sensors i).role := by
    by_cases hi : i = c.sensor <;> obtain rfl | rfl := kept <;> simp [hi, completeSample_role]
  refine ⟨u, ?_, convertible_congr roles, ?_⟩
  · obtain rfl | rfl := kept <;> rfl
  · have same : u.temp.seq = s.temp.seq := by obtain rfl | rfl := kept <;> rfl
    rw [seq, same]

/-- The expiry of the round timer with nothing in flight or pending starts the next round (R9). -/
theorem expireRound_starts {s : State} {n : Nat} (flight : s.temp.seq.inFlight = none) (single : s.temp.seq.pendingSingle = none)
    (h : nextPosition s s.temp.seq.list s.temp.seq.position = some n) : expireRound s = s.setSeq
      { s.temp.seq with expired := false, inRound := true, position := n
                        roundTimer := if s.temp.seq.period = 0 then none else some ⟨s.cellTime, s.temp.seq.period⟩
                        inFlight := (s.temp.seq.list[n]?).map fun j => ⟨j, .list, s.cellTime⟩ } := by
  have round := startRound_of_position (q := { s.temp.seq with roundTimer := none }) h
  simp only [expireRound, flight, single] at round ⊢
  rw [if_neg (by simp), round]

/-- Settles O17: the completion by the sequencer's state after the entry is passed, and the expiries by what is due. -/
theorem completionAndTimersMoveTheSequencer : Obligations.CompletionAndTimersMoveTheSequencer := by
  refine ⟨fun code s c flying held age sound => ?_, fun s i => ?_⟩
  · intro q used next passedHere convert
    obtain ⟨u, time, roles, after⟩ := seq_completeConversion code c s
    have position (n : Nat) : nextPosition u q.list n = next n := by rw [nextPosition, roles]; rfl
    have passedEq : passed u q c = passedHere := by
      rw [passed_eq_elim, position]
      simp only [passedHere]
      cases next (q.position + 1) <;> rfl
    have fields := passed_fields u q c
    rw [passedEq] at fields
    have list : passedHere.list = q.list := by rw [fields]
    have entry (n : Nat) : passedHere.list[n]? = q.list[n]? := by rw [list]
    have state : passedHere.state = q.state := by rw [fields]
    have pending : passedHere.pendingSingle = q.pendingSingle := by rw [fields]
    have period : passedHere.period = q.period := by rw [fields]
    have expired : passedHere.expired = q.expired := by rw [fields]
    have seq := after.trans (afterCompletion_eq u q c)
    rw [passedEq, pending, state] at seq
    have found {n : Nat} (hn : n ∈ next passedHere.position) :
        nextPosition u passedHere.list passedHere.position = some n := by rw [list, position]; exact hn
    refine ⟨_, exec_conversionCompletion_of_due flying held age, fun i hi => ?_, fun none => ⟨fun single => ?_,
      fun stopping => ?_, fun running round n hn => ?_, fun running round => ⟨fun unexpired timed => ?_,
      fun again n hn => ?_⟩⟩⟩
    · rw [seq, Option.mem_def.mp hi, ← time]; rfl
    all_goals
      rw [seq, none]
    · rw [single]; rfl
    · rw [stopping]; rfl
    · rw [running]
      refine (resumeList_of_position round (found hn)).trans ?_
      rw [entry n, time]
    · rw [running]
      exact resumeList_of_waiting round (expired.trans unexpired) (period ▸ timed)
    · rw [running]
      refine (resumeList_of_ended round (by rw [expired, period]; exact again)).trans ?_
      rw [startRound_of_position (found hn), entry n, period, time]
  · intro q used out
    have due : s.due q.roundTimer = true ↔ out := State.due_iff
    refine ⟨fun no => ?_, fun yes busy => ?_, fun yes flight single n hn => ?_, ?_⟩
    · exact if_neg (due.not.mpr no)
    · refine (if_pos (due.mpr yes)).trans (congrArg Host.Outcome.next ?_)
      simp only [expireRound]
      exact if_pos busy
    · refine (if_pos (due.mpr yes)).trans (congrArg Host.Outcome.next ?_)
      exact expireRound_starts flight single hn
    · have left : leftValidDue s i = true ↔
          s.resetHeld = false ∧ ∃ t ∈ (vget s.temp.sensors i).leftValid, 600000 ≤ (s.cellTime - t).toNat := by
        rw [leftValidDue_iff]
        exact ⟨fun ⟨t, ht, free, age⟩ => ⟨free, t, ht, age⟩, fun ⟨free, t, ht, age⟩ => ⟨t, ht, free, age⟩⟩
      simp only [exec, execLeftValidTimeExpiry, left]
      split_ifs <;> rfl

end Sys2Proof.Machine
end

section
/-! PROOFS. TOUCH: the checks of Table 8.2, the record and what the touch counts (R139 to R143). -/

namespace Sys2Proof.Machine

/-! ### What compensation reads (R41) -/

section Compensation
variable {s t : State}

theorem validTfs_congr (temp : t.temp = s.temp) : validTfs t = validTfs s := by
  funext role; rw [validTfs, temp, validTfs]

/-- A compensation reads the sensor table, ACTIVE and cell time alone. -/
theorem compensate_congr (temp : t.temp = s.temp) (model : t.model = s.model) (time : t.cellTime = s.cellTime)
    (arm : Arm) (raw : Axes Int) : compensate t arm raw = compensate s arm raw := by
  have air : airMean t = airMean s := by rw [airMean, validTfs_congr temp, airMean]
  have sensor (n : Nat) : sensorAt t n = sensorAt s n := by rw [sensorAt, temp, sensorAt]
  have hold (x : Sensor) : holds t x = holds s x := by
    cases h : x.leftValid with
    | none => simp only [holds, h]
    | some stamp => simp only [holds, h]; rw [decide_eq_decide, State.age, State.age, time, temp]
  have tw : workpieceTemperature t = workpieceTemperature s := by
    simp only [workpieceTemperature, workpieceMean, validTfs_congr temp, air]
  have ts (im : Image) (j : Fin 6) : scaleTemperature t im j = scaleTemperature s im j := by
    simp only [scaleTemperature, substituteTemperature, sensor, hold, air]
  simp only [compensate, correctAxis, model, tw, ts]

theorem unsoaked_eq (s : State) : unsoaked s =
    decide (workpieceCount s < 2 ∨ ∃ d ∈ workpieceSpread s, (s.temp.spreadLimit : Int) < d) := by
  rw [unsoaked, Bool.decide_or]
  cases workpieceSpread s <;> simp

theorem unsoaked_congr (temp : t.temp = s.temp) : unsoaked t = unsoaked s := by
  rw [unsoaked_eq, unsoaked_eq, decide_eq_decide]
  simp only [workpieceCount, workpieceSpread, validTfs_congr temp, temp]

end Compensation

/-! ### The record of a touch (R140 to R142) -/

section Record
variable {s : State} {arm : Arm} {p : Probe} {o raw : Axes Int} {tip : Nat}

theorem touchRecord_acceptFrame (l : Link) : touchRecord arm p tip o raw (acceptFrame l s) =
    touchRecord arm p tip o raw s := by
  have comp := compensate_congr (acceptFrame_temp l s) (acceptFrame_model l s) (acceptFrame_cellTime l s) arm raw
  have drift := drifts_congr (acceptFrame_temp l s) (congrArg Registry.driftLimit (acceptFrame_registry l s)) p
  simp only [touchRecord, comp, drift, unsoaked_congr (acceptFrame_temp l s), acceptFrame_touch, acceptFrame_cellTime]

theorem notQualified_iff : p.qual ≠ .qualified ↔ p.qual = .unqualified ∨ p.qual = .due := by
  cases p.qual <;> decide

theorem touchRecord_eq (s : State) : touchRecord arm p tip o raw s =
    let c := compensate s arm raw
    let bound (x : Int) : Int := max (-2000000000) (min 2000000000 x)
    let sum : Axes Int := ⟨c.x.value + o.x, c.y.value + o.y, c.z.value + o.z⟩
    { sequence := (s.touch.queues.get arm).counter + 1, probeId := p.id, tip := tip
      centre := ⟨bound sum.x, bound sum.y, bound sum.z⟩
      worst := (c.x.quality.worse c.y.quality).worse c.z.quality, time := s.cellTime
      due := decide (p.qual = .unqualified ∨ p.qual = .due), drift := drifts s p
      blank := (s.touch.queues.get arm).blankTimer.isSome
      unsoaked := decide (workpieceCount s < 2 ∨ ∃ d ∈ workpieceSpread s, (s.temp.spreadLimit : Int) < d)
      sat := c.x.sat || c.y.sat || c.z.sat ||
        decide (bound sum.x ≠ sum.x ∨ bound sum.y ≠ sum.y ∨ bound sum.z ≠ sum.z) } := by
  have due : decide (p.qual ≠ .qualified) = decide (p.qual = .unqualified ∨ p.qual = .due) :=
    decide_eq_decide.mpr notQualified_iff
  rw [← unsoaked_eq]
  simp only [touchRecord, tipAxis, clampCount_eq, due, Bool.decide_or]
  congr 1
  ac_rfl

end Record

/-! ### The checks of TOUCH (Table 8.2) -/

section Checks
variable {s : State} {arm : Arm} {r : Request} {e : Fin 14} {p : Probe} {o : Axes Int}

/-- The first check of Table 8.2 that a TOUCH fails. -/
def touchRefusal (arm : Arm) (r : Request) (s : State) : Option ResultCode :=
  if (s.sup.get arm).state ≠ .running then some .state
  else if (s.rack.changes.get arm).phase ≠ .idle then some .state
  else if ¬ ∃ e : Fin 14, ∃ p ∈ entryAt s e, p.location = .head arm then some .noProbe
  else if ¬ ∃ e : Fin 14, ∃ p ∈ entryAt s e, p.location = .head arm ∧ r.sel.toNat < p.tips.length then some .badSelector
  else if 32 ≤ (s.touch.queues.get arm).records.length then some .queueFull
  else none

theorem headProbe_eq_some_iff (hs : SlotsSound s) :
    headProbe s arm = some e ↔ ∃ p ∈ entryAt s e, p.location = .head arm := by
  constructor
  · intro found
    exact Option.map_eq_some_iff.mp (onHead_headProbe found)
  · intro located
    exact headProbe_of_onHead hs (Option.map_eq_some_iff.mpr located)

/-- The queue with a record appended at its newest end (R142). -/
def touched (arm : Arm) (t : TouchRecord) (s : State) : State :=
  s.setQueue arm { s.touch.queues.get arm with
    records := (s.touch.queues.get arm).records ++ [t], counter := (s.touch.queues.get arm).counter + 1 }

theorem touchBy_of_refusal {code : ResultCode} (hs : SlotsSound s) (h : touchRefusal arm r s = some code) :
    touchBy arm r s = refuse code s := by
  have openIff : changeOpen s arm = true ↔ (s.rack.changes.get arm).phase ≠ .idle := decide_eq_true_iff
  simp only [touchRefusal] at h
  simp only [touchBy, openIff]
  by_cases running : (s.sup.get arm).state ≠ .running
  · rw [if_pos running] at h; cases h; exact if_pos running
  rw [if_neg running] at h ⊢
  by_cases idle : (s.rack.changes.get arm).phase ≠ .idle
  · rw [if_pos idle] at h; cases h; exact if_pos idle
  rw [if_neg idle] at h ⊢
  cases mounted : headProbe s arm with
  | none =>
    have absent : ¬ ∃ e : Fin 14, ∃ p ∈ entryAt s e, p.location = .head arm := by
      rintro ⟨e, located⟩
      rw [(headProbe_eq_some_iff hs).mpr located] at mounted
      cases mounted
    rw [if_pos absent] at h; cases h; rfl
  | some e =>
    obtain ⟨p, hp, head⟩ := (headProbe_eq_some_iff hs).mp mounted
    have onHead : ∃ e : Fin 14, ∃ p ∈ entryAt s e, p.location = .head arm := ⟨e, p, hp, head⟩
    have inTips : (∃ e : Fin 14, ∃ p ∈ entryAt s e, p.location = .head arm ∧ r.sel.toNat < p.tips.length) ↔
        r.sel.toNat < p.tips.length := by
      refine ⟨fun ⟨f, q, hq, location, within⟩ => ?_, fun within => ⟨e, p, hp, head, within⟩⟩
      have same := (headProbe_eq_some_iff hs).mpr ⟨q, hq, location⟩
      rw [mounted] at same
      cases same
      rw [hp] at hq
      cases hq
      exact within
    rw [if_neg (not_not.mpr onHead)] at h
    simp only [Option.mem_def.mp hp]
    by_cases within : r.sel.toNat < p.tips.length
    · rw [if_neg (not_not.mpr (inTips.mpr within))] at h
      rw [List.getElem?_eq_getElem within]
      split_ifs at h with full
      cases h
      exact if_pos full
    · rw [if_pos (inTips.not.mpr within)] at h
      cases h
      rw [List.getElem?_eq_none_iff.mpr (not_lt.mp within)]

theorem touchBy_of_taken (hs : SlotsSound s) (h : touchRefusal arm r s = none) (hp : entryAt s e = some p)
    (head : p.location = .head arm) (tip : p.tips[r.sel.toNat]? = some o) :
    touchBy arm r s =
      let t := touchRecord arm p r.sel.toNat o (rawWords r) s
      okay (reportFill arm (countUse e (touched arm t s))) (BitVec.ofInt 32 t.centre.x) (BitVec.ofInt 32 t.centre.y)
        (BitVec.ofInt 32 t.centre.z) := by
  have mounted : headProbe s arm = some e := (headProbe_eq_some_iff hs).mpr ⟨p, hp, head⟩
  simp only [touchRefusal] at h
  split_ifs at h with running idle probe inTips full
  have closed : ¬ changeOpen s arm = true := by
    rw [changeOpen, decide_eq_true_iff]; exact idle
  simp only [touchBy, mounted, hp, tip]
  rw [if_neg running, if_neg closed]
  exact if_neg full

end Checks

/-! ### The touch counted (R115, R143) -/

section Counted
variable {s : State} {arm : Arm} {e : Fin 14} {p : Probe} {t : TouchRecord}

/-- The use count rises by one up to 65,535. -/
theorem useCount_eq (n : Nat) : min 65535 (n + 1) = if n < 65535 then n + 1 else 65535 := by
  split_ifs <;> omega

/-- The probe's record and the PROBE source after its use is counted (R115). -/
theorem countUse_eq (hp : entryAt s e = some p) :
    let used := if p.useCount < 65535 then p.useCount + 1 else 65535
    let due := decide (p.qual = .qualified ∧ s.registry.useLimit ≤ used)
    (∀ f : Fin 14, entryAt (countUse e s) f =
      if f = e then some { p with useCount := used, qual := if due then .due else p.qual } else entryAt s f) ∧
    (countUse e s).attn.cell.probe =
      (if due then s.attn.cell.probe.raise (addMark · e.val) else s.attn.cell.probe) := by
  intro used due
  have spec := countUse_spec hp
  rw [useCount_eq] at spec
  by_cases reached : p.qual = .qualified ∧ s.registry.useLimit ≤ used
  · have yes : due = true := decide_eq_true reached
    rw [if_pos reached] at spec
    rw [spec, yes]
    refine ⟨fun f => ?_, rfl⟩
    exact entryAt_setEntry ..
  · have no : due = false := decide_eq_false reached
    rw [if_neg reached] at spec
    rw [spec, no]
    refine ⟨fun f => ?_, rfl⟩
    exact entryAt_setEntry ..

/-- The state of a touch taken: the record appended, the use counted and the fill level reported. -/
def touchTaken (arm : Arm) (e : Fin 14) (t : TouchRecord) (s : State) : State :=
  reportFill arm (countUse e (touched arm t s))

theorem reportFill_unchangedBut (arm : Arm) (s : State) : unchangedBut [.touchSource] s (reportFill arm s) := by
  rw [reportFill]
  split
  · exact raiseTouch_unchangedBut s arm
  · exact unchangedBut_refl _ _

theorem touchTaken_unchangedBut (arm : Arm) (e : Fin 14) (t : TouchRecord) (s : State) :
    unchangedBut [.queue arm, .entries, .probeSource, .touchSource] s (touchTaken arm e t s) :=
  unchangedBut_append (setQueue_unchangedBut s arm _)
    (unchangedBut_append (countUse_unchangedBut e _) (reportFill_unchangedBut arm _))

theorem touchTaken_queue (arm : Arm) (e : Fin 14) (t : TouchRecord) (s : State) :
    (touchTaken arm e t s).touch.queues.get arm = { s.touch.queues.get arm with
      records := (s.touch.queues.get arm).records ++ [t], counter := (s.touch.queues.get arm).counter + 1 } :=
  (unchangedBut_append (countUse_unchangedBut e _) (reportFill_unchangedBut arm _) (.queue arm) (by simp)).trans
    (PerArm.get_set_same ..)

theorem touchTaken_touchSource (arm : Arm) (e : Fin 14) (t : TouchRecord) (s : State) :
    (touchTaken arm e t s).attn.cell.touch = if s.touch.fillLevel ≤ (s.touch.queues.get arm).records.length + 1 then
      s.attn.cell.touch.raise (addMark · (armIndex arm)) else s.attn.cell.touch := by
  have counted := countUse_unchangedBut e (touched arm t s)
  have level : (countUse e (touched arm t s)).touch.fillLevel = s.touch.fillLevel := (counted .touchSettings (by simp)).2
  have queue : (countUse e (touched arm t s)).touch.queues.get arm = (touched arm t s).touch.queues.get arm :=
    counted (.queue arm) (by simp)
  have source : (countUse e (touched arm t s)).attn.cell.touch = s.attn.cell.touch := counted .touchSource (by simp)
  have length : ((touched arm t s).touch.queues.get arm).records.length = (s.touch.queues.get arm).records.length + 1 := by
    rw [touched, State.setQueue_touch, PerArm.get_set_same, List.length_append, List.length_singleton]
  rw [touchTaken, reportFill, level, queue, length]
  split_ifs
  · exact congrArg (Source.raise (addMark · (armIndex arm))) source
  · exact source

theorem touchTaken_probe (hp : entryAt s e = some p) :
    let used := if p.useCount < 65535 then p.useCount + 1 else 65535
    let due := decide (p.qual = .qualified ∧ s.registry.useLimit ≤ used)
    (∀ f : Fin 14, entryAt (touchTaken arm e t s) f =
      if f = e then some { p with useCount := used, qual := if due then .due else p.qual } else entryAt s f) ∧
    (touchTaken arm e t s).attn.cell.probe =
      (if due then s.attn.cell.probe.raise (addMark · e.val) else s.attn.cell.probe) := by
  have filled := reportFill_unchangedBut arm (countUse e (touched arm t s))
  have entries : (touchTaken arm e t s).registry.entries = (countUse e (touched arm t s)).registry.entries :=
    filled .entries (by simp)
  have source : (touchTaken arm e t s).attn.cell.probe = (countUse e (touched arm t s)).attn.cell.probe :=
    filled .probeSource (by simp)
  obtain ⟨counted, attention⟩ := countUse_eq (s := touched arm t s) hp
  refine ⟨fun f => ?_, source.trans attention⟩
  rw [entryAt, entries]
  exact counted f

end Counted

/-! ### The request -/

section Request
variable {s : State} {arm : Arm} {r : Request} {e : Fin 14} {p : Probe} {o : Axes Int}

theorem touchRefusal_acceptFrame (arm : Arm) (r : Request) (s : State) :
    touchRefusal arm r (acceptFrame (linkOf arm) s) = touchRefusal arm r s := by
  have state : ((acceptFrame (linkOf arm) s).sup.get arm).state = (s.sup.get arm).state := by rw [acceptFrame_own]
  simp only [touchRefusal, entryAt_acceptFrame, acceptFrame_rack, acceptFrame_touch, state]

theorem slotsSound_acceptFrame (hs : RackSound s) (l : Link) : SlotsSound (acceptFrame l s) :=
  (rackSound_iff.mp hs).1.congr (congrArg Rack.slots (acceptFrame_rack l s))
    (congrArg Registry.entries (acceptFrame_registry l s))

theorem exec_touch_of_refusal {code : ResultCode} (hs : RackSound s) (ha : onArm arm r s)
    (h : touchRefusal arm r s = some code) :
    exec (.touch r) s = .next (answered (linkOf arm) (Reply.zeros code) (frameEnded (linkOf arm) s)) := by
  refine congrArg Host.Outcome.next ?_
  rw [← endEvent_acceptFrame]
  exact handleRequest_onArm ha (fun arm => touchBy arm r)
    (touchBy_of_refusal (slotsSound_acceptFrame hs _) (by rw [touchRefusal_acceptFrame, h]))

theorem exec_touch_of_taken (hs : RackSound s) (ha : onArm arm r s) (h : touchRefusal arm r s = none)
    (hp : entryAt s e = some p) (head : p.location = .head arm) (tip : p.tips[r.sel.toNat]? = some o) :
    exec (.touch r) s =
      let t := touchRecord arm p r.sel.toNat o (rawWords r) s
      .next (endEvent (linkOf arm) { code := .ok, d0 := BitVec.ofInt 32 t.centre.x, d1 := BitVec.ofInt 32 t.centre.y
                                     d2 := BitVec.ofInt 32 t.centre.z } s
        (touchTaken arm e t (acceptFrame (linkOf arm) s))) := by
  have taken := touchBy_of_taken (slotsSound_acceptFrame hs (linkOf arm)) (by rw [touchRefusal_acceptFrame, h])
    ((entryAt_acceptFrame _ s e).trans hp) head tip
  rw [touchRecord_acceptFrame] at taken
  exact congrArg Host.Outcome.next (handleRequest_onArm ha (fun arm => touchBy arm r) taken)

end Request

/-- Settles O51: the first failing check, or the record appended and the touch counted. -/
theorem touchAppendsARecord : Obligations.TouchAppendsARecord := by
  intro arm r s ha hs l q tip refusal
  have hrefusal : refusal = touchRefusal arm r s := rfl
  rw [hrefusal]
  refine ⟨fun code h => exec_touch_of_refusal hs ha h, fun h e p o hp head ho => ?_⟩
  intro c bound sum record used due
  have hrecord : touchRecord arm p tip o (rawWords r) s = record := touchRecord_eq s
  have run := exec_touch_of_taken hs ha h hp head ho
  rw [hrecord] at run
  have hm := touchTaken_unchangedBut arm e record (acceptFrame l s)
  have ended (b : Block) (hb : b ∉ [.supervisor .a, .permitSource .a, .supervisor .b, .permitSource .b, .port l]) :=
    endEvent_unchangedBut l ⟨.ok, BitVec.ofInt 32 (bound sum.x), BitVec.ofInt 32 (bound sum.y),
      BitVec.ofInt 32 (bound sum.z)⟩ s (touchTaken arm e record (acceptFrame l s)) b hb
  obtain ⟨entries, probe⟩ := touchTaken_probe (arm := arm) (t := record) ((entryAt_acceptFrame l s e).trans hp)
  simp only [entryAt_acceptFrame, acceptFrame_registry, acceptFrame_attn] at entries probe
  have entry (f : Fin 14) := (congrArg (vget · f) (ended .entries (by simp))).trans (entries f)
  have queue := touchTaken_queue arm e record (acceptFrame l s)
  have touch := touchTaken_touchSource arm e record (acceptFrame l s)
  simp only [acceptFrame_touch, acceptFrame_attn] at queue touch
  obtain ⟨port, sup, kept⟩ := endEvent_ownBlocks (by cases arm <;> decide) hm _
  refine ⟨_, run, (ended (.queue arm) (by simp)).trans queue, (entry e).trans (if_pos rfl),
    fun f other => (entry f).trans (if_neg other), (ended .probeSource (by simp)).trans probe,
    (ended .touchSource (by simp)).trans touch, port, sup, unchangedBut_mono (by simp [l]) kept⟩

end Sys2Proof.Machine
end

section
/-! PROOFS. POSITION: the record, the guard record and the causes that it brings up to date (section 3.6). -/

namespace Sys2Proof.Machine

section Position
variable {arm : Arm} {p : PosRecord} {s : State}

/-! ### The states that a POSITION passes through -/

/-- The last position record written, with COMP attention (R54, R57). -/
def positionKept (arm : Arm) (p : PosRecord) (s : State) : State :=
  reportComp arm (s.lastPos.get arm) p.worst (s.setLastPos arm (some p))

/-- The guard record formed and its verdict judged (R77 to R79). -/
def positionGuarded (arm : Arm) (p : PosRecord) (s : State) : State :=
  judgeVerdict arm ((positionKept arm p s).setGuard arm (some (formGuard arm p s)))

/-- COMP_LOST and OVERDUE brought up to date (R86, R97). -/
def positionJudged (arm : Arm) (p : PosRecord) (s : State) : State :=
  setPresent arm .overdue false (setPresent arm .compLost (compLost p) (positionGuarded arm p s))

/-- The report timer restarted unless the arm is DISABLED (R97). -/
def positionDone (arm : Arm) (p : PosRecord) (s : State) : State :=
  if (s.sup.get arm).state = .disabled then positionJudged arm p s else restartReport arm (positionJudged arm p s)

theorem positionKept_sup : (positionKept arm p s).sup = s.sup := by
  rw [positionKept, reportComp]; split <;> rfl

theorem positionJudged_state : ((positionJudged arm p s).sup.get arm).state = (s.sup.get arm).state := by
  rw [positionJudged, setPresent_state, setPresent_state, positionGuarded, judgeVerdict_state, State.setGuard_sup,
    positionKept_sup]

theorem formGuard_positionKept : formGuard arm p (positionKept arm p s) = formGuard arm p s := by
  rw [positionKept, reportComp]; split <;> rfl

theorem positionBy_eq (r : Request) :
    let p := positionRecord s (compensate s arm (rawWords r))
    positionBy arm r s = ⟨positionDone arm p s, ⟨.ok, BitVec.ofInt 32 p.corrected.x, BitVec.ofInt 32 p.corrected.y,
      BitVec.ofInt 32 p.corrected.z⟩, .position arm⟩ := by
  intro p
  rw [positionDone, ← positionJudged_state (p := p), positionJudged, positionGuarded, ← formGuard_positionKept]
  rfl

theorem positionJudged_unchangedBut (arm : Arm) (p : PosRecord) (s : State) :
    unchangedBut [.lastPos arm, .compSource arm, .guard arm, .supervisor arm, .faultSource] s
      (positionJudged arm p s) :=
  unchangedBut_mono (by simp) <|
    unchangedBut_append (setLastPos_unchangedBut s arm _) <| unchangedBut_append (reportComp_unchangedBut arm _ _ _) <|
    unchangedBut_append (setGuard_unchangedBut _ arm _) <| unchangedBut_append (judgeVerdict_unchangedBut arm _) <|
    unchangedBut_append (setPresent_unchangedBut arm _ _ _) (setPresent_unchangedBut arm _ _ _)

theorem positionDone_unchangedBut_judged (arm : Arm) (p : PosRecord) (s : State) :
    unchangedBut [.supervisor arm] (positionJudged arm p s) (positionDone arm p s) := by
  rw [positionDone]
  split
  · exact unchangedBut_refl _ _
  · exact restartReport_unchangedBut arm _

theorem positionDone_unchangedBut_kept (arm : Arm) (p : PosRecord) (s : State) :
    unchangedBut [.guard arm, .supervisor arm, .faultSource] (positionKept arm p s) (positionDone arm p s) :=
  unchangedBut_mono (by simp) <|
    unchangedBut_append (setGuard_unchangedBut _ arm _) <| unchangedBut_append (judgeVerdict_unchangedBut arm _) <|
    unchangedBut_append (setPresent_unchangedBut arm _ _ _) <| unchangedBut_append (setPresent_unchangedBut arm _ _ _)
    (positionDone_unchangedBut_judged arm p s)

theorem positionKept_unchangedBut (arm : Arm) (p : PosRecord) (s : State) :
    unchangedBut [.lastPos arm, .compSource arm] s (positionKept arm p s) :=
  unchangedBut_append (setLastPos_unchangedBut s arm _) (reportComp_unchangedBut arm _ _ _)

theorem positionDone_unchangedBut (arm : Arm) (p : PosRecord) (s : State) :
    unchangedBut [.lastPos arm, .compSource arm, .guard arm, .supervisor arm, .faultSource] s (positionDone arm p s) :=
  unchangedBut_append (positionKept_unchangedBut arm p s) (positionDone_unchangedBut_kept arm p s)

/-! ### What it leaves -/

theorem positionDone_lastPos : (positionDone arm p s).lastPos.get arm = some p := by
  have kept : (positionKept arm p s).lastPos.get arm = some p := by
    rw [positionKept, reportComp]; split <;> simp
  exact (positionDone_unchangedBut_kept arm p s (.lastPos arm) (by simp)).trans kept

theorem positionKept_comp : ((positionKept arm p s).attn.arms.get arm).comp =
    if (s.lastPos.get arm).map PosRecord.worst = some p.worst then (s.attn.arms.get arm).comp
    else (s.attn.arms.get arm).comp.raise fun _ => some p.worst := by
  rw [positionKept, reportComp]
  split
  · rfl
  · simp [raiseComp]

theorem positionDone_present_eq_judged :
    ((positionDone arm p s).sup.get arm).present = ((positionJudged arm p s).sup.get arm).present := by
  rw [positionDone]
  split
  · rfl
  · simp [restartReport]

theorem positionDone_reportTimer (enabled : (s.sup.get arm).state ≠ .disabled) :
    ((positionDone arm p s).sup.get arm).reportTimer =
      some ⟨s.cellTime, timeoutMs (s.sup.get arm).settings.timeoutCode⟩ := by
  have kept := positionJudged_unchangedBut arm p s
  have time : (positionJudged arm p s).cellTime = s.cellTime := kept .time (by simp)
  have settings : ((positionJudged arm p s).sup.get arm).settings = (s.sup.get arm).settings :=
    kept (.settings arm) (by simp)
  rw [positionDone, if_neg enabled, ← time, ← settings]
  simp [restartReport, State.timer]

/-- The guard record formed, its verdict, and the present causes that follow it (R77 to R79, R86). -/
theorem positionDone_judges : ∃ v : Bool,
    (v = true ↔ ∃ z : Fin 16, (formGuard arm p s).needed.getLsbD z.val = true ∧ (zoneAt s z).holder ≠ some arm) ∧
    (positionDone arm p s).zones.guards.get arm = some { formGuard arm p s with violated := v } ∧
    ((positionDone arm p s).sup.get arm).present = { (s.sup.get arm).present with
      guard := v, compLost := compLost p, overdue := false } := by
  obtain ⟨v, guard, verdict, present⟩ := judgeVerdict_present (arm := arm) (g := formGuard arm p s)
    (s := (positionKept arm p s).setGuard arm (some (formGuard arm p s))) (by simp)
  have zones : zoneAt ((positionKept arm p s).setGuard arm (some (formGuard arm p s))) = zoneAt s := by
    rw [positionKept, reportComp]; split <;> rfl
  have done := positionDone_unchangedBut_judged arm p s
  have judged : unchangedBut [.supervisor arm, .faultSource] (positionGuarded arm p s) (positionJudged arm p s) :=
    unchangedBut_mono (by simp)
      (unchangedBut_append (setPresent_unchangedBut arm _ _ _) (setPresent_unchangedBut arm _ _ _))
  refine ⟨v, by rw [verdict, zones], ((done (.guard arm) (by simp)).trans (judged (.guard arm) (by simp))).trans guard, ?_⟩
  rw [positionDone_present_eq_judged, positionJudged, setPresent_present, setPresent_present, positionGuarded, present,
    State.setGuard_sup, positionKept_sup]
  rfl

/-! ### In the words of the chapters -/

theorem workpiece_of_active : (if s.model.active.isSome then workpieceTemperature s else ⟨none, .none⟩) =
    if s.model.active = none then (⟨none, .none⟩ : Temperature) else workpieceTemperature s := by
  cases s.model.active <;> rfl

theorem worstOf_cases (q : Axes Quality) : worstOf q = q.x ∨ worstOf q = q.y ∨ worstOf q = q.z := by
  rw [worstOf]
  obtain outer | outer := Quality.worse_eq (q.x.worse q.y) q.z
  · rw [outer, ← or_assoc]; exact .inl (Quality.worse_eq q.x q.y)
  · exact .inr (.inr outer)

theorem rank_le_worstOf (q : Axes Quality) :
    q.x.rank ≤ (worstOf q).rank ∧ q.y.rank ≤ (worstOf q).rank ∧ q.z.rank ≤ (worstOf q).rank := by
  rw [worstOf, Quality.rank_worse, Quality.rank_worse]; omega

theorem formGuard_eq (arm : Arm) (p : PosRecord) (s : State) : formGuard arm p s =
    let set := (s.sup.get arm).settings
    let tips := ((headRecord s arm).map Probe.tips).getD []
    let px : Int := (tips.map fun t => (t.x.natAbs : Int)).foldl max 0
    let py : Int := (tips.map fun t => t.y).foldl max 0
    let margin : Int := if p.quality.x = .none ∨ p.quality.y = .none then set.margin else 0
    let lower := p.corrected.x - set.halfWidth - px - margin
    let upper := p.corrected.x + set.halfWidth + px + margin
    let intruding := decide (p.corrected.y + py + margin > set.freeReach)
    { lower := lower, upper := upper, margin := decide (p.quality.x = .none ∨ p.quality.y = .none)
      intruding := intruding, needed := neededSet s lower upper intruding, violated := false } := by
  have low (a b c d : Int) : a - (b + c + d) = a - b - c - d := by ring
  have high (a b c d : Int) : a + (b + c + d) = a + b + c + d := by ring
  simp only [formGuard, tipReachX, tipReachY, decide_eq_true_eq, low, high, List.foldl_map]

theorem formGuard_acceptFrame (arm : Arm) (p : PosRecord) (s : State) :
    formGuard arm p (acceptFrame (linkOf arm) s) = formGuard arm p s := by
  have settings : ((acceptFrame (linkOf arm) s).sup.get arm).settings = (s.sup.get arm).settings := by
    rw [acceptFrame_own]
  simp only [formGuard, settings, headRecord_acceptFrame, neededSet, zoneAt_acceptFrame]

theorem positionRecord_acceptFrame (l : Link) (raw : Axes Int) (s : State) :
    positionRecord (acceptFrame l s) (compensate (acceptFrame l s) arm raw) = positionRecord s (compensate s arm raw) := by
  rw [compensate_congr (acceptFrame_temp l s) (acceptFrame_model l s) (acceptFrame_cellTime l s)]
  simp only [positionRecord, acceptFrame_model, acceptFrame_cellTime]

theorem writeReply_conclude_port {l : Link} {u : State} (hports : u.ports.get l = (acceptFrame l s).ports.get l)
    (s0 : State) (t : Trigger) (reply : Reply) :
    (writeReply l reply (conclude s0 t u)).ports.get l = answeredPort reply := by
  simp [writeReply, hports, acceptFrame_port, answeredPort]

/-- POSITION on an arm link, with the state that the judgement of its event leaves. -/
theorem exec_position {r : Request} (ha : onArm arm r s) :
    let p := positionRecord s (compensate s arm (rawWords r))
    exec (.position r) s = .next (writeReply (linkOf arm) ⟨.ok, BitVec.ofInt 32 p.corrected.x,
      BitVec.ofInt 32 p.corrected.y, BitVec.ofInt 32 p.corrected.z⟩
      (conclude s (.position arm) (positionDone arm p (acceptFrame (linkOf arm) s)))) := by
  intro p
  obtain ⟨hl, ht⟩ := ha
  have act : forLinkArm (linkOf arm) (fun arm => positionBy arm r) (acceptFrame (linkOf arm) s) =
      positionBy arm r (acceptFrame (linkOf arm) s) := by simp only [forLinkArm, armOf_linkOf]
  refine congrArg Host.Outcome.next (?_ : handleRequest .armLinks r.link _ s = _)
  rw [hl, handleRequest_permitted ht (by simp [Access.permits]), act, positionBy_eq, positionRecord_acceptFrame]

end Position

/-- Settles O25: the states of `positionDone`, judged on the frame's own acceptance. -/
theorem positionIsReportedAndJudged : Obligations.PositionIsReportedAndJudged := by
  intro arm r s ha l tw first x y z lost set tips px py margin lower upper intruding needs violated
  let p := positionRecord s (compensate s arm (rawWords r))
  let u := acceptFrame l s
  have hp : p = { corrected := ⟨x.value, y.value, z.value⟩, quality := ⟨x.quality, y.quality, z.quality⟩
                  sat := ⟨x.sat, y.sat, z.sat⟩, worst := worstOf ⟨x.quality, y.quality, z.quality⟩
                  tw := tw.value, twQuality := tw.quality
                  tag := s.model.active.map fun im => imageWord im 0, time := s.cellTime } := by
    simp only [p, positionRecord, compensate, workpiece_of_active]
    cases arm <;> rfl
  have hg : formGuard arm p u = { lower := lower, upper := upper, intruding := intruding, violated := false
                                  margin := decide (x.quality = .none ∨ y.quality = .none)
                                  needed := neededSet s lower upper intruding } := by
    rw [formGuard_acceptFrame, hp]
    exact formGuard_eq ..
  have kept := positionDone_unchangedBut arm p u
  obtain ⟨v, verdict, guard, present⟩ := positionDone_judges (arm := arm) (p := p) (s := u)
  have hneeds (n : Fin 16) : (formGuard arm p u).needed.getLsbD n.val = needs n := by rw [hg]; exact neededSet_getLsbD ..
  have hv : v = violated := by
    simp only [hneeds, u, zoneAt_acceptFrame] at verdict
    rw [Bool.eq_iff_iff, verdict, decide_eq_true_iff]
  refine ⟨_, exec_position ha, worstOf ⟨x.quality, y.quality, z.quality⟩, worstOf_cases _, ?_⟩
  obtain ⟨rankX, rankY, rankZ⟩ := rank_le_worstOf ⟨x.quality, y.quality, z.quality⟩
  have leaves {b : Block} (hb : b ∉ [.supervisor .a, .permitSource .a, .supervisor .b, .permitSource .b]) :=
    conclude_unchangedBut s (.position arm) (positionDone arm p u) b hb
  refine ⟨rankX, rankY, rankZ, ?_, ⟨{ formGuard arm p u with violated := v }, ?_, ?_⟩, ?_, fun enabled => ?_, ?_, ?_, ?_⟩
  · exact (leaves (b := .lastPos arm) (by simp)).trans (positionDone_lastPos.trans (congrArg some hp))
  · exact (leaves (b := .guard arm) (by simp)).trans guard
  · exact ⟨by rw [hg], by rw [hg], by rw [hg], by rw [hg], hv, hneeds⟩
  · refine (conclude_present ..).trans ?_
    rw [present, hv, acceptFrame_own, hp]
    rfl
  · refine (conclude_reportTimer_of (by simp) s _).trans ?_
    have own := acceptFrame_own arm s
    rw [positionDone_reportTimer (by rw [own]; exact enabled), own, acceptFrame_cellTime]
    rfl
  · refine (leaves (b := .compSource arm) (by simp)).trans ?_
    refine (positionDone_unchangedBut_kept arm p u (.compSource arm) (by simp)).trans ?_
    rw [positionKept_comp, acceptFrame_lastPos, acceptFrame_attn, hp]
  · refine (writeReply_conclude_port (kept (.port l) (by simp)) s _ _).trans ?_
    change answeredPort ⟨.ok, BitVec.ofInt 32 p.corrected.x, BitVec.ofInt 32 p.corrected.y,
      BitVec.ofInt 32 p.corrected.z⟩ = _
    rw [hp]
  · have reached := unchangedBut_append (acceptFrame_arm_unchangedBut arm s) kept
    have concluded := conclude_arm_unchangedBut (arm := arm) (t := .position arm) reached (by cases arm <;> decide)
      (by cases arm <;> decide)
    exact unchangedBut_mono (by simp [l]) (unchangedBut_append concluded (modPort_unchangedBut _ l _))

end Sys2Proof.Machine
end

section
/-! PROOFS. A frame read back: its bits spell its bytes, its bytes spell the request, and one wrong bit leaves a CRC-8
that is not zero (R160, R161). -/

namespace Sys2Proof.Machine

/-! ### A byte and its eight bits (R160) -/

theorem byteOfBits_concat (l : List Bool) (b : Bool) :
    byteOfBits (l ++ [b]) = byteOfBits l <<< 1 ||| (BitVec.ofBool b).setWidth 8 := List.foldl_concat ..

/-- The bits of a byte stand in it with the last one least significant. -/
theorem byteOfBits_getLsbD (l : List Bool) {i : Nat} (hi : i < 8) :
    (byteOfBits l).getLsbD i = l.reverse.getD i false := by
  induction l using List.reverseRecOn generalizing i with
  | nil => simp [byteOfBits]
  | append_singleton l b ih =>
    rw [byteOfBits_concat]
    cases i with
    | zero => simp
    | succ i =>
      have short : i < 8 := by omega
      simpa [hi, short] using ih short

theorem bitsOfByte_length (b : Byte) : (bitsOfByte b).length = 8 := by simp [bitsOfByte]

theorem byteOfBits_bitsOfByte (b : Byte) : byteOfBits (bitsOfByte b) = b := by
  refine BitVec.eq_of_getLsbD_eq fun i hi => ?_
  have mirrored : 8 - 1 - (7 - i) = i := by omega
  rw [byteOfBits_getLsbD _ hi]
  simp [bitsOfByte, hi, BitVec.getMsbD, mirrored, show 7 - i < 8 by omega]

theorem bitsOfByte_byteOfBits {l : List Bool} (h : l.length = 8) : bitsOfByte (byteOfBits l) = l := by
  refine List.ext_getElem (by rw [bitsOfByte_length, h]) fun i hi hl => ?_
  have mirrored : l.length - 1 - (7 - i) = i := by omega
  have within : i < 8 := by omega
  have bit : (bitsOfByte (byteOfBits l))[i] = (byteOfBits l).getLsbD (7 - i) := by
    simp [bitsOfByte, BitVec.getMsbD, within]
  refine bit.trans ?_
  rw [byteOfBits_getLsbD l (by omega), List.getD_eq_getElem _ _ (by rw [List.length_reverse]; omega),
    List.getElem_reverse]
  simp only [mirrored]

theorem bytesOfBits_bitsOfByte_append (b : Byte) (rest : List Bool) :
    bytesOfBits (bitsOfByte b ++ rest) = b :: bytesOfBits rest :=
  congrArg (· :: bytesOfBits rest) (byteOfBits_bitsOfByte b)

theorem bytesOfBits_flatMap (bytes : List Byte) : bytesOfBits (bytes.flatMap bitsOfByte) = bytes := by
  induction bytes with
  | nil => rfl
  | cons b bytes ih => rw [List.flatMap_cons, bytesOfBits_bitsOfByte_append, ih]

theorem flatMap_bitsOfByte_length (bytes : List Byte) : (bytes.flatMap bitsOfByte).length = 8 * bytes.length := by
  induction bytes with
  | nil => rfl
  | cons b bytes ih => rw [List.flatMap_cons, List.length_append, ih, bitsOfByte_length, List.length_cons]; ring

theorem decodeFrame_flatMap {bytes : List Byte} (h : bytes.length = 16) (link : Link) :
    decodeFrame link (bytes.flatMap bitsOfByte) = commandOfBytes link bytes := by
  rw [decodeFrame, if_pos (by rw [flatMap_bitsOfByte_length, h]), bytesOfBits_flatMap]

/-! ### The request that a frame spells -/

theorem wordOfBytes_bytes (w : Word) : wordOfBytes (w.extractLsb' 0 8) (w.extractLsb' 8 8) (w.extractLsb' 16 8)
    (w.extractLsb' 24 8) = w := by
  refine BitVec.eq_of_getLsbD_eq fun i hi => ?_
  simp only [wordOfBytes, BitVec.getLsbD_append, BitVec.getLsbD_extractLsb']
  split_ifs
  all_goals
    simp (disch := omega) only [decide_eq_true, Bool.true_and]
    congr 1
    omega

theorem commandOfBytes_frameBytes (code : Byte) (r : Request) :
    commandOfBytes r.link (frameBytes code r) = acceptedRequest code r := by
  refine (if_pos ⟨rfl, rfl⟩).trans ?_
  rw [wordOfBytes_bytes, wordOfBytes_bytes, wordOfBytes_bytes]

/-- Whether a code names a request does not depend on the operands. -/
theorem requestOfCode_none {code : Byte} {r : Request} (h : requestOfCode code r = none) (q : Request) :
    requestOfCode code q = none := by
  unfold requestOfCode at h ⊢
  split at h
  case h_53 => rfl
  all_goals cases h

theorem acceptedRequest_of_codeOf {i : Instr} {code : Byte} {r : Request} (hw : WellFormed i = true)
    (h : codeOf i = some (code, r)) : acceptedRequest code r = i := by
  cases i
  case unknownRequest =>
    cases h
    rw [acceptedRequest, requestOfCode_none (Option.isNone_iff_eq_none.mp hw), Option.getD_none]
  all_goals cases h
  all_goals rfl

/-! ### One wrong bit (R161) -/

/-- The CRC-8 register before a shift: its polynomial is odd, so bit 0 shows whether it was combined. -/
def crc8Unshift (reg : Byte) : Byte :=
  if reg.getLsbD 0 then ((reg ^^^ 0x07#8) >>> 1) ||| 0x80#8 else reg >>> 1

theorem crc8Unshift_crc8Shift : ∀ reg : Byte, crc8Unshift (crc8Shift reg) = reg := by decide

theorem crc8Shift_injective : Function.Injective crc8Shift :=
  Function.LeftInverse.injective (g := crc8Unshift) crc8Unshift_crc8Shift

/-- The same byte combined into two registers leaves them different. -/
theorem crc8Byte_injective (b : Byte) : Function.Injective (crc8Byte · b) := fun reg reg' h => by
  simpa using repeat_injective crc8Shift_injective 8 h

/-- Two bytes combined into the same register leave it different. -/
theorem crc8Byte_injective_byte (reg : Byte) : Function.Injective (crc8Byte reg) := fun b c h => by
  simpa using repeat_injective crc8Shift_injective 8 h

theorem foldl_crc8Byte_injective (bytes : List Byte) : Function.Injective (bytes.foldl crc8Byte) := by
  induction bytes with
  | nil => exact Function.injective_id
  | cons b bytes ih => exact ih.comp (crc8Byte_injective b)

/-- One byte wrong anywhere in a run changes the run's CRC-8: the registers differ after it and stay different. -/
theorem crc8_ne_of_one_byte {b b' : Byte} (h : b' ≠ b) (before after : List Byte) :
    crc8 (before ++ b' :: after) ≠ crc8 (before ++ b :: after) := by
  simp only [crc8, List.foldl_append, List.foldl_cons]
  exact (foldl_crc8Byte_injective after).ne ((crc8Byte_injective_byte _).ne h)

theorem commandOfBytes_of_crc8 {bytes : List Byte} (h : crc8 bytes ≠ 0#8) (link : Link) :
    commandOfBytes link bytes = .frameDiscard link := by
  unfold commandOfBytes
  split
  · next code sel a0 a1 a2 a3 b0 b1 b2 b3 c0 c1 c2 c3 zero crc =>
    refine if_neg fun checks => h ?_
    rw [checks.1]
    exact crc8_append_self [code, sel, a0, a1, a2, a3, b0, b1, b2, b3, c0, c1, c2, c3, zero]
  · rfl

/-- One wrong bit of a run of bytes makes one byte wrong. -/
theorem one_wrong_byte (bytes : List Byte) {k : Nat} (hk : k < 8 * bytes.length) :
    let bits := bytes.flatMap bitsOfByte
    ∃ before b b' after, bytes = before ++ b :: after ∧ b' ≠ b ∧
      bits.set k (!bits.getD k false) = (before ++ b' :: after).flatMap bitsOfByte := by
  induction bytes generalizing k with
  | nil => cases hk
  | cons b bytes ih =>
    intro bits
    have hbits : bits = bitsOfByte b ++ bytes.flatMap bitsOfByte := List.flatMap_cons ..
    rw [hbits]
    by_cases inside : k < 8
    · have here : k < (bitsOfByte b).length := by rwa [bitsOfByte_length]
      rw [List.getD_append _ _ _ _ here, List.set_append_left _ _ here]
      let wrong := (bitsOfByte b).set k (!(bitsOfByte b).getD k false)
      have spelled : bitsOfByte (byteOfBits wrong) = wrong := bitsOfByte_byteOfBits (by simp [wrong, bitsOfByte_length])
      refine ⟨[], b, byteOfBits wrong, bytes, rfl, fun same => ?_, ?_⟩
      · have bit := congrArg (·.getD k false) (spelled.symm.trans (congrArg bitsOfByte same))
        simp [wrong, here] at bit
      · rw [List.nil_append, List.flatMap_cons, spelled]
    · have later : (bitsOfByte b).length ≤ k := by rw [bitsOfByte_length]; omega
      obtain ⟨before, c, c', after, split, other, wrong⟩ := ih (k := k - 8) (by rw [List.length_cons] at hk; omega)
      rw [List.getD_append_right _ _ _ _ later, List.set_append_right _ _ later, bitsOfByte_length, wrong]
      exact ⟨b :: before, c, c', after, by rw [split]; rfl, other, by rw [List.cons_append, List.flatMap_cons]⟩

theorem encodeFrame_eq_some {i : Instr} {link : Link} {bits : List Bool} (h : encodeFrame i = some (link, bits)) :
    ∃ code r, codeOf i = some (code, r) ∧ r.link = link ∧ (frameBytes code r).flatMap bitsOfByte = bits := by
  obtain ⟨⟨code, r⟩, carried, same⟩ := Option.map_eq_some_iff.mp h
  exact ⟨code, r, carried, congrArg Prod.fst same, congrArg Prod.snd same⟩

theorem frameBytes_length (code : Byte) (r : Request) : (frameBytes code r).length = 16 := rfl

/-- Settles O5: the bits spell the bytes and these the request; a wrong bit makes one byte wrong, and the sixteen bytes
have no longer the CRC-8 zero. -/
theorem framesDecodeBackAndShowEveryWrongBit : Obligations.FramesDecodeBackAndShowEveryWrongBit := by
  refine ⟨fun i link bits hw h => ?_, fun i link bits k h => ?_⟩
  · obtain ⟨code, r, carried, rfl, rfl⟩ := encodeFrame_eq_some h
    refine ⟨flatMap_bitsOfByte_length _, ?_⟩
    rw [decodeFrame_flatMap (frameBytes_length code r), commandOfBytes_frameBytes, acceptedRequest_of_codeOf hw carried]
  · obtain ⟨code, r, carried, rfl, rfl⟩ := encodeFrame_eq_some h
    obtain ⟨before, b, b', after, split, other, wrong⟩ := one_wrong_byte (frameBytes code r) (k := k.val) (by
      rw [frameBytes_length]; exact k.isLt)
    have length : (before ++ b' :: after).length = 16 := by
      have := congrArg List.length split
      rw [frameBytes_length] at this
      simpa using this.symm
    have right : crc8 (before ++ b :: after) = 0#8 := by rw [← split]; exact crc8_append_self _
    rw [wrong, decodeFrame_flatMap length, commandOfBytes_of_crc8]
    rw [← right]
    exact crc8_ne_of_one_byte other before after

end Sys2Proof.Machine
end
